-- ==== Sys2Proof/Word.lean ====
section
/-! DEFINITION. The words of the hardware: byte, 16-bit word, 24-bit processor address (spec 00_scope 0.8). -/

namespace Sys2Proof

/-- One byte. -/
abbrev Byte := BitVec 8

/-- A word is 16 bits; bit 15 is the most significant (section 0.8). -/
abbrev Word := BitVec 16

/-- An address of the processor's 24-bit space (section 0.8). -/
abbrev Addr := BitVec 24

end Sys2Proof
end

