-- ==== Sys2Proof/Syntax.lean ====
section
/-! DEFINITION. The commands of the part: one constructor of `Instr` for each row of spec/opcode_table.json, with what
the environment brings as its operands (logs 1, 4, 8 to 12). -/

namespace Sys2Proof

/-- The two motor channels (chapter 4): D the document feed, P the paper feed. -/
inductive Chan where
  | d
  | p
  deriving DecidableEq, Repr

/-- The six level sensors of Table 4-4; RINGING is not one of them (R91). -/
inductive Sensor where
  | docPresent
  | docAtLine
  | paperPresent
  | coverClosed
  | hook
  | key
  deriving DecidableEq, Repr

/-- What a processor access does: a read or a write of a byte or a word (Table 0-2). -/
inductive AccessOp where
  | readByte
  | readWord
  | writeByte (v : Byte)
  | writeWord (v : Word)
  deriving DecidableEq, Repr

/-- Words that a ROM read of the Boot Unit returned wrongly: the place in the burst and the word read instead
(R163: "a ROM read that differed"; log 8). -/
abbrev Misread := List (Nat × Word)

/-- The commands: the rows of spec/opcode_table.json, in its order. -/
inductive Instr where
  | powerOn
  | resetLineAssert (words : Nat)
  | resetLineRelease
  | holdDelayEnd
  | headerReadEnd (misread : Misread)
  | fillEnd
  | copyAttemptEnd
  | bootRelease
  | processorAccess (addr : Addr) (op : AccessOp)
  | arbiterGrant
  | refreshDue
  | processorGrantEnd
  | accessHoldExpiry
  | bodyFetchEnd
  | takenWriteEnd
  | finalWriteEnd
  | setWindow
  | clearWindow
  | setBand
  | resetBand
  | setProfile
  | profileRecordReadEnd
  | setChannel
  | setRinging
  | setAttention
  | sleep
  | patternTableReadEnd
  | restart
  | abort
  | emitEnd
  | move
  | capture
  | emit
  | transfer
  | segmentRecordReadEnd
  | reportPostEnd
  | chopPeriodStart
  | stepTimerExpiry (c : Chan)
  | holdTimerExpiry (c : Chan)
  | sensorInputChange (sensor : Sensor) (level : Bool)
  | debouncedChange (sensor : Sensor) (reportLast : Bool) (pFirst : Bool)
  | clockingEnd (pixels : List Bool)
  | writeBackEnd
  | pauseTimerExpiry (c : Chan)
  | fetchGrantEnd
  | shiftEnd
  | strobeGroupEnd
  | moverGrantEnd
  | sleepEntry
  | selfRefreshEntry
  | sleepLimitExpiry
  | patternTimerExpiry (pattern : Fin 4)
  | wakeTimerExpiry
  | wakeWordWritten
  | confirmTimerExpiry (words : Nat)
  | ringingPulse (gap : Nat)
  | burstEnd
  | windowTimerExpiry
  | supplyFall
  | bootBurstEnd (misread : Misread)
  | refreshCycleEnd
  deriving DecidableEq, Repr

end Sys2Proof
end

