-- ==== Sys2Proof/Config.lean ====
section
/-! DEFINITION. What is fixed for the part: the sizes and limits the spec states, the bytes that unlisted memory
reads as (DESIGN CHOICE, logs 5 and 6), and the two free values (logs 10 and 41). -/

namespace Sys2Proof.Config

/-- One megabyte, the unit of the installed DRAM size (section 1.1). -/
def megabyte : Nat := 0x100000

/-- The first address of the boot ROM region (Table 1-1). -/
def romBase : Nat := 0xE00000

/-- The first address that the part does not decode (Table 1-1). -/
def outsideBase : Nat := 0x800000

/-- The pending queue is a FIFO of 8 reports (section 2.6). -/
def pendingPlaces : Nat := 8

/-- A queue holds at most 4 waiting orders (R36). -/
def waitingPlaces : Nat := 4

/-- Header reads and copy attempts are made at most 8 times (R159, R163). -/
def bootAttempts : Nat := 8

/-- The most words of a Block Mover or Boot Unit burst, and of a mover chunk (Table 1-5, R136). -/
def burstWords : Nat := 16

/-- The most words of one record read of the Order Intake (Table 1-5). -/
def recordWords : Nat := 7

/-- The ROM offset of the boot header (R159). -/
def headerOffset : Nat := 0x1FFF80

/-- The signature word of the boot header (Table 11-8). -/
def signature : Word := 0x3140

/-- The overlay length of a boot that ends in NO_HEADER (R4). -/
def defaultOverlay : Nat := 0x10000

/-- What a DRAM byte that nothing has written reads as. DESIGN CHOICE (log 5, unsafe): the spec calls DRAM after
POWER-ON undefined (R157); 00h is what FILL leaves (R162). -/
def unlistedDram : Byte := 0

/-- What a ROM byte that the state does not list reads as. DESIGN CHOICE (log 6, unsafe): the ROM's contents are the
machine's, not the part's. -/
def unlistedRom : Byte := 0xFF

/-- A pixel that a CLOCKING_END command does not bring. FREE VALUE (log 10): nothing constrains it. -/
opaque unsampledPixel : Nat → Bool

/-- The interval of a level that the profile does not have. FREE VALUE (log 41): nothing constrains it. -/
opaque absentInterval : Nat → Nat

end Sys2Proof.Config
end

