-- ==== Sys2Proof/Machine/State.lean ====
section
/-! DEFINITION. The state of the 3140: every register, mark, queue, timer, store and pin the spec names, as plain data
(INVENTORY.md lists each with its rule), the queue of commands, and the state after reset. -/

namespace Sys2Proof.Machine

/-! ### Reasons to stop -/

/-- Why a step could stop with a fault. It has no constructor: nothing in the spec stops the part. What the spec calls
a fault is a PASSAGE report (section 1.6), which is data. -/
inductive Fault : Type
  deriving DecidableEq, Repr

/-- Why a command could be refused. -/
inductive Refusal where
  /-- Raised by an arm of `exec` whose command has no meaning yet; safe. No arm raises it. -/
  | notModelled (mnemonic : String)
  deriving DecidableEq, Repr

/-! ### Pins -/

/-- The pins that act on the whole part (section 0.2, R143, R157, R158). -/
structure Pins where
  /-- the supply is up (R157) -/
  supply : Bool
  /-- the external reset line is asserted (R158) -/
  resetLine : Bool
  /-- the processor reset output is asserted (R157) -/
  procReset : Bool
  /-- the processor clock runs (R143) -/
  clock : Bool
  deriving DecidableEq, Repr

/-! ### Passage -/

/-- The overlay mode (R4). -/
inductive OverlayMode where
  | noOverlay
  | shadow
  | romDirect
  deriving DecidableEq, Repr

/-- Who makes a classified access (R1, R14). -/
inductive Requester where
  | processor
  | mover
  deriving DecidableEq, Repr

/-- One access as it reaches the Passage: the address presented and what it does (R1, R15). -/
structure Access where
  addr : Nat
  op : AccessOp
  deriving DecidableEq, Repr

/-- What an access does to the marks when its grant ends (section 3.4). -/
inductive Obs where
  | nothing
  | fill (b : Fin 4) (line : Nat)
  | drain (b : Fin 4) (line : Nat)
  | bandOrder (b : Fin 4)
  deriving DecidableEq, Repr

/-- Where a passing access goes (R1): straight to DRAM, to a ROM offset, or to DRAM after the judgement of the Band Unit.
`judged` is what that judgement found, none once the state of the access's line has changed since, so that the access is
judged again at its grant (R65). -/
inductive Path where
  | plain
  | rom (offset : Nat)
  | band (b : Fin 4) (judged : Option Obs)
  deriving DecidableEq, Repr

/-- What a held access awaits (Table 1-3). -/
inductive HoldReason where
  /-- a band line -/
  | line (b : Fin 4) (line : Nat)
  /-- the end of the body fetch of an order slot -/
  | slot (i : Nat)
  /-- the rest read -/
  | rest
  deriving DecidableEq, Repr

/-- The access hold timer (R15): never started for this access, running towards its limit, or stopped at a release. -/
inductive HoldTimer where
  | unused
  | running (limit : Nat)
  | stopped (limit : Nat)
  deriving DecidableEq, Repr

/-- How far the processor's access has come: held (R15), judged to pass and awaiting or in its grant, or a read that
completes an expiry or a cancellation and is not judged again (R17, R18). -/
inductive CpuStatus where
  | held (why : HoldReason)
  | passing (path : Path)
  | completing
  deriving DecidableEq, Repr

/-- The processor's one outstanding access (R15). -/
structure CpuAccess where
  acc : Access
  status : CpuStatus
  timer : HoldTimer
  deriving DecidableEq, Repr

/-- What the bus returned for the last access completed: the access, and for a read the data (a byte in bits 7 to 0). -/
structure Reply where
  acc : Access
  data : Option Word
  deriving DecidableEq, Repr

/-- The Passage (R1 to R6, R15, R20). -/
structure Passage where
  installedMb : Nat
  mode : OverlayMode
  overlayLength : Nat
  overlayBase : Nat
  imageLength : Nat
  guard : Bool
  cpu : Option CpuAccess
  reply : Option Reply
  unposted : Nat
  deriving DecidableEq, Repr

/-! ### Window Table -/

/-- The kinds of a window entry (section 1.3). -/
inductive WindowKind where
  | off
  | guard
  | band
  | orders
  | reports
  deriving DecidableEq, Repr

/-- One entry of the Window Table; its other fields are 0 when the kind is OFF (section 1.3). -/
structure Window where
  kind : WindowKind
  base : Nat
  length : Nat
  band : Fin 4
  deriving DecidableEq, Repr

/-- An entry of kind OFF. -/
def Window.none : Window := { kind := .off, base := 0, length := 0, band := 0 }

/-! ### Bands -/

/-- The roles of a band (R50). -/
inductive Role where
  | off
  | capture
  | emit
  | copy
  deriving DecidableEq, Repr

/-- The states of a band line (R52). -/
inductive LineState where
  | empty
  | filling
  | full
  | draining
  deriving DecidableEq, Repr

/-- A band record (R50). -/
structure Band where
  role : Role
  entry : Option (Fin 8)
  pitch : Nat
  width : Nat
  lines : Nat
  holdLimit : Nat
  noticeLevel : Nat
  f : Nat
  d : Nat
  c : Nat
  filling : Nat
  draining : Nat
  armed : Bool
  deriving DecidableEq, Repr

/-- A band record after reset (R50). -/
def Band.reset : Band :=
  { role := .off, entry := Option.none, pitch := 0, width := 0, lines := 0, holdLimit := 0, noticeLevel := 0,
    f := 0, d := 0, c := 0, filling := 0, draining := 0, armed := true }

/-! ### Orders -/

/-- The result codes of Table 2-3. -/
inductive Result where
  | ok
  | aborted
  | refusedKind
  | refusedParam
  | refusedState
  | jam
  | paperOut
  | coverOpen
  | docOut
  | starved
  | noWake
  | muted
  | cancelled
  | abandoned
  | wokenEarly
  deriving DecidableEq, Repr

/-- The three queues of section 2.3. -/
inductive QueueId where
  | d
  | p
  | mover
  deriving DecidableEq, Repr

/-- The two directions of a move (R73, R83). -/
inductive Direction where
  | forward
  | reverse
  deriving DecidableEq, Repr

/-- The EDGE end condition of a MOVE (R83). -/
structure EdgeParams where
  sensor : Sensor
  rising : Bool
  extra : Nat
  jam : Nat
  deriving DecidableEq, Repr

/-- The fields of a MOVE; no `edge` is the end condition COUNT (R83). -/
structure MoveParams where
  chan : Chan
  profile : Fin 8
  dir : Direction
  count : Nat
  edge : Option EdgeParams
  deriving DecidableEq, Repr

/-- The fields of a CAPTURE (R98); `rate` is the code 0 to 3 of the pixel rate. -/
structure CaptureParams where
  band : Fin 4
  profile : Fin 8
  stepsPerLine : Nat
  rate : Nat
  skipLines : Nat
  tailLines : Nat
  lineLimit : Nat
  jam : Nat
  maxLength : Nat
  ejectSteps : Nat
  pauseLimit : Nat
  deriving DecidableEq, Repr

/-- The fields of an EMIT (R113). -/
structure EmitParams where
  band : Fin 4
  profile : Fin 8
  stepsPerLine : Nat
  groups : Nat
  heat : Nat
  lineCount : Nat
  tailFeed : Nat
  pauseLimit : Nat
  deriving DecidableEq, Repr

/-- The modes of a TRANSFER (R134). -/
inductive MoverMode where
  | copy
  | fill
  deriving DecidableEq, Repr

/-- One segment of a TRANSFER; in FILL mode `source` carries the fill word (R134). -/
structure Segment where
  source : Nat
  dest : Nat
  length : Nat
  deriving DecidableEq, Repr

/-- The fields of a TRANSFER (R134, R167). -/
structure TransferParams where
  mode : MoverMode
  seg1 : Segment
  seg2 : Segment
  deriving DecidableEq, Repr

/-- What a queued order asks for (Table 2-2). -/
inductive Work where
  | move (p : MoveParams)
  | capture (p : CaptureParams)
  | emit (p : EmitParams)
  | transfer (p : TransferParams)
  deriving DecidableEq, Repr

/-- A queued order: its slot, its recorded kind, its fields and the ABORT mark (R36, R39). -/
structure Order where
  slot : Nat
  kind : Byte
  work : Work
  marked : Bool
  deriving DecidableEq, Repr

/-- How far a running order has come (R37): carried out, ended with its report offered and waiting for room, or with
its report entered and its final write owed. -/
inductive RunStage where
  | active
  | offered
  | entered
  deriving DecidableEq, Repr

/-- The running order of a queue; `result` and `figures` (body words 3 to 7 of its report) are fixed at its end. -/
structure Running where
  order : Order
  stage : RunStage
  result : Result
  figures : List Word
  deriving DecidableEq, Repr

/-- One of the three queues (R36). -/
structure Queue where
  running : Option Running
  waiting : List Order
  deriving DecidableEq, Repr

/-- An empty queue. -/
def Queue.empty : Queue := { running := Option.none, waiting := [] }

/-- To whom a final write is owed: a queued order, or the SLEEP slot of the Power Unit (R37). -/
inductive WriteOwner where
  | queue (q : QueueId)
  | sleep
  deriving DecidableEq, Repr

/-- A final write of an order head that waits or is in its grant (R37). -/
structure FinalWrite where
  owner : WriteOwner
  slot : Nat
  kind : Byte
  result : Result
  deriving DecidableEq, Repr

/-- The states of an order slot (R25). -/
inductive SlotState where
  | free
  | posted
  | fetching
  | handed
  deriving DecidableEq, Repr

/-- A slot record (R25). -/
structure SlotRecord where
  state : SlotState
  kind : Option Byte
  early : Bool
  deriving DecidableEq, Repr

/-- A slot record after reset (R25). -/
def SlotRecord.reset : SlotRecord := { state := .free, kind := Option.none, early := false }

/-- The intake states (R28). -/
inductive IntakeState where
  | waiting
  | fetching
  | executing
  | dispatchWait
  deriving DecidableEq, Repr

/-- How far the order in hand has come (R29 to R32): its body to be fetched, its slot POSTED until the fetch is requested;
its taken write to be made, its own checks and effect to be made, a record of `total` words at `addr` being read, its
final write to be made. -/
inductive Stage where
  | fetch
  | taken
  | validate
  | reading (addr : Nat) (words : List Word) (total : Nat)
  | ending (r : Result)
  deriving DecidableEq, Repr

/-- The order in hand (R29); `urgent` when it was taken out of turn (R38). -/
structure InHand where
  slot : Nat
  kind : Byte
  body : List Word
  urgent : Bool
  stage : Stage
  deriving DecidableEq, Repr

/-- One request of the Order Intake at the Memory Port (Table 1-5). -/
inductive IntakeJob where
  | fetch
  | taken
  | read (addr : Nat) (words : Nat)
  | own (r : Result)
  | final (w : FinalWrite)
  deriving DecidableEq, Repr

/-- The Order Intake (R25, R28, R36, R37). -/
structure Intake where
  slots : List SlotRecord
  state : IntakeState
  next : Nat
  inHand : Option InHand
  dispatch : Option Order
  dQueue : Queue
  pQueue : Queue
  mQueue : Queue
  finalWrites : List FinalWrite
  deriving DecidableEq, Repr

/-- The Order Intake after reset (R25, R28). -/
def Intake.reset : Intake :=
  { slots := [], state := .waiting, next := 0, inHand := Option.none, dispatch := Option.none,
    dQueue := Queue.empty, pQueue := Queue.empty, mQueue := Queue.empty, finalWrites := [] }

/-! ### Reports -/

/-- The six report classes (Table 2-4). -/
inductive ReportClass where
  | order
  | passage
  | band
  | sensor
  | power
  | boot
  deriving DecidableEq, Repr

/-- A report record before it is posted: class, code within the class, seven body words (R41). -/
structure Report where
  cls : ReportClass
  code : Nat
  body : List Word
  deriving DecidableEq, Repr

/-- The blocks whose reports wait, in the order of their claims (R46). -/
inductive Block where
  | power
  | boot
  | band
  | motor
  | capture
  | emit
  | mover
  | intake
  deriving DecidableEq, Repr

/-- What waits for a place of the pending queue (R45): a BAND NOTICE of a band, the SENSOR report with its changed set
and levels, the COMPLETION report of a queue's running order, or another report. -/
inductive WaitingItem where
  | notice (b : Fin 4) (r : Report)
  | sensor (changed : BitVec 6) (levels : BitVec 6)
  | completion (q : QueueId)
  | report (r : Report)
  deriving DecidableEq, Repr

/-- A waiting report and the block that presents it (R45). -/
structure Waiting where
  block : Block
  item : WaitingItem
  deriving DecidableEq, Repr

/-- The Report Unit (R41, R45, R47). U is the length of `unconsumed`, the classes of the slots from C_r on. -/
structure Reports where
  count : Nat
  post : Nat
  consume : Nat
  unconsumed : List ReportClass
  seq : Nat
  pending : List Report
  waiting : List Waiting
  mask : BitVec 6
  sensorMask : BitVec 6
  attention : Bool
  deriving DecidableEq, Repr

/-- The Report Unit after reset (R41, R47); the slot count is DESIGN CHOICE 0 until CONFIG (log 7). -/
def Reports.reset : Reports :=
  { count := 0, post := 0, consume := 0, unconsumed := [], seq := 1, pending := [], waiting := [],
    mask := BitVec.allOnes 6, sensorMask := 0, attention := false }

/-! ### Capture Engine -/

/-- The two line stores of an engine (R95, R109). -/
inductive StoreId where
  | a
  | b
  deriving DecidableEq, Repr

/-- A capture line store (R95): what it holds with the number of its line. -/
inductive CaptureStore where
  | empty
  | clocking (line : Nat)
  | writing (line : Nat) (words : List Word)
  deriving DecidableEq, Repr

/-- The phases of a CAPTURE (R99). -/
inductive CapturePhase where
  | start
  | approach
  | skip
  | scanning
  | tail
  | eject
  | done
  deriving DecidableEq, Repr

/-- The running capture record (R99). -/
structure CaptureRecord where
  phase : CapturePhase
  stepsInPhase : Nat
  stepsInLine : Nat
  docLines : Nat
  scanLines : Nat
  tailLeft : Nat
  trailing : Bool
  captured : Nat
  overruns : Nat
  sum : Word
  endPhase : CapturePhase
  result : Result
  deriving DecidableEq, Repr

/-- The record when the order starts (R99); the end phase START, until an end is decided, is the model's (log 37). -/
def CaptureRecord.start : CaptureRecord :=
  { phase := .start, stepsInPhase := 0, stepsInLine := 0, docLines := 0, scanLines := 0, tailLeft := 0,
    trailing := false, captured := 0, overruns := 0, sum := 0, endPhase := .start, result := .ok }

/-- The Capture Engine (R95, R99). `older` is the store with the older claim when both hold a line. -/
structure CaptureEngine where
  storeA : CaptureStore
  storeB : CaptureStore
  older : StoreId
  record : Option CaptureRecord
  deriving DecidableEq, Repr

/-- The Capture Engine after reset (R95, R99). -/
def CaptureEngine.reset : CaptureEngine :=
  { storeA := .empty, storeB := .empty, older := .a, record := Option.none }

/-! ### Emit Engine -/

/-- The states of a print line store (R109). -/
inductive PrintState where
  | empty
  | loading
  | fetched
  | shifting
  | shifted
  | strobing
  deriving DecidableEq, Repr

/-- A print line store (R109): its state, the number of its line, the words read. -/
structure PrintStore where
  state : PrintState
  line : Nat
  words : List Word
  deriving DecidableEq, Repr

/-- An EMPTY print line store. -/
def PrintStore.none : PrintStore := { state := .empty, line := 0, words := [] }

/-- The phases of an EMIT (R114). -/
inductive EmitPhase where
  | start
  | printing
  | tail
  | done
  deriving DecidableEq, Repr

/-- The end reasons of an EMIT (R117), in the order of their codes. -/
inductive EndReason where
  | countDone
  | closed
  | captureDone
  | paperOut
  | pauseLimit
  | abort
  | cover
  deriving DecidableEq, Repr

/-- The running emit record (R114). -/
structure EmitRecord where
  phase : EmitPhase
  stepsInLine : Nat
  printed : Nat
  closed : Bool
  paperLost : Bool
  stopAsked : Bool
  endReason : Option EndReason
  result : Result
  deriving DecidableEq, Repr

/-- The record when the order starts (R114). -/
def EmitRecord.start : EmitRecord :=
  { phase := .start, stepsInLine := 0, printed := 0, closed := false, paperLost := false, stopAsked := false,
    endReason := Option.none, result := .ok }

/-- The Emit Engine (R108, R109, R114). `group` is the strobe group under heat while a store is STROBING; `shiftReg`
and `latch` are the line the head's shift register and latch hold, none when it is no whole line (log 26). -/
structure EmitEngine where
  storeA : PrintStore
  storeB : PrintStore
  older : StoreId
  record : Option EmitRecord
  group : Nat
  shiftReg : Option (List Word)
  latch : Option (List Word)
  deriving DecidableEq, Repr

/-- The Emit Engine after reset (R108, R109, R114). -/
def EmitEngine.reset : EmitEngine :=
  { storeA := PrintStore.none, storeB := PrintStore.none, older := .a, record := Option.none, group := 0,
    shiftReg := Option.none, latch := Option.none }

/-! ### Motor Unit -/

/-- The channel states (R75). -/
inductive ChanState where
  | off
  | holding
  | moving
  | paused
  | boundaryWait
  deriving DecidableEq, Repr

/-- The step modes (R73). -/
inductive StepMode where
  | full
  | half
  deriving DecidableEq, Repr

/-- The two kinds of supply (R71). -/
inductive SupplyKind where
  | capture
  | emit
  deriving DecidableEq, Repr

/-- A motor channel (chapter 4, R121). A timer that runs holds the count it was loaded with (log 3). `k`, `r` and
`atLevel` are the ramp level, the remaining figure and the steps at level (R84); `made`, `before` and `edge` the steps
made, the steps before the edge and the edge taken flag. -/
structure Channel where
  phase : BitVec 3
  driven : Option (BitVec 3)
  asked : Nat
  inEffect : Nat
  state : ChanState
  mode : StepMode
  runLevel : Nat
  holdLevel : Nat
  holdTime : Nat
  holdTimer : Option Nat
  stepTimer : Option Nat
  pauseTimer : Option Nat
  dir : Direction
  k : Nat
  r : Nat
  atLevel : Nat
  made : Nat
  before : Nat
  edge : Bool
  paced : Option (Fin 4 × SupplyKind)
  deriving DecidableEq, Repr

/-- A channel after reset (R72, R74 to R77, R121); the counters of no move are DESIGN CHOICE 0 (log 7). -/
def Channel.reset : Channel :=
  { phase := 0, driven := Option.none, asked := 0, inEffect := 0, state := .off, mode := .half, runLevel := 12,
    holdLevel := 4, holdTime := 50, holdTimer := Option.none, stepTimer := Option.none, pauseTimer := Option.none,
    dir := .forward, k := 0, r := 0, atLevel := 0, made := 0, before := 0, edge := false, paced := Option.none }

/-- One level of a profile (R79). -/
structure Level where
  interval : Nat
  dwell : Nat
  deriving DecidableEq, Repr

/-- One level sensor (R89): its input, its debounced level, its stability timer running. -/
structure SensorCell where
  input : Bool
  level : Bool
  timer : Bool
  deriving DecidableEq, Repr

/-! ### Block Mover -/

/-- The mover states (R135). -/
inductive MoverState where
  | idle
  | reading
  | writing
  | held
  | ending
  deriving DecidableEq, Repr

/-- The Block Mover with the running transfer record (R135). `next` counts words from the start of the present
segment; `buffer` holds the chunk's words, none for an invalid one; `heldOn` is the band line a held word awaits and
`heldWrite` its kind; `passOver` is set where that word, held at the grant in progress, was cancelled before the grant
ended (R18, R65); `aborting` is set while an ABORT waits for the grant in progress (R142). -/
structure Mover where
  state : MoverState
  params : TransferParams
  segment : Nat
  next : Nat
  chunkFirst : Nat
  chunkSize : Nat
  buffer : List (Option Word)
  moved : Nat
  sum : Word
  heldOn : Option (Fin 4 × Nat)
  heldWrite : Bool
  passOver : Bool
  aborting : Bool
  deriving DecidableEq, Repr

/-- The Block Mover after reset (R135). -/
def Mover.reset : Mover :=
  { state := .idle,
    params := { mode := .copy, seg1 := ⟨0, 0, 0⟩, seg2 := ⟨0, 0, 0⟩ },
    segment := 1, next := 0, chunkFirst := 0, chunkSize := 0, buffer := [], moved := 0, sum := 0,
    heldOn := Option.none, heldWrite := false, passOver := false, aborting := false }

/-! ### Memory Port -/

/-- The state of the DRAM (R22). -/
inductive DramState where
  | unsized
  | active
  | selfRefresh
  deriving DecidableEq, Repr

/-- The processor-passage request: the processor's access, or the Power Unit's wake word (R21). -/
inductive ProcReq where
  | access
  | wakeWord
  deriving DecidableEq, Repr

/-- One burst of the Boot Unit (R159, R162 to R164). -/
inductive BootJob where
  | header (offset : Nat)
  | fill (addr : Nat)
  | copyRead (offset : Nat) (words : Nat)
  | copyWrite (addr : Nat) (words : List Word)
  | record
  deriving DecidableEq, Repr

/-- The grant in progress (Table 1-5). -/
inductive Grant where
  | refresh
  | fetch (store : StoreId)
  | writeBack (store : StoreId)
  | processor (obs : Obs)
  | wakeWord
  | intake (job : IntakeJob)
  | report
  | mover (words : Nat) (obs : Obs)
  | boot (job : BootJob)
  deriving DecidableEq, Repr

/-- The Memory Port (R21 to R23). A mover request carries the paths of its burst's words (R137). -/
structure Port where
  dram : DramState
  refreshTimer : Bool
  refreshDue : Bool
  selfAsked : Bool
  fetchReq : Bool
  captureReq : Option StoreId
  procReq : Option ProcReq
  intakeReq : Option IntakeJob
  moverReq : Option (List Path)
  grant : Option Grant
  deriving DecidableEq, Repr

/-! ### Power Unit -/

/-- The power states (R143). -/
inductive PowerState where
  | running
  | sleepPending
  | sleeping
  | wakeConfirm
  deriving DecidableEq, Repr

/-- How far WAKE_CONFIRM has come: the wake steps of R149, the wait for a confirmation, and steps 1, 2 and 4 of a
return to sleep (R152). -/
inductive ConfirmStage where
  | waking
  | confirming
  | stopClock
  | postReports
  | awaitRefresh
  deriving DecidableEq, Repr

/-- One entry of a SLEEP's pattern table (R144, Table 11-5). -/
structure Pattern where
  mask : Byte
  levels : Byte
  hold : Nat
  deriving DecidableEq, Repr

/-- The wake settings of the SLEEP being carried out (R143, R144). `ended` tells that the slot's final write is no
longer owed (R149). -/
structure WakeSettings where
  rest : Nat
  confirm : Nat
  ringing : Bool
  patternOn : BitVec 4
  timerOn : Bool
  timer : Nat
  patterns : Vector Pattern 4
  slot : Nat
  ended : Bool
  deriving DecidableEq, Repr

/-- The Power Unit (R143). `entering` is set from SLEEP_ENTRY until DRAM is in SELF_REFRESH (R146); `wakeWrites` are the
wake words still to be written, with their addresses, oldest first (R147, R149). -/
structure Power where
  state : PowerState
  entering : Bool
  stage : ConfirmStage
  settings : Option WakeSettings
  lapse : Nat
  sleepLimit : Bool
  wakeTimer : Option Nat
  confirmTimer : Option Nat
  patternTimers : Vector Bool 4
  wakeWrites : List (Nat × Word)
  noticeKept : Bool
  deriving DecidableEq, Repr

/-- The Power Unit after reset (R143). -/
def Power.reset : Power :=
  { state := .running, entering := false, stage := .confirming, settings := Option.none, lapse := 0,
    sleepLimit := false, wakeTimer := Option.none, confirmTimer := Option.none,
    patternTimers := Vector.replicate 4 false, wakeWrites := [], noticeKept := false }

/-- The settings of the ringing qualifier (R153). -/
structure RingSettings where
  periodMin : Nat
  periodMax : Nat
  lengthMin : Nat
  lengthMax : Nat
  needed : Nat
  window : Nat
  noiseLimit : Nat
  deriving DecidableEq, Repr

/-- The ringing qualifier (R153 to R156). A burst in progress is the list of its periods in microseconds. -/
structure Ringing where
  settings : RingSettings
  burst : Option (List Nat)
  qualified : Nat
  window : Bool
  noise : Nat
  muted : Bool
  heldMuted : Option Report
  deriving DecidableEq, Repr

/-- The ringing qualifier after reset (R153, R156). -/
def Ringing.reset : Ringing :=
  { settings := { periodMin := 14, periodMax := 67, lengthMin := 2, lengthMax := 25, needed := 2, window := 12,
                  noiseLimit := 31 },
    burst := Option.none, qualified := 0, window := false, noise := 0, muted := false, heldMuted := Option.none }

/-! ### Boot Unit -/

/-- The boot states (chapter 10). -/
inductive BootState where
  | hold
  | header
  | config
  | fill
  | copy
  | release
  | done
  deriving DecidableEq, Repr

/-- The reset kinds (R157). -/
inductive ResetKind where
  | powerOn
  | resetLine
  | restart
  | lapse
  deriving DecidableEq, Repr

/-- The boot outcomes (chapter 10). -/
inductive BootOutcome where
  | shadow
  | checkFailed
  | noHeader
  deriving DecidableEq, Repr

/-- One window entry of the boot header as read: kind code, band number, base and length (Table 11-8). -/
structure HeaderEntry where
  kind : Nat
  band : Fin 4
  base : Nat
  length : Nat
  deriving DecidableEq, Repr

/-- The values of the boot header (Table 11-8). -/
structure Header where
  dramMb : Nat
  guard : Bool
  mask : BitVec 6
  imageOffset : Nat
  imageLength : Nat
  imageCrc : Word
  orderSlots : Nat
  reportSlots : Nat
  entries : Vector HeaderEntry 8
  deriving DecidableEq, Repr

/-- The Boot Unit (chapter 10). `pos` is the byte reached by the fill or the copy, `buffer` the ROM burst that a copy
has read and not yet written. -/
structure Boot where
  state : BootState
  cause : ResetKind
  fillOwed : Bool
  headerAttempts : Nat
  copyAttempts : Nat
  entriesOff : Nat
  headerWords : List Word
  header : Option Header
  crc : Word
  outcome : Option BootOutcome
  holdDelay : Bool
  pos : Nat
  buffer : List Word
  deriving DecidableEq, Repr

/-- The Boot Unit after a reset of a kind (R157, R158); the 1 ms delay runs unless the reset line is asserted. The running
CRC of FFFFh is the model's (log 7). -/
def Boot.reset (cause : ResetKind) (fillOwed delay : Bool) : Boot :=
  { state := .hold, cause := cause, fillOwed := fillOwed, headerAttempts := 0, copyAttempts := 0, entriesOff := 0,
    headerWords := [], header := Option.none, crc := 0xFFFF, outcome := Option.none, holdDelay := delay, pos := 0,
    buffer := [] }

/-! ### The state -/

/-- The whole state of the part, with the DRAM and the ROM it serves and the queue of commands. -/
structure State where
  /-- the commands that wait, first in first out -/
  pending : List Instr
  dram : List Host.Cell
  rom : List Host.Cell
  romSize : Nat
  pins : Pins
  passage : Passage
  windows : Vector Window 8
  port : Port
  intake : Intake
  reports : Reports
  bands : Vector Band 4
  capture : CaptureEngine
  emit : EmitEngine
  chanD : Channel
  chanP : Channel
  profiles : Vector (List Level) 8
  sensors : Vector SensorCell 6
  mover : Mover
  power : Power
  ring : Ringing
  boot : Boot
  deriving DecidableEq, Repr

/-- The Passage after a reset (R4, R15, R19, R20): the installed size is kept (R2). -/
def Passage.reset (installedMb : Nat) : Passage :=
  { installedMb := installedMb, mode := .noOverlay, overlayLength := 0, overlayBase := 0, imageLength := 0,
    guard := false, cpu := Option.none, reply := Option.none, unposted := 0 }

/-- The Memory Port after POWER-ON (R21, R22, R24). -/
def Port.powerOn : Port :=
  { dram := .unsized, refreshTimer := false, refreshDue := false, selfAsked := false, fetchReq := false,
    captureReq := Option.none, procReq := Option.none, intakeReq := Option.none, moverReq := Option.none,
    grant := Option.none }

/-- A level sensor at a reset: the debounced level is the input's, the timer stopped (R89). -/
def SensorCell.atReset (c : SensorCell) : SensorCell := { input := c.input, level := c.input, timer := false }

/-- The machine right after POWER-ON with the reset line not asserted, every sensor input low and a ROM of 2 MB that
lists nothing. The inputs and the ROM are outside the part: DESIGN CHOICE (logs 6 and 7). -/
def State.reset : State :=
  { pending := [], dram := [], rom := [], romSize := 0x200000,
    pins := { supply := true, resetLine := false, procReset := true, clock := true },
    passage := Passage.reset 1, windows := Vector.replicate 8 Window.none, port := Port.powerOn,
    intake := Intake.reset, reports := Reports.reset, bands := Vector.replicate 4 Band.reset,
    capture := CaptureEngine.reset, emit := EmitEngine.reset, chanD := Channel.reset, chanP := Channel.reset,
    profiles := Vector.replicate 8 [], sensors := Vector.replicate 6 ⟨false, false, false⟩, mover := Mover.reset,
    power := Power.reset, ring := Ringing.reset, boot := Boot.reset .powerOn true true }

/-! ### Updates of one field, whose laws stand in Laws/State.lean -/

def State.withPending (s : State) (x : List Instr) : State := { s with pending := x }
def State.withDram (s : State) (x : List Host.Cell) : State := { s with dram := x }
def State.withPins (s : State) (x : Pins) : State := { s with pins := x }
def State.withPassage (s : State) (x : Passage) : State := { s with passage := x }
def State.withWindows (s : State) (x : Vector Window 8) : State := { s with windows := x }
def State.withPort (s : State) (x : Port) : State := { s with port := x }
def State.withIntake (s : State) (x : Intake) : State := { s with intake := x }
def State.withReports (s : State) (x : Reports) : State := { s with reports := x }
def State.withBands (s : State) (x : Vector Band 4) : State := { s with bands := x }
def State.withCapture (s : State) (x : CaptureEngine) : State := { s with capture := x }
def State.withEmit (s : State) (x : EmitEngine) : State := { s with emit := x }
def State.withChanD (s : State) (x : Channel) : State := { s with chanD := x }
def State.withChanP (s : State) (x : Channel) : State := { s with chanP := x }
def State.withProfiles (s : State) (x : Vector (List Level) 8) : State := { s with profiles := x }
def State.withSensors (s : State) (x : Vector SensorCell 6) : State := { s with sensors := x }
def State.withMover (s : State) (x : Mover) : State := { s with mover := x }
def State.withPower (s : State) (x : Power) : State := { s with power := x }
def State.withRing (s : State) (x : Ringing) : State := { s with ring := x }
def State.withBoot (s : State) (x : Boot) : State := { s with boot := x }

end Sys2Proof.Machine
end

