-- ==== Sys2Proof/Machine/Ops.lean ====
section
/-! DEFINITION. The named operations over memory, words and the parts of the state that every block shares. -/

namespace Sys2Proof.Machine

/-! ### Bytes, words and bit fields (section 0.8) -/

/-- The more significant byte of a word, which stands at the lower address (section 0.8). -/
def wordHigh (w : Word) : Byte := w.extractLsb' 8 8

/-- The less significant byte of a word (section 0.8). -/
def wordLow (w : Word) : Byte := w.extractLsb' 0 8

/-- The word of two bytes (section 0.8). -/
def wordOf (h l : Byte) : Word := h ++ l

/-- Bits `hi` to `lo` of a word, taken as an unsigned number (R166). -/
def bits (w : Word) (hi lo : Nat) : Nat := w.toNat / 2 ^ lo % 2 ^ (hi + 1 - lo)

/-- Bit `n` of a word. -/
def bitOf (w : Word) (n : Nat) : Bool := w.getLsbD n

/-- A number as a word, mod 65536. -/
def wordNat (n : Nat) : Word := BitVec.ofNat 16 n

/-- A count that stops at 65535 and is not taken further (R99, R114). -/
def stopAt (limit n : Nat) : Nat := if limit ≤ n then limit else n

/-! ### Memory as a sorted list of cells -/

/-- The byte at an address; an address not listed reads as `unlisted`. -/
def Memory.read (unlisted : Byte) : List Host.Cell → Nat → Byte
  | [], _ => unlisted
  | c :: rest, a => if c.1 = a then c.2 else Memory.read unlisted rest a

/-- DRAM with one byte written. A byte equal to what an unlisted address reads as is not listed. -/
def Memory.write : List Host.Cell → Nat → Byte → List Host.Cell
  | [], a, v => if v = Config.unlistedDram then [] else [(a, v)]
  | c :: rest, a, v =>
    if a < c.1 then (if v = Config.unlistedDram then c :: rest else (a, v) :: c :: rest)
    else if a = c.1 then (if v = Config.unlistedDram then rest else (a, v) :: rest)
    else c :: Memory.write rest a v

/-- The canonical form of DRAM: addresses strictly rising, no entry equal to what an unlisted address reads as. -/
abbrev Memory.wf (m : List Host.Cell) : Prop :=
  m.Pairwise (fun x y => x.1 < y.1) ∧ ∀ c ∈ m, c.2 ≠ Config.unlistedDram

/-- DRAM with bytes written one after another. -/
def Memory.writeAll (m : List Host.Cell) : List Host.Cell → List Host.Cell
  | [] => m
  | c :: rest => Memory.writeAll (Memory.write m c.1 c.2) rest

/-- The two bytes of a word at an address (section 0.8). -/
def wordBytes (a : Nat) (w : Word) : List Host.Cell := [(a, wordHigh w), (a + 1, wordLow w)]

/-- The word transfers that store words from an address upward, one transfer a word. -/
def wordTransfers (a : Nat) : List Word → List (List Host.Cell)
  | [] => []
  | w :: rest => wordBytes a w :: wordTransfers (a + 2) rest

/-- A byte of DRAM. -/
def State.dramByte (s : State) (a : Nat) : Byte := Memory.read Config.unlistedDram s.dram a

/-- A word of DRAM: its more significant byte at the lower address (section 0.8). -/
def State.dramWord (s : State) (a : Nat) : Word := wordOf (s.dramByte a) (s.dramByte (a + 1))

/-- Words of DRAM from an address upward. -/
def State.dramWords (s : State) (a : Nat) : Nat → List Word
  | 0 => []
  | n + 1 => s.dramWord a :: State.dramWords s (a + 2) n

/-- A byte of ROM at a ROM offset: a ROM smaller than 2 MB ignores the upper offset bits (R3). -/
def State.romByte (s : State) (offset : Nat) : Byte := Memory.read Config.unlistedRom s.rom (offset % s.romSize)

/-- A word of ROM at a ROM offset (R3). -/
def State.romWord (s : State) (offset : Nat) : Word := wordOf (s.romByte offset) (s.romByte (offset + 1))

/-- Words of ROM from an offset upward. -/
def State.romWords (s : State) (offset : Nat) : Nat → List Word
  | 0 => []
  | n + 1 => s.romWord offset :: State.romWords s (offset + 2) n

/-- The installed DRAM size in bytes (R2). -/
def State.installed (s : State) : Nat := s.passage.installedMb * Config.megabyte

/-- The length of the image range by the overlay mode (R4). -/
def State.imageRange (s : State) : Nat :=
  match s.passage.mode with
  | .romDirect => s.passage.overlayLength
  | .shadow => s.passage.imageLength
  | .noOverlay => s.passage.imageLength

/-! ### Accesses -/

/-- The access is a write. -/
def opIsWrite : AccessOp → Bool
  | .readByte | .readWord => false
  | .writeByte _ | .writeWord _ => true

/-- The access is of a word. -/
def opIsWord : AccessOp → Bool
  | .readByte | .writeByte _ => false
  | .readWord | .writeWord _ => true

/-- The address an access is treated at: a word access at an odd address is the word at the even address below (R1). -/
def Access.at (a : Access) : Nat := if opIsWord a.op then a.addr - a.addr % 2 else a.addr

/-- The bytes an access writes. -/
def Access.bytes (a : Access) : List Host.Cell :=
  match a.op with
  | .readByte | .readWord => []
  | .writeByte v => [(a.at, v)]
  | .writeWord w => wordBytes a.at w

/-- What a read returns from DRAM; a byte stands in bits 7 to 0. -/
def State.dramData (s : State) (a : Access) : Option Word :=
  match a.op with
  | .readByte => some ((s.dramByte a.at).setWidth 16)
  | .readWord => some (s.dramWord a.at)
  | .writeByte _ | .writeWord _ => none

/-- What a read returns from ROM (R3). -/
def State.romData (s : State) (a : Access) (offset : Nat) : Option Word :=
  match a.op with
  | .readByte => some ((s.romByte offset).setWidth 16)
  | .readWord => some (s.romWord offset)
  | .writeByte _ | .writeWord _ => none

/-- What a no-memory read returns: all ones (R2). -/
def onesData (op : AccessOp) : Option Word :=
  match op with
  | .readByte => some 0x00FF
  | .readWord => some 0xFFFF
  | .writeByte _ | .writeWord _ => none

/-! ### Parts of the state by name or number -/

/-- The queue of a channel (Table 2-2). -/
def chanQueue : Chan → QueueId
  | .d => .d
  | .p => .p

/-- A channel. -/
def State.chan (s : State) : Chan → Channel
  | .d => s.chanD
  | .p => s.chanP

/-- The state with one channel replaced. -/
def State.withChan (s : State) (c : Chan) (x : Channel) : State :=
  match c with
  | .d => s.withChanD x
  | .p => s.withChanP x

/-- A queue of the Order Intake. -/
def Intake.queue (i : Intake) : QueueId → Queue
  | .d => i.dQueue
  | .p => i.pQueue
  | .mover => i.mQueue

/-- The Order Intake with one queue replaced. -/
def Intake.withQueue (i : Intake) (q : QueueId) (x : Queue) : Intake :=
  match q with
  | .d => { i with dQueue := x }
  | .p => { i with pQueue := x }
  | .mover => { i with mQueue := x }

/-- The running order of a queue. -/
def State.running (s : State) (q : QueueId) : Option Running := (s.intake.queue q).running

/-- The state with the running order of a queue replaced. -/
def State.withRunning (s : State) (q : QueueId) (r : Option Running) : State :=
  s.withIntake (s.intake.withQueue q { (s.intake.queue q) with running := r })

/-- The work of a queue's running order while it is being carried out. -/
def State.activeWork (s : State) (q : QueueId) : Option Work :=
  match s.running q with
  | some r => if r.stage = .active then some r.order.work else none
  | none => none

/-- The number of a sensor (Table 11-1). -/
def sensorNumber : Sensor → Fin 6
  | .docPresent => 0
  | .docAtLine => 1
  | .paperPresent => 2
  | .coverClosed => 3
  | .hook => 4
  | .key => 5

/-- The debounced level of a sensor (R89). -/
def State.level (s : State) (x : Sensor) : Bool := s.sensors[sensorNumber x].level

/-- A band record with another in its place. -/
def State.withBand (s : State) (b : Fin 4) (x : Band) : State := s.withBands (s.bands.set b x)

/-- A capture line store. -/
def CaptureEngine.store (c : CaptureEngine) : StoreId → CaptureStore
  | .a => c.storeA
  | .b => c.storeB

/-- The Capture Engine with one store replaced. -/
def CaptureEngine.withStore (c : CaptureEngine) (i : StoreId) (x : CaptureStore) : CaptureEngine :=
  match i with
  | .a => { c with storeA := x }
  | .b => { c with storeB := x }

/-- A print line store. -/
def EmitEngine.store (e : EmitEngine) : StoreId → PrintStore
  | .a => e.storeA
  | .b => e.storeB

/-- The Emit Engine with one store replaced. -/
def EmitEngine.withStore (e : EmitEngine) (i : StoreId) (x : PrintStore) : EmitEngine :=
  match i with
  | .a => { e with storeA := x }
  | .b => { e with storeB := x }

/-- The other line store. -/
def StoreId.other : StoreId → StoreId
  | .a => .b
  | .b => .a

/-! ### Slots and areas -/

/-- There is an order area: entry 0 is ORDERS (R25). -/
def State.hasOrders (s : State) : Bool := s.windows[0].kind = .orders

/-- There is a report area: entry 1 is REPORTS (R44). -/
def State.hasReports (s : State) : Bool := s.windows[1].kind = .reports

/-- The address of an order slot (R25). -/
def State.slotAddr (s : State) (i : Nat) : Nat := s.windows[0].base + 16 * i

/-- The address of a report slot (R41). -/
def State.reportAddr (s : State) (j : Nat) : Nat := s.windows[1].base + 16 * j

/-- A slot record; a number with no slot is never posted (R25). -/
def Intake.slot (i : Intake) (n : Nat) : SlotRecord := i.slots.getD n SlotRecord.reset

/-- The Order Intake with one slot record replaced. -/
def Intake.withSlot (i : Intake) (n : Nat) (x : SlotRecord) : Intake := { i with slots := i.slots.set n x }

/-- The entry of the Window Table whose range contains an address (R8). -/
def State.windowAt (s : State) (x : Nat) : Option (Fin 8) :=
  (List.finRange 8).find? fun i =>
    s.windows[i].kind ≠ .off && decide (s.windows[i].base ≤ x) && decide (x < s.windows[i].base + s.windows[i].length)

/-- The address of the first byte of a band line (R51). -/
def State.lineAddr (s : State) (b : Fin 4) (line : Nat) : Nat :=
  match s.bands[b].entry with
  | some e => s.windows[e].base + line * s.bands[b].pitch
  | none => line * s.bands[b].pitch

end Sys2Proof.Machine
end

