-- ==== Sys2Proof/Machine/Operands.lean ====
section
/-! DEFINITION. The record layouts of chapter 11: order bodies, the pattern table, the profile and segment records,
the boot header, and the words the part writes (heads, report bodies, the boot record, the wake word). -/

namespace Sys2Proof.Machine

/-! ### Order kinds (Table 11-3) -/

def kindSetWindow : Byte := 0x01
def kindClearWindow : Byte := 0x02
def kindSetBand : Byte := 0x03
def kindResetBand : Byte := 0x04
def kindSetProfile : Byte := 0x05
def kindSetChannel : Byte := 0x06
def kindSetRinging : Byte := 0x07
def kindSetAttention : Byte := 0x08
def kindSleep : Byte := 0x09
def kindRestart : Byte := 0x0A
def kindAbort : Byte := 0x0B
def kindEmitEnd : Byte := 0x0C
def kindMove : Byte := 0x10
def kindCapture : Byte := 0x11
def kindEmit : Byte := 0x12
def kindTransfer : Byte := 0x13

/-- The kinds of Table 11-3; any other value is refused with REFUSED_KIND (R166). -/
def knownKinds : List Byte :=
  [kindSetWindow, kindClearWindow, kindSetBand, kindResetBand, kindSetProfile, kindSetChannel, kindSetRinging,
   kindSetAttention, kindSleep, kindRestart, kindAbort, kindEmitEnd, kindMove, kindCapture, kindEmit, kindTransfer]

/-- The kind names an urgent order: ABORT or EMIT END (R38). -/
def urgentKind (k : Option Byte) : Bool := k = some kindAbort || k = some kindEmitEnd

/-! ### Composite forms -/

/-- Body word n, for n from 1 to 7. -/
def bodyWord (body : List Word) (n : Nat) : Word := body.getD (n - 1) 0

/-- The address an address pair gives; the upper byte of the first word is ignored (R166). -/
def addressPair (hi lo : Word) : Nat := bits hi 7 0 * 65536 + lo.toNat

/-- The length a length pair gives; bits 15 to 5 of its first word are ignored (section 11.1; log 40). -/
def lengthPair (hi lo : Word) : Nat := bits hi 4 0 * 65536 + lo.toNat

/-- The two words of an address pair as the part writes them. -/
def addressWords (a : Nat) : List Word := [wordNat (a / 65536 % 256), wordNat a]

/-- The two words of a length pair as the part writes them. -/
def lengthWords (n : Nat) : List Word := [wordNat (n / 65536 % 32), wordNat n]

/-! ### Codes -/

/-- The code of a result (Table 2-3). -/
def Result.code : Result → Nat
  | .ok => 0
  | .aborted => 1
  | .refusedKind => 2
  | .refusedParam => 3
  | .refusedState => 4
  | .jam => 5
  | .paperOut => 6
  | .coverOpen => 7
  | .docOut => 8
  | .starved => 9
  | .noWake => 10
  | .muted => 11
  | .cancelled => 12
  | .abandoned => 13
  | .wokenEarly => 14

/-- The code of a report class (Table 11-6). -/
def ReportClass.code : ReportClass → Nat
  | .order => 1
  | .passage => 2
  | .band => 3
  | .sensor => 4
  | .power => 5
  | .boot => 6

/-- The code of a capture phase in a report (Table 11-7). -/
def CapturePhase.code : CapturePhase → Nat
  | .start => 0
  | .approach => 1
  | .skip => 2
  | .scanning => 3
  | .tail => 4
  | .eject => 5
  | .done => 5

/-- The code of an end reason (Table 11-7). -/
def EndReason.code : EndReason → Nat
  | .countDone => 0
  | .closed => 1
  | .captureDone => 2
  | .paperOut => 3
  | .pauseLimit => 4
  | .abort => 5
  | .cover => 6

/-- The code of a reset kind in the boot record (Table 11-9). -/
def ResetKind.code : ResetKind → Nat
  | .powerOn => 1
  | .resetLine => 2
  | .restart => 3
  | .lapse => 4

/-- The code of a boot outcome in the boot record (Table 11-9). -/
def BootOutcome.code : BootOutcome → Nat
  | .shadow => 1
  | .checkFailed => 2
  | .noHeader => 3

/-! ### Heads -/

/-- The head states of an order slot in memory (Table 11-2). -/
inductive HeadState where
  | free
  | posted
  | taken
  | done
  deriving DecidableEq, Repr

/-- The code of a head state (Table 11-2). -/
def HeadState.code : HeadState → Nat
  | .free => 0
  | .posted => 1
  | .taken => 2
  | .done => 3

/-- An order head as the part writes it: bits 7 and 6 are 0 (Table 11-2, R168). -/
def orderHead (kind : Byte) (state : HeadState) (r : Result) : Word :=
  wordNat (kind.toNat * 256 + state.code * 16 + r.code)

/-- A head word written by software posts its slot: its state field is POSTED (R26, R27). -/
def headPosts (w : Word) : Bool := bits w 5 4 = 1

/-- The kind field of a head word (Table 11-2). -/
def headKind (w : Word) : Byte := wordHigh w

/-- A report head (Table 11-6). -/
def reportHead (cls : ReportClass) (code seq : Nat) : Word := wordNat (cls.code * 4096 + code * 16 + seq)

/-- A report body padded to seven words; the words left over are 0 (R168). -/
def padBody (ws : List Word) : List Word := (ws ++ List.replicate 7 0).take 7

/-! ### Small choices -/

/-- A number below 4 (a band). -/
def fin4? (n : Nat) : Option (Fin 4) := if h : n < 4 then some ⟨n, h⟩ else none

/-- A number below 8 (a window entry or a profile). -/
def fin8? (n : Nat) : Option (Fin 8) := if h : n < 8 then some ⟨n, h⟩ else none

/-- A role by its code (Table 11-3). -/
def role? : Nat → Option Role
  | 0 => some .off
  | 1 => some .capture
  | 2 => some .emit
  | 3 => some .copy
  | _ => none

/-- A channel by its code (Table 11-3). -/
def chan? : Nat → Option Chan
  | 0 => some .d
  | 1 => some .p
  | _ => none

/-- A step mode by its code (Table 11-3). -/
def stepMode? : Nat → Option StepMode
  | 0 => some .full
  | 1 => some .half
  | _ => none

/-- A direction by its code (Table 11-3). -/
def direction? : Nat → Option Direction
  | 0 => some .forward
  | 1 => some .reverse
  | _ => none

/-- A queue by its code (Table 11-3). -/
def queue? : Nat → Option QueueId
  | 0 => some .d
  | 1 => some .p
  | 2 => some .mover
  | _ => none

/-- The edge sensors of a MOVE: COVER_CLOSED and RINGING are not among them (R83). -/
def edgeSensor? : Nat → Option Sensor
  | 0 => some .docPresent
  | 1 => some .docAtLine
  | 2 => some .paperPresent
  | 4 => some .hook
  | 5 => some .key
  | _ => none

/-! ### Segments, patterns, profile records -/

/-- A segment of a segment record from its word number `i` on (Table 11-4). In FILL mode the second word is the fill
word, and the first word is ignored (log 40). -/
def segmentAt (mode : MoverMode) (ws : List Word) (i : Nat) : Segment :=
  { source := match mode with
      | .copy => addressPair (ws.getD i 0) (ws.getD (i + 1) 0)
      | .fill => (ws.getD (i + 1) 0).toNat
    dest := addressPair (ws.getD (i + 2) 0) (ws.getD (i + 3) 0)
    length := lengthPair (ws.getD (i + 4) 0) (ws.getD (i + 5) 0) }

/-- Pattern p of a pattern table; bits 15 to 8 of its second word are ignored (Table 11-5; log 40). -/
def patternAt (ws : List Word) (p : Nat) : Pattern :=
  { mask := wordLow (ws.getD (2 * p) 0)
    levels := wordHigh (ws.getD (2 * p) 0)
    hold := bits (ws.getD (2 * p + 1) 0) 7 0 }

/-- The levels of a profile record: interval and dwell words in turn (Table 11-11). -/
def profileLevels : List Word → List Level
  | i :: d :: rest => { interval := i.toNat, dwell := d.toNat } :: profileLevels rest
  | _ => []

/-- A level's fields are in range (R79). -/
def Level.inRange (l : Level) : Bool :=
  decide (16 ≤ l.interval) && decide (l.interval ≤ 4095) && decide (1 ≤ l.dwell) && decide (l.dwell ≤ 255)

/-! ### The boot header and its CRC -/

/-- One shift of the CRC register (R160). -/
def crcShift (c : Word) : Word := if c.getLsbD 15 then (c <<< 1) ^^^ 0x1021 else c <<< 1

/-- One byte taken into the CRC register (R160). -/
def crcByte (c : Word) (b : Byte) : Word :=
  (c ^^^ (b ++ (0 : Byte)))
    |> crcShift |> crcShift |> crcShift |> crcShift |> crcShift |> crcShift |> crcShift |> crcShift

/-- `f w`, with the word worked out before `f` is: a long chain of words is evaluated one at a time. -/
def withValue {α : Type} (w : Word) (f : Word → α) : α :=
  match w.toNat with
  | 0 => f 0
  | n + 1 => f (BitVec.ofNat 16 (n + 1))

/-- Words taken into the CRC register, each with its more significant byte first (R160). -/
def crcWords (c : Word) : List Word → Word
  | [] => c
  | w :: rest => withValue (crcByte (crcByte c (wordHigh w)) (wordLow w)) fun v => crcWords v rest

/-- The preset of the CRC register (R160). -/
def crcPreset : Word := 0xFFFF

/-- Window entry e of the boot header (Table 11-8); the bits of its first word that the table leaves out are ignored
(log 25). -/
def headerEntry (ws : List Word) (e : Nat) : HeaderEntry :=
  { kind := bits (ws.getD (12 + 3 * e) 0) 3 0
    band := Fin.ofNat 4 (bits (ws.getD (12 + 3 * e) 0) 9 8)
    base := (ws.getD (13 + 3 * e) 0).toNat * 256
    length := (ws.getD (14 + 3 * e) 0).toNat * 256 }

/-- The values of a boot header (Table 11-8); the bits of words 2 and 3 that the table leaves out are ignored (log 25),
and those of its length pair (log 40). -/
def headerOf (ws : List Word) : Header :=
  { dramMb := (ws.getD 1 0).toNat
    guard := bitOf (ws.getD 2 0) 0
    mask := (ws.getD 3 0).setWidth 6
    imageOffset := addressPair (ws.getD 4 0) (ws.getD 5 0)
    imageLength := lengthPair (ws.getD 6 0) (ws.getD 7 0)
    imageCrc := ws.getD 8 0
    orderSlots := (ws.getD 9 0).toNat
    reportSlots := (ws.getD 10 0).toNat
    entries := Vector.ofFn fun e => headerEntry ws e.val }

/-- A header read is good: its signature holds and its CRC over words 0 to 61 equals word 62 (R159). -/
def headerGood (ws : List Word) : Bool :=
  ws.getD 0 0 = Config.signature && crcWords crcPreset (ws.take 62) = ws.getD 62 0

/-- Words of a burst with those misread replaced (R163, log 8). -/
def misreadWords (m : Misread) (ws : List Word) : List Word :=
  m.foldl (fun l c => l.set c.1 c.2) ws

/-! ### Words of memory records -/

/-- The wake word (Table 11-10). -/
def wakeWord (cause lapse : Nat) (muted : Bool) : Word :=
  wordNat (cause + lapse * 16 + (if muted then 256 else 0))

/-- The boot record (Table 11-9). -/
def bootRecordWords (cause : ResetKind) (outcome : BootOutcome) (headers copies off length : Nat) : List Word :=
  [wordNat (cause.code + outcome.code * 256), wordNat (headers + copies * 256), wordNat off]
    ++ lengthWords length ++ [0, 0, 0]

/-! ### Pixels -/

/-- Pixel n of a line: the bit the CLOCKING_END command brings, or a free value where it brings none (R94, log 10). -/
def pixelAt (pixels : List Bool) (n : Nat) : Bool := pixels.getD n (Config.unsampledPixel n)

/-- Word m of a line: pixel n stands in word n / 16 at bit 15 - (n mod 16) (R94). -/
def pixelWord (pixels : List Bool) (m : Nat) : Word :=
  wordNat ((List.range 16).foldl (fun acc i => 2 * acc + (pixelAt pixels (16 * m + i)).toNat) 0)

/-- The words of a line of `width` bytes (R94). -/
def pixelWords (pixels : List Bool) (width : Nat) : List Word :=
  (List.range (width / 2)).map (pixelWord pixels)

end Sys2Proof.Machine
end

