-- ==== Sys2Proof/Machine/Flags.lean ====
section
/-! DEFINITION. The computed conditions: line states, supply, the notice test, the attention line, sensor levels and
pattern matches. -/

namespace Sys2Proof.Machine

/-! ### Line states and supply (R52, R71) -/

/-- The state of line i of a band, from the marks and the two counts (R52). -/
def Band.lineState (b : Band) (i : Nat) : LineState :=
  if (i + b.lines - b.d) % b.lines < b.c then
    if (i + b.lines - b.d) % b.lines < b.draining then .draining else .full
  else if (i + b.lines - b.f) % b.lines < b.filling then .filling else .empty

/-- The capture supply: L - C - filling count (R71). -/
def Band.captureSupply (b : Band) : Nat := b.lines - b.c - b.filling

/-- The emit supply: C (R71). -/
def Band.emitSupply (b : Band) : Nat := b.c

/-- The supply figure of a kind (R71). -/
def Band.supply (b : Band) : SupplyKind → Nat
  | .capture => b.captureSupply
  | .emit => b.emitSupply

/-! ### The notice test (R67) -/

/-- The directions of a BAND NOTICE (R67). -/
inductive NoticeDirection where
  | high
  | low
  deriving DecidableEq, Repr

/-- The notice test after C has moved up or down by 1: the record with notice armed as it now stands, and the notice
raised. A notice level of 0 raises none (R67). -/
def Band.noticeTest (b : Band) (up : Bool) : Band × Option NoticeDirection :=
  match b.role, up with
  | .off, _ => (b, none)
  | .capture, true | .copy, true =>
    if b.c = b.noticeLevel ∧ b.armed ∧ b.noticeLevel ≠ 0 then ({ b with armed := false }, some .high) else (b, none)
  | .capture, false | .copy, false =>
    if b.c < b.noticeLevel ∧ !b.armed then ({ b with armed := true }, none) else (b, none)
  | .emit, false =>
    if b.c = b.noticeLevel ∧ b.armed ∧ b.noticeLevel ≠ 0 then ({ b with armed := false }, some .low) else (b, none)
  | .emit, true =>
    if b.noticeLevel < b.c ∧ !b.armed then ({ b with armed := true }, none) else (b, none)

/-- The BAND NOTICE report of a band, with the values after the event that raised it (R67, Table 11-7). -/
def noticeReport (n : Fin 4) (b : Band) (dir : NoticeDirection) : Report :=
  { cls := .band, code := 1
    body := padBody [wordNat (n.val + match dir with | .high => 0 | .low => 256), wordNat b.c, wordNat b.f,
      wordNat b.d, wordNat (b.filling + b.draining * 256)] }

/-! ### The attention line (R47) -/

/-- The bit of a report class in a mask (Table 11-1: class c is bit c - 1). -/
def classBit : ReportClass → Nat
  | .order => 0
  | .passage => 1
  | .band => 2
  | .sensor => 3
  | .power => 4
  | .boot => 5

/-- The attention line: some unconsumed report's class is enabled in the mask (R47). -/
def attentionLine (unconsumed : List ReportClass) (mask : BitVec 6) : Bool :=
  unconsumed.any fun c => mask.getLsbD (classBit c)

/-- The Report Unit with its attention line recomputed (R47). -/
def Reports.recompute (r : Reports) : Reports := { r with attention := attentionLine r.unconsumed r.mask }

/-! ### Sensors (R49, R89, R148) -/

/-- All level sensors. -/
def allSensors : List Sensor := [.docPresent, .docAtLine, .paperPresent, .coverClosed, .hook, .key]

/-- A mask with the one bit of a sensor (Table 11-1). -/
def sensorBit (x : Sensor) : BitVec 6 := BitVec.ofNat 6 (2 ^ (sensorNumber x).val)

/-- The debounced levels of the six sensors, each at the bit of its number (R49). -/
def State.levels (s : State) : BitVec 6 :=
  allSensors.foldl (fun m x => if s.level x then m ||| sensorBit x else m) 0

/-- A pattern matches: each sensor of its mask has the level the entry requires (R148). -/
def State.matches (s : State) (p : Pattern) : Bool :=
  allSensors.all fun x =>
    !p.mask.getLsbD (sensorNumber x).val || p.levels.getLsbD (sensorNumber x).val == s.level x

/-! ### Use of bands and profiles by orders (R68, R80) -/

/-- The order names a band as a CAPTURE or an EMIT (R68). -/
def Work.namesBand (w : Work) (b : Fin 4) : Bool :=
  match w with
  | .capture p => p.band = b
  | .emit p => p.band = b
  | .move _ | .transfer _ => false

/-- The order is a CAPTURE naming a band (R116). -/
def Work.capturesInto (w : Work) (b : Fin 4) : Bool :=
  match w with
  | .capture p => p.band = b
  | .emit _ | .move _ | .transfer _ => false

/-- The order names a profile (R80). -/
def Work.namesProfile (w : Work) (n : Fin 8) : Bool :=
  match w with
  | .move p => p.profile = n
  | .capture p => p.profile = n
  | .emit p => p.profile = n
  | .transfer _ => false

/-- Some order of a queue, running or waiting, satisfies a test. -/
def Queue.someWork (q : Queue) (f : Work → Bool) : Bool :=
  (match q.running with
    | some r => f r.order.work
    | none => false) || q.waiting.any fun o => f o.work

/-- A band is in use: a CAPTURE or an EMIT naming it runs or waits in the D or P queue (R68). -/
def State.bandInUse (s : State) (b : Fin 4) : Bool :=
  s.intake.dQueue.someWork (·.namesBand b) || s.intake.pQueue.someWork (·.namesBand b)

/-- The queue holds an order, running or waiting. -/
def Queue.holdsOrder (q : Queue) : Bool := q.running.isSome || !q.waiting.isEmpty

/-- A BAND NOTICE of a band waits in the Band Unit (R128). -/
def State.noticeWaits (s : State) (b : Fin 4) : Bool :=
  s.reports.waiting.any fun w =>
    match w.item with
    | .notice b' _ => b' = b
    | .sensor _ _ | .completion _ | .report _ => false

end Sys2Proof.Machine
end

