-- ==== Sys2Proof/Machine/Reports.lean ====
section
/-! DEFINITION. The Report Unit's shared operations: offering, waiting, entering and admitting reports, PASSAGE faults
and the unposted-fault count (R20, R42 to R46, R49). -/

namespace Sys2Proof.Machine

/-- An offered report is taken at once: the pending queue has a free place (R45), or there is no report area and the
report is discarded (R44). -/
def State.hasRoom (s : State) : Bool :=
  !s.hasReports || decide (s.reports.pending.length < Config.pendingPlaces)

/-- A report enters the back of the pending queue, or is discarded where there is no report area (R44, R45). -/
def State.enter (s : State) (r : Report) : State :=
  if s.hasReports then s.withReports { s.reports with pending := s.reports.pending ++ [r] } else s

/-- The COMPLETION report of an ended order: slot, recorded kind, result, figures (R37, Table 11-7). -/
def completionReport (ro : Running) : Report :=
  { cls := .order, code := 1
    body := padBody ([wordNat (ro.order.slot + ro.order.kind.toNat * 256), wordNat ro.result.code] ++ ro.figures) }

/-- The COMPLETION report of a queue's running order enters, and the order's final write falls due (R37). -/
def State.enterCompletion (s : State) (q : QueueId) : State :=
  match s.running q with
  | none => s
  | some ro =>
    let s1 := (s.enter (completionReport ro)).withRunning q (some { ro with stage := .entered })
    s1.withIntake { s1.intake with
      finalWrites := s1.intake.finalWrites ++ [⟨.queue q, ro.order.slot, ro.order.kind, ro.result⟩] }

/-- The SENSOR CHANGE report of a changed set and levels (R49, Table 11-7). -/
def sensorReport (changed levels : BitVec 6) : Report :=
  { cls := .sensor, code := 1, body := padBody [changed.setWidth 16, levels.setWidth 16] }

/-- A waiting item enters the pending queue. -/
def State.enterItem (s : State) : WaitingItem → State
  | .completion q => s.enterCompletion q
  | .notice _ r => s.enter r
  | .sensor changed levels => s.enter (sensorReport changed levels)
  | .report r => s.enter r

/-- A block offers a report: it enters, or it waits as the block's newest (R45). -/
def State.offer (s : State) (block : Block) (item : WaitingItem) : State :=
  if s.hasRoom then s.enterItem item
  else s.withReports { s.reports with waiting := s.reports.waiting ++ [⟨block, item⟩] }

/-- The Band Unit offers a notice; a notice of a band that already has one waiting is discarded (R45, R67). -/
def State.offerNotice (s : State) (b : Fin 4) (r : Report) : State :=
  if s.noticeWaits b then s else s.offer .band (.notice b r)

/-- A waiting BAND NOTICE of a band is discarded (R67, R68). -/
def State.dropNotice (s : State) (b : Fin 4) : State :=
  s.withReports { s.reports with waiting := s.reports.waiting.filter fun w =>
    match w.item with
    | .notice b' _ => b' ≠ b
    | .sensor _ _ | .completion _ | .report _ => true }

/-- A POWER report of a code waits already (R45). -/
def State.powerWaits (s : State) (code : Nat) : Bool :=
  s.reports.waiting.any fun w =>
    match w.item with
    | .report r => r.cls = .power && r.code = code
    | .notice _ _ | .sensor _ _ | .completion _ => false

/-- The Power Unit offers a report; a second report of a code already waiting is discarded (R45). -/
def State.offerPower (s : State) (r : Report) : State :=
  if s.powerWaits r.code then s else s.offer .power (.report r)

/-- A SENSOR report waits (R49). -/
def State.sensorWaits (s : State) : Bool :=
  s.reports.waiting.any fun w =>
    match w.item with
    | .sensor _ _ => true
    | .notice _ _ | .completion _ | .report _ => false

/-- A waiting item with a further change merged into it when it is the SENSOR report (R49). -/
def mergeSensor (changed levels : BitVec 6) (w : Waiting) : Waiting :=
  match w.item with
  | .sensor c _ => { w with item := .sensor (c ||| changed) levels }
  | .notice _ _ | .completion _ | .report _ => w

/-- The sensor block offers the change of a sensor enabled in the sensor report mask, or merges it into the SENSOR
report that waits (R49). -/
def State.offerSensor (s : State) (x : Sensor) : State :=
  if !s.reports.sensorMask.getLsbD (sensorNumber x).val then s
  else if s.sensorWaits then
    s.withReports { s.reports with waiting := s.reports.waiting.map (mergeSensor (sensorBit x) s.levels) }
  else s.offer .motor (.sensor (sensorBit x) s.levels)

/-! ### PASSAGE faults (section 1.6) -/

/-- The PASSAGE codes of Table 1-4. -/
inductive PassageCode where
  | noMemory
  | guard
  | holdExpired
  | holdCancelled
  | bandOrder
  | slotBusy
  deriving DecidableEq, Repr

/-- The code number (Table 11-6: numbered from 1 in the order of Table 2-4). -/
def PassageCode.number : PassageCode → Nat
  | .noMemory => 1
  | .guard => 2
  | .holdExpired => 3
  | .holdCancelled => 4
  | .bandOrder => 5
  | .slotBusy => 6

/-- The reasons of a GUARD fault (Table 11-7); `noReason` for the other codes (R168). -/
inductive GuardReason where
  | noReason
  | romWrite
  | image
  | window
  | reportSlot
  deriving DecidableEq, Repr

/-- The reason number (Table 11-7). -/
def GuardReason.number : GuardReason → Nat
  | .noReason => 0
  | .romWrite => 1
  | .image => 2
  | .window => 3
  | .reportSlot => 4

/-- What a PASSAGE report carries beside the count: code, reason, requester, access, address, band (section 1.6). -/
structure PassageFault where
  code : PassageCode
  reason : GuardReason
  who : Requester
  op : AccessOp
  addr : Nat
  band : Nat
  deriving DecidableEq, Repr

/-- The PASSAGE report of a fault that takes up a count (R20, Table 11-7). -/
def passageReport (f : PassageFault) (count : Nat) : Report :=
  { cls := .passage, code := f.code.number
    body := padBody ([wordNat (f.reason.number + (match f.who with | .processor => 0 | .mover => 16)
        + (if opIsWrite f.op then 32 else 0) + (if opIsWord f.op then 64 else 0) + f.band * 256)]
      ++ addressWords f.addr ++ [wordNat count]) }

/-- A PASSAGE fault is raised: it enters the pending queue and takes up the unposted-fault count, or, the queue being
full, the count increases by 1 and stays at 255 (R20); with no report area it is accepted and discarded (R44). -/
def State.raiseFault (s : State) (f : PassageFault) : State :=
  if s.hasRoom then
    (s.enter (passageReport f s.passage.unposted)).withPassage { s.passage with unposted := 0 }
  else s.withPassage { s.passage with unposted := stopAt 255 (s.passage.unposted + 1) }

/-! ### The end of an order (R37) -/

/-- An engine ends the running order of a queue: the result and the figures are fixed and the COMPLETION report is
offered by the engine's block (R37). -/
def State.endOrder (s : State) (q : QueueId) (block : Block) (result : Result) (figures : List Word) : State :=
  match s.running q with
  | none => s
  | some ro =>
    (s.withRunning q (some { ro with stage := .offered, result := result, figures := figures })).offer block
      (.completion q)

/-! ### Admission (R46) -/

/-- The place of a block in the order of claims (R46). -/
def Block.claim : Block → Nat
  | .power => 1
  | .boot => 2
  | .band => 3
  | .motor => 4
  | .capture => 5
  | .emit => 6
  | .mover => 7
  | .intake => 8

/-- The waiting report to admit: the oldest of the block with the highest claim, and the rest in their order (R46). -/
def admitNext : List Waiting → Option (Waiting × List Waiting)
  | [] => none
  | w :: rest =>
    match admitNext rest with
    | none => some (w, rest)
    | some (x, others) => if x.block.claim < w.block.claim then some (x, w :: others) else some (w, rest)

end Sys2Proof.Machine
end

