-- ==== Sys2Proof/Machine/Bands.lean ====
section
/-! DEFINITION. The events on the marks of a band (section 3.3), the Band Unit's judgement of accesses (section 3.4), and
what a change of a line's state does to the accesses that wait for their grant. Each event keeps its own condition, so
that the marks stay a legal ring in every state. -/

namespace Sys2Proof.Machine

/-! ### Events on the marks (Table 3-1) -/

/-- The line a claim takes: F + filling count, mod L (R54). -/
def Band.claimLine (b : Band) : Nat := (b.f + b.filling) % b.lines

/-- The line a fetch takes: D + draining count, mod L (R59). -/
def Band.fetchLine (b : Band) : Nat := (b.d + b.draining) % b.lines

/-- A claim is possible: a line is EMPTY, and a store is there for it (R52, R54). -/
def Band.canClaim (b : Band) : Bool := decide (b.c + b.filling < b.lines) && decide (b.filling < 2)

/-- Claim: the line becomes FILLING (R54). -/
def Band.claim (b : Band) : Band := if b.canClaim then { b with filling := b.filling + 1 } else b

/-- Write-back end: line F becomes FULL (R55). -/
def Band.writeBackEnd (b : Band) : Band :=
  if 0 < b.filling then { b with c := b.c + 1, f := (b.f + 1) % b.lines, filling := b.filling - 1 } else b

/-- Withdrawal: the newest FILLING line becomes EMPTY (R56). -/
def Band.withdraw (b : Band) : Band := { b with filling := b.filling - 1 }

/-- The line a withdrawal gives up: F + filling count - 1, mod L (R56). -/
def Band.withdrawLine (b : Band) : Nat := (b.f + b.filling - 1) % b.lines

/-- Fill: line F becomes FULL (R57). -/
def Band.fill (b : Band) : Band :=
  if b.c + b.filling < b.lines then { b with c := b.c + 1, f := (b.f + 1) % b.lines } else b

/-- Drain: line D becomes EMPTY (R58). -/
def Band.drain (b : Band) : Band :=
  if b.draining < b.c then { b with c := b.c - 1, d := (b.d + 1) % b.lines } else b

/-- A fetch is possible: a ready line is not yet DRAINING, and a store is there for it (R59). -/
def Band.canFetch (b : Band) : Bool := decide (b.draining < b.c) && decide (b.draining < 2)

/-- Fetch: the line becomes DRAINING (R59). -/
def Band.fetch (b : Band) : Band := if b.canFetch then { b with draining := b.draining + 1 } else b

/-- Strobe end: line D becomes EMPTY (R60). -/
def Band.strobeEnd (b : Band) : Band :=
  if 0 < b.draining ∧ 0 < b.c then
    { b with c := b.c - 1, d := (b.d + 1) % b.lines, draining := b.draining - 1 }
  else b

/-- Reversion: every DRAINING line becomes FULL again (R61). -/
def Band.revert (b : Band) : Band := { b with draining := 0 }

/-- The marks and counts at 0 and the notice armed, as SET BAND and RESET BAND leave them (R69, R70). -/
def Band.clearMarks (b : Band) : Band :=
  { b with f := 0, d := 0, c := 0, filling := 0, draining := 0, armed := true }

/-- Unmapping: the role becomes OFF, the other fields stay (R68). -/
def Band.unmap (b : Band) : Band := { b with role := .off }

/-! ### Judging accesses (section 3.4) -/

/-- The judgement of an access to a band line: it passes, with what it does to the marks, or it is held. -/
inductive Verdict where
  | pass (obs : Obs)
  | hold
  deriving DecidableEq, Repr

/-- The access is a closing-word access: a word access at offset width - 2 of its line (R51). -/
def Band.closing (b : Band) (offset : Nat) (op : AccessOp) : Bool :=
  opIsWord op && decide (offset + 2 = b.width)

/-- The judgement of an access at an offset of a line, by the band's role and the line's state (R62 to R64). -/
def Band.judge (x : Band) (b : Fin 4) (line offset : Nat) (op : AccessOp) : Verdict :=
  match x.role with
  | .off => .pass .nothing
  | .capture =>
    match x.lineState line with
    | .empty | .filling => .hold
    | .full | .draining =>
      if x.closing offset op ∧ !opIsWrite op then
        if line = x.d then .pass (.drain b line) else .pass (.bandOrder b)
      else .pass .nothing
  | .emit =>
    if opIsWrite op then
      match x.lineState line with
      | .full | .draining => .hold
      | .empty | .filling =>
        if x.closing offset op then if line = x.f then .pass (.fill b line) else .pass (.bandOrder b)
        else .pass .nothing
    else .pass .nothing
  | .copy =>
    if opIsWrite op then
      match x.lineState line with
      | .full | .draining | .filling => .hold
      | .empty => .pass .nothing
    else .pass .nothing

/-- Where an address lies in a band's lines, by the three conditions of R10: the band, the line and the offset in it
(R51). -/
def State.bandPlace (s : State) (x : Nat) : Option (Fin 4 × Nat × Nat) :=
  match s.windowAt x with
  | none => none
  | some e =>
    let w := s.windows[e]
    let b := s.bands[w.band]
    if w.kind = .band ∧ b.role ≠ .off ∧ b.entry = some e ∧ x < w.base + b.lines * b.pitch then
      some (w.band, (x - w.base) / b.pitch, (x - w.base) % b.pitch)
    else none

/-- The Band Unit's judgement, made again, of an access that was given to it: with the band's lines no longer there it
passes plain (R10, R65; log 23). -/
def State.rejudge (s : State) (a : Access) : Verdict :=
  match s.bandPlace a.at with
  | none => .pass .nothing
  | some (b, line, offset) => s.bands[b].judge b line offset a.op

/-- The judgement of a passing access that decides it at its grant: the first, or the second where the state of its line
has changed between the two (R65). -/
def State.standing (s : State) (path : Path) (a : Access) : Verdict :=
  match path with
  | .plain | .rom _ => .pass .nothing
  | .band _ (some obs) => .pass obs
  | .band _ none => s.rejudge a

/-! ### Changes of line states under accesses that wait for their grant (R65) -/

/-- What the mover does with the words of its chunk: READING or WRITING, also while a word of it is HELD (R135). -/
def Mover.work (m : Mover) : MoverState :=
  match m.state with
  | .held => if m.heldWrite then .writing else .reading
  | .idle => .idle
  | .reading => .reading
  | .writing => .writing
  | .ending => .ending

/-- The address of a mover word of the present segment. -/
def Mover.sourceAddr (m : Mover) (i : Nat) : Nat :=
  (if m.segment = 1 then m.params.seg1 else m.params.seg2).source + 2 * i

/-- The address a mover word of the present segment is written to. -/
def Mover.destAddr (m : Mover) (i : Nat) : Nat :=
  (if m.segment = 1 then m.params.seg1 else m.params.seg2).dest + 2 * i

/-- The address of word `i` of the mover's burst. -/
def Mover.wordAddr (m : Mover) (i : Nat) : Nat := if m.work = .writing then m.destAddr i else m.sourceAddr i

/-- The path of an access given to band `b`, to be judged again at its grant (R65). -/
def Path.anew (path : Path) (b : Fin 4) : Path :=
  match path with
  | .plain => .plain
  | .rom offset => .rom offset
  | .band b' judged => if b' = b then .band b' none else .band b' judged

/-- The processor's access, to be judged again if it passed the judgement of band `b` and its line has changed. -/
def CpuAccess.anew (x : CpuAccess) (b : Fin 4) (changed : Nat → Bool) : CpuAccess :=
  match x.status with
  | .passing path => if changed x.acc.at then { x with status := .passing (path.anew b) } else x
  | .held _ | .completing => x

/-- The paths of the mover's burst from word `i` on, those on changed lines of band `b` to be judged again. -/
def Mover.anew (m : Mover) (b : Fin 4) (changed : Nat → Bool) : Nat → List Path → List Path
  | _, [] => []
  | i, path :: rest => (if changed (m.wordAddr i) then path.anew b else path) :: m.anew b changed (i + 1) rest

/-- The accesses of band `b` that wait for their grant, the processor's and the words of the mover's burst, are to be
judged again where the line at their address has changed (R65). -/
def State.judgeAnew (s : State) (b : Fin 4) (changed : Nat → Bool) : State :=
  (s.withPassage { s.passage with cpu := s.passage.cpu.map (·.anew b changed) }).withPort
    { s.port with moverReq := s.port.moverReq.map (s.mover.anew b changed s.mover.next) }

/-- The line of band `b` that an address lies in has another state under the record `x` than under the present one. -/
def State.lineChanges (s : State) (b : Fin 4) (x : Band) (a : Nat) : Bool :=
  match s.bandPlace a with
  | none => false
  | some (b', line, _) => b' = b && decide (s.bands[b].lineState line ≠ x.lineState line)

/-- An event of Table 3-1: a band record takes its new marks, and the accesses that wait on a line that it changes are
to be judged again (R65). -/
def State.withLines (s : State) (b : Fin 4) (x : Band) : State := (s.withBand b x).judgeAnew b (s.lineChanges b x)

/-- A band is set, reset or unmapped: every access that waits on it is to be judged again (log 23). -/
def State.withNewBand (s : State) (b : Fin 4) (x : Band) : State := (s.withBand b x).judgeAnew b fun _ => true

/-- A band record takes its new marks after C has moved; the notice test follows (R67). -/
def State.withCount (s : State) (b : Fin 4) (x : Band) (up : Bool) : State :=
  match (x.noticeTest up).2 with
  | none => s.withLines b (x.noticeTest up).1
  | some dir =>
    (s.withLines b (x.noticeTest up).1).offerNotice b (noticeReport b (x.noticeTest up).1 dir)

end Sys2Proof.Machine
end

