-- ==== Sys2Proof/Machine/Passage.lean ====
section
/-! DEFINITION. The Passage: classification of accesses (R1 to R10, R14), holds and their ends (R15 to R18). -/

namespace Sys2Proof.Machine

/-- What the Passage does with an access (section 1.1): drop it with a fault and the data a read returns, forward it,
or hold it. -/
inductive Treatment where
  | drop (code : PassageCode) (reason : GuardReason) (addr : Nat) (data : Option Word)
  | pass (path : Path)
  | hold (why : HoldReason)
  deriving DecidableEq, Repr

/-- The slot whose 16 bytes contain an offset of the ORDERS or REPORTS window, of `count` slots (R7, R25, R41). -/
def slotOf (count offset : Nat) : Option Nat := if offset / 16 < count then some (offset / 16) else none

/-- Report slot j holds an unconsumed report: it is one of the U slots from C_r on (R41). -/
def Reports.unconsumedSlot (r : Reports) (j : Nat) : Bool :=
  decide ((j + r.count - r.consume) % r.count < r.unconsumed.length)

/-- An access in the ORDERS window: a processor access to a FETCHING slot is held, any other passes (R9, R14). -/
def State.ordersTreatment (s : State) (who : Requester) (offset : Nat) : Treatment :=
  match who, slotOf s.intake.slots.length offset with
  | .processor, some i => if (s.intake.slot i).state = .fetching then .hold (.slot i) else .pass .plain
  | .processor, none => .pass .plain
  | .mover, _ => .pass .plain

/-- An access in the REPORTS window: a write to an unconsumed slot is dropped (R9, R14). -/
def State.reportsTreatment (s : State) (a : Access) (offset : Nat) : Treatment :=
  match slotOf s.reports.count offset with
  | some j =>
    if opIsWrite a.op ∧ s.reports.unconsumedSlot j then .drop .guard .reportSlot a.at none else .pass .plain
  | none => .pass .plain

/-- An access in a BAND window: judged by the Band Unit where it lies in the band's lines, else plain (R10). -/
def State.bandTreatment (s : State) (a : Access) : Treatment :=
  match s.bandPlace a.at with
  | none => .pass .plain
  | some (b, line, offset) =>
    match s.bands[b].judge b line offset a.op with
    | .pass obs => .pass (.band b (some obs))
    | .hold => .hold (.line b line)

/-- The window check of R1: treatment by the kind of the window that contains the address (R8, R9). -/
def State.windowTreatment (s : State) (who : Requester) (a : Access) : Treatment :=
  match s.windowAt a.at with
  | none => .pass .plain
  | some e =>
    match s.windows[e].kind with
    | .off => .pass .plain
    | .guard => if opIsWrite a.op then .drop .guard .window a.at none else .pass .plain
    | .orders => s.ordersTreatment who (a.at - s.windows[e].base)
    | .reports => s.reportsTreatment a (a.at - s.windows[e].base)
    | .band => s.bandTreatment a

/-- The rest address, while the power state is SLEEP_PENDING (R145). -/
def State.restAddress (s : State) : Option Nat :=
  match s.power.state, s.power.settings with
  | .sleepPending, some w => some w.rest
  | _, _ => none

/-- The overlay claims the access: ROM_DIRECT, a processor access below the overlay length (R5, R14). -/
def State.overlaid (s : State) (who : Requester) (a : Access) : Bool :=
  who = .processor && s.passage.mode = .romDirect && decide (a.at < s.passage.overlayLength)

/-- The image guard drops the access: guarded SHADOW, a write below the image length (R6). -/
def State.imageGuarded (s : State) (a : Access) : Bool :=
  s.passage.mode = .shadow && s.passage.guard && opIsWrite a.op && decide (a.at < s.passage.imageLength)

/-- The treatment of an access by the six checks of R1, with the differences of R14 for the mover. An access to the
rest address goes to the Power Unit before the window check: a word read is held, any other passes plain (R145). -/
def State.classify (s : State) (who : Requester) (a : Access) : Treatment :=
  if s.overlaid who a then
    if opIsWrite a.op then .drop .guard .romWrite a.addr none
    else .pass (.rom (s.passage.overlayBase + a.at))
  else if Config.romBase ≤ a.at then
    if opIsWrite a.op then .drop .guard .romWrite a.at none else .pass (.rom (a.at - Config.romBase))
  else if s.installed ≤ a.at then .drop .noMemory .noReason a.at (onesData a.op)
  else if s.imageGuarded a then .drop .guard .image a.at none
  else if who = .processor ∧ s.restAddress = some a.at then
    if a.op = .readWord then .hold .rest else .pass .plain
  else s.windowTreatment who a

/-- The address lies in the range the part does not decode (section 1.1). -/
def outsidePart (addr : Nat) : Bool := decide (Config.outsideBase ≤ addr) && decide (addr < Config.romBase)

/-! ### The processor's access: hold, expiry, completion -/

/-- The state with the processor's outstanding access replaced. -/
def State.withCpu (s : State) (x : Option CpuAccess) : State := s.withPassage { s.passage with cpu := x }

/-- The processor's access completes towards the processor, a read with its data (section 1.1). -/
def State.completeCpu (s : State) (a : Access) (data : Option Word) : State :=
  s.withPassage { s.passage with cpu := none, reply := some ⟨a, data⟩ }

/-- The hold of a processor access ends without release: a write is discarded, a read completes with the current
contents of memory through a grant that is not judged again (R17, R18). -/
def State.endHold (s : State) (x : CpuAccess) : State :=
  if opIsWrite x.acc.op then s.completeCpu x.acc none
  else s.withCpu (some { x with status := .completing, timer := .unused })

/-- The hold limit of a band line has passed: the hold ends and HOLD_EXPIRED is raised (R17). -/
def State.expireHold (s : State) (x : CpuAccess) (b : Fin 4) : State :=
  (s.endHold x).raiseFault ⟨.holdExpired, .noReason, .processor, x.acc.op, x.acc.at, b.val⟩

/-- The limit that applies to a line hold: that of its first hold, else the band's (R15). -/
def HoldTimer.limit (t : HoldTimer) (fresh : Nat) : Nat :=
  match t with
  | .unused => fresh
  | .running l => l
  | .stopped l => l

/-- The processor's access is held. On a band line the access hold timer runs, from its first hold; a limit of 0
expires at once (R15). -/
def State.holdCpu (s : State) (a : Access) (why : HoldReason) (t : HoldTimer) : State :=
  match why with
  | .line b _ =>
    if t.limit s.bands[b].holdLimit = 0 then s.expireHold ⟨a, .held why, t⟩ b
    else s.withCpu (some ⟨a, .held why, .running (t.limit s.bands[b].holdLimit)⟩)
  | .slot _ => s.withCpu (some ⟨a, .held why, t⟩)
  | .rest => s.withCpu (some ⟨a, .held why, t⟩)

/-- The timer of a released access is stopped; its time so far counts on (R15, R16). -/
def HoldTimer.stop (t : HoldTimer) : HoldTimer :=
  match t with
  | .running l => .stopped l
  | .stopped l => .stopped l
  | .unused => .unused

/-- A processor access is judged, at its arrival or again at a release, and dropped, forwarded or held (R1, R16). -/
def State.presentCpu (s : State) (a : Access) (t : HoldTimer) : State :=
  match s.classify .processor a with
  | .drop code reason addr data =>
    (s.completeCpu a data).raiseFault ⟨code, reason, .processor, a.op, addr, 0⟩
  | .pass path => s.withCpu (some ⟨a, .passing path, t.stop⟩)
  | .hold why => s.holdCpu a why t

/-- A held processor access whose hold has a given reason is released and judged again (R16). -/
def State.releaseCpu (s : State) (why : HoldReason) : State :=
  match s.passage.cpu with
  | some x => if x.status = .held why then s.presentCpu x.acc x.timer.stop else s
  | none => s

/-! ### Band holds of both requesters (R18, R66) -/

/-- A held mover word is released: the mover goes on at that word, which is judged again (R66, R139). -/
def State.releaseMover (s : State) (b : Fin 4) (line : Nat) : State :=
  if s.mover.state = .held ∧ s.mover.heldOn = some (b, line) then
    s.withMover { s.mover with state := s.mover.work, heldOn := none }
  else s

/-- The Band Unit reports that a line has reached the state its holds await: both requesters' accesses held on it are
released (R66). -/
def State.releaseLine (s : State) (b : Fin 4) (line : Nat) : State :=
  (s.releaseMover b line).releaseCpu (.line b line)

/-- The words of the mover's grant in progress, 0 where it has none. -/
def State.moverWords (s : State) : Nat :=
  match s.port.grant with
  | some (.mover n _) => n
  | _ => 0

/-- The grant in progress is the mover's. -/
def State.moverGranted (s : State) : Bool :=
  match s.port.grant with
  | some (.mover _ _) => true
  | _ => false

/-- The mover passes over a word that is not moved; a word not read is invalid (R136, R138). -/
def Mover.skip (m : Mover) : Mover :=
  { m with next := m.next + 1, buffer := if m.state = .reading then m.buffer ++ [none] else m.buffer }

/-- The processor access held on a band is cancelled (R18). -/
def State.cancelCpu (s : State) (b : Fin 4) : State :=
  match s.passage.cpu with
  | some x =>
    match x.status with
    | .held (.line b' _) =>
      if b' = b then (s.endHold x).raiseFault ⟨.holdCancelled, .noReason, .processor, x.acc.op, x.acc.at, b.val⟩
      else s
    | .held (.slot _) | .held .rest | .passing _ | .completing => s
  | none => s

/-- The mover word held on a band is cancelled: a read leaves its word invalid, a write is discarded, and the mover
goes on with the next word, at the end of the grant in progress where that grant is its own (R18, R65, R139). -/
def State.cancelMover (s : State) (b : Fin 4) : State :=
  match s.mover.state, s.mover.heldOn with
  | .held, some (b', _) =>
    if b' = b then
      let word := s.mover.next + s.moverWords
      let m := { s.mover with state := s.mover.work, heldOn := none }
      (s.withMover (if s.moverGranted then { m with passOver := true } else m.skip)).raiseFault
        (if s.mover.heldWrite
          then ⟨.holdCancelled, .noReason, .mover, .writeWord 0, s.mover.destAddr word, b.val⟩
          else ⟨.holdCancelled, .noReason, .mover, .readWord, s.mover.sourceAddr word, b.val⟩)
    else s
  | _, _ => s

/-- Every access held on a band is cancelled, the processor's first (R18; log 12). -/
def State.cancelHolds (s : State) (b : Fin 4) : State := (s.cancelCpu b).cancelMover b

end Sys2Proof.Machine
end

