-- ==== Sys2Proof/Machine/Motor.lean ====
section
/-! DEFINITION. The Motor Unit's shared operations: steps, states of a channel, the ramp rule, hard stops, and the ends
of a MOVE (chapter 4, R121 to R124). -/

namespace Sys2Proof.Machine

/-! ### Channel states (R75, R76, R87) -/

/-- The channel enters OFF: asked level 0, no timer; the outputs follow at the next chopping period (R74, R76). -/
def Channel.enterOff (c : Channel) : Channel :=
  { c with state := .off, asked := 0, holdTimer := none, stepTimer := none, pauseTimer := none }

/-- The hold timer started from the hold time: 0 enters OFF at once, 255 runs none (R76). -/
def Channel.startHold (c : Channel) : Channel :=
  if c.holdTime = 0 then c.enterOff
  else { c with holdTimer := if c.holdTime = 255 then none else some c.holdTime }

/-- The channel enters HOLDING at the hold level, from an end or a hard stop; the pending step is lost (R76, R87). -/
def Channel.enterHolding (c : Channel) : Channel :=
  { c with state := .holding, asked := c.holdLevel, stepTimer := none, pauseTimer := none, paced := none }.startHold

/-- The channel enters MOVING at the run level with the step timer loaded (R75, R76, R82). -/
def Channel.enterMoving (c : Channel) (interval : Nat) : Channel :=
  { c with state := .moving, asked := c.runLevel, holdTimer := none, pauseTimer := none, stepTimer := some interval }

/-- The channel enters PAUSED at the hold level; a pause limit of 0 runs no timer (R124). -/
def Channel.enterPaused (c : Channel) (limit : Nat) : Channel :=
  { c with state := .paused, asked := c.holdLevel, holdTimer := none, stepTimer := none,
           pauseTimer := if limit = 0 then none else some limit }

/-- The channel enters BOUNDARY_WAIT at the run level (R112, R123). -/
def Channel.enterBoundaryWait (c : Channel) : Channel :=
  { c with state := .boundaryWait, asked := c.runLevel, holdTimer := none, stepTimer := none, pauseTimer := none }

/-- The channel is moving for the purposes of the hard stop: MOVING, PAUSED or BOUNDARY_WAIT (R75). -/
def Channel.inMotion (c : Channel) : Bool :=
  match c.state with
  | .moving | .paused | .boundaryWait => true
  | .off | .holding => false

/-- A hard stop: from a state of motion the channel enters HOLDING without descent (R87). -/
def Channel.hardStop (c : Channel) : Channel := if c.inMotion then c.enterHolding else { c with paced := none }

/-- A de-energise request: a HOLDING channel enters OFF (R76). -/
def Channel.deEnergise (c : Channel) : Channel := if c.state = .holding then c.enterOff else c

/-- The step size of a step mode (R73). -/
def StepMode.size : StepMode → BitVec 3
  | .half => 1
  | .full => 2

/-- One step: the phase index moves by the step size, mod 8, and the phase outputs that are driven change to those of
the new index (R73). -/
def Channel.step (c : Channel) : Channel :=
  let next := match c.dir with
    | .forward => c.phase + c.mode.size
    | .reverse => c.phase - c.mode.size
  { c with phase := next, driven := c.driven.map fun _ => next }

/-- A chopping period starts: the level in effect takes the asked level, and the outputs go low in OFF and show the
phase index otherwise (R74). -/
def Channel.chopStart (c : Channel) : Channel :=
  { c with inEffect := c.asked, driven := if c.state = .off then none else some c.phase }

/-! ### Profiles and the ramp rule (R79, R84) -/

/-- The interval of a level (R79). A level that the profile does not have, which a channel can only stand at after a
replacement under a running order, has a free value (log 41). -/
def intervalAt (p : List Level) (k : Nat) : Nat :=
  match p[k]? with
  | some level => level.interval
  | none => Config.absentInterval k

/-- The dwell of a level (R79); no choice of a level rests on the dwell of one that the profile does not have. -/
def dwellAt (p : List Level) (k : Nat) : Nat := (p.getD k ⟨0, 0⟩).dwell

/-- The top level (R79). -/
def topLevel (p : List Level) : Nat := p.length - 1

/-- The descent length of level k: the sum of the dwells of the levels below it (R79). -/
def descentLength (p : List Level) : Nat → Nat
  | 0 => 0
  | k + 1 => descentLength p k + dwellAt p k

/-- The highest of the levels 0 to n whose descent length is not greater than a number of steps; level 0 has descent
length 0 (R84). -/
def highestWithin (p : List Level) (steps : Nat) : Nat → Nat
  | 0 => 0
  | n + 1 => if descentLength p (n + 1) ≤ steps then n + 1 else highestWithin p steps n

/-- The ceiling of the ramp rule (R84). -/
def rampCeiling (p : List Level) (r : Nat) : Nat := highestWithin p (r - 1) (topLevel p)

/-- The candidate of the ramp rule (R84). -/
def rampCandidate (p : List Level) (k atLevel : Nat) : Nat :=
  if dwellAt p k ≤ atLevel ∧ k < topLevel p then k + 1 else k

/-- The level of the next step by the ramp rule: the lesser of candidate and ceiling, or the floor if that is greater
(R84). -/
def rampLevel (p : List Level) (k atLevel r : Nat) : Nat :=
  max (min (rampCandidate p k atLevel) (rampCeiling p r)) (k - 1)

/-- The channel chooses the level of its next step by the ramp rule and loads its interval; a change of level returns
the steps at level to 0 (R84). -/
def Channel.ramp (c : Channel) (p : List Level) : Channel :=
  { c with
    k := rampLevel p c.k c.atLevel c.r
    atLevel := if rampLevel p c.k c.atLevel c.r = c.k then c.atLevel else 0
    stepTimer := some (intervalAt p (rampLevel p c.k c.atLevel c.r)) }

/-- The counters after a step of a free move that plans R steps (R84). -/
def Channel.countStep (c : Channel) : Channel := { c with atLevel := c.atLevel + 1, r := c.r - 1 }

/-- The start of a free move at level 0: the counters, MOVING, the interval of level 0 (R84). -/
def Channel.startFree (c : Channel) (p : List Level) (dir : Direction) (r : Nat) : Channel :=
  { c with dir := dir, k := 0, r := r, atLevel := 0, made := 0, before := 0, edge := false }.enterMoving
    (intervalAt p 0)

/-! ### MOVE orders (R84 to R88) -/

/-- The figures of a MOVE's report as the channel stands: steps before the edge, steps after it, edge taken and phase
index (R88, Table 11-7). -/
def Channel.moveFigures (c : Channel) : List Word :=
  [wordNat (if c.edge then c.before else c.made), wordNat (if c.edge then c.made - c.before else 0),
   wordNat ((if c.edge then 1 else 0) + c.phase.toNat * 256)]

/-- A MOVE ends: the channel stops into HOLDING, then offers its COMPLETION report (R88). -/
def State.endMove (s : State) (c : Chan) (result : Result) : State :=
  (s.withChan c (s.chan c).hardStop).endOrder (chanQueue c) .motor result (s.chan c).moveFigures

/-- A MOVE starts: the cover test, then MOVING at level 0 with its counters set (R84, R93). -/
def State.startMove (s : State) (c : Chan) (p : MoveParams) : State :=
  if !s.level .coverClosed then
    s.endOrder (chanQueue c) .motor .coverOpen [0, 0, wordNat ((s.chan c).phase.toNat * 256)]
  else
    let r := match p.edge with
      | none => p.count
      | some e => p.count + e.extra
    s.withChan c ((s.chan c).startFree s.profiles[p.profile] p.dir r)

/-- The channel after a step of a MOVE: steps made and steps at level rise; R falls, before the edge of an EDGE move not
below 1 (R84). -/
def Channel.moveStep (c : Channel) (edge : Option EdgeParams) : Channel :=
  let r := match edge with
    | some _ => if c.edge then c.r - 1 else max 1 (c.r - 1)
    | none => c.r - 1
  { c.step with made := c.made + 1, atLevel := c.atLevel + 1, r := r }

/-- The step timer of a channel that carries out a MOVE expires: a jam, or a step and its end tests, or the next level
by the ramp rule (R84 to R86). -/
def State.stepMove (s : State) (c : Chan) (p : MoveParams) : State :=
  let ch := s.chan c
  let next := ch.moveStep p.edge
  match p.edge with
  | none =>
    if next.made = p.count then (s.withChan c next).endMove c .ok
    else s.withChan c (next.ramp s.profiles[p.profile])
  | some e =>
    if !ch.edge && decide (e.jam ≤ ch.made) then s.endMove c .jam
    else if next.edge && decide (next.made = next.before + e.extra) then (s.withChan c next).endMove c .ok
    else s.withChan c (next.ramp s.profiles[p.profile])

/-- A debounced change reaches a channel that carries out a MOVE: the first change of the edge sensor in the edge
direction is the edge (R85). -/
def State.edgeMove (s : State) (c : Chan) (p : MoveParams) (x : Sensor) (rising : Bool) : State :=
  match p.edge with
  | none => s
  | some e =>
    let ch := s.chan c
    if e.sensor = x ∧ e.rising = rising ∧ !ch.edge ∧ ch.state = .moving then
      let taken := s.withChan c { ch with edge := true, before := ch.made, r := e.extra }
      if e.extra = 0 then taken.endMove c .ok else taken
    else s

end Sys2Proof.Machine
end

