-- ==== Sys2Proof/Machine/Capture.lean ====
section
/-! DEFINITION. The Capture Engine's shared operations: stores, claims, phases, line boundaries and ends of a CAPTURE
(chapter 5, R121 to R128). -/

namespace Sys2Proof.Machine

/-! ### The running capture -/

/-- The CAPTURE being carried out: its fields and its record (R99). -/
def State.captureNow (s : State) : Option (CaptureParams × CaptureRecord) :=
  match s.activeWork .d, s.capture.record with
  | some (.capture p), some r => some (p, r)
  | _, _ => none

/-- The state with the running capture record replaced. -/
def State.withCaptureRecord (s : State) (r : CaptureRecord) : State :=
  s.withCapture { s.capture with record := some r }

/-- The figures of a CAPTURE's report: lines captured, overruns, sum, end phase (R105, Table 11-7). -/
def CaptureRecord.figures (r : CaptureRecord) : List Word :=
  [wordNat r.captured, wordNat r.overruns, r.sum, wordNat r.endPhase.code]

/-- Both capture line stores are EMPTY. -/
def CaptureEngine.storesEmpty (c : CaptureEngine) : Bool := c.storeA = .empty && c.storeB = .empty

/-- In DONE, once both stores are EMPTY, the engine ends the order (R105). -/
def State.captureFinish (s : State) : State :=
  match s.captureNow with
  | some (_, r) =>
    if r.phase = .done ∧ s.capture.storesEmpty then s.endOrder .d .capture r.result r.figures else s
  | none => s

/-- The end of a capture is decided: the end phase is the present one, and the order enters DONE, in which no step has
been made (R99, R105). -/
def State.captureDecide (s : State) (r : CaptureRecord) (result : Result) : State :=
  (s.withCaptureRecord
    { r with phase := .done, stepsInPhase := 0, endPhase := r.phase, result := result }).captureFinish

/-- Channel D stops hard and the end of the capture is decided (R87, R105). -/
def State.captureStop (s : State) (r : CaptureRecord) (result : Result) : State :=
  (s.withChanD s.chanD.hardStop).captureDecide r result

/-! ### Stores, claims and withdrawals (R54, R56, R95, R96) -/

/-- The store that is CLOCKING (R95). -/
def CaptureEngine.clocking (c : CaptureEngine) : Option StoreId :=
  match c.storeA, c.storeB with
  | .clocking _, _ => some .a
  | _, .clocking _ => some .b
  | _, _ => none

/-- A store that is EMPTY; of two the first, which nothing shows (log 28). -/
def CaptureEngine.freeStore (c : CaptureEngine) : Option StoreId :=
  if c.storeA = .empty then some .a else if c.storeB = .empty then some .b else none

/-- The WRITING store with the older claim (R97). -/
def CaptureEngine.writeBackStore (c : CaptureEngine) : Option StoreId :=
  match c.store c.older, c.store c.older.other with
  | .writing _ _, _ => some c.older
  | _, .writing _ _ => some c.older.other
  | _, _ => none

/-- A proceeding boundary begins a line, when a store is EMPTY and none is CLOCKING, or counts an overrun (R96). -/
def State.beginLine (s : State) (p : CaptureParams) (r : CaptureRecord) : State :=
  match s.capture.freeStore, s.capture.clocking with
  | some i, none =>
    let b := s.bands[p.band]
    let older := if s.capture.store i.other = .empty then i else i.other
    (s.withCapture { s.capture.withStore i (.clocking b.claimLine) with older := older, record := some r }).withLines
      p.band b.claim
  | _, _ => s.withCaptureRecord { r with overruns := stopAt 65535 (r.overruns + 1) }

/-- The claim of the line being clocked is withdrawn: its store becomes EMPTY, and in a COPY band accesses held on the
line are released (R56, R66). -/
def State.withdrawClocking (s : State) (n : Fin 4) : State :=
  match s.capture.clocking with
  | none => s
  | some i =>
    let b := s.bands[n]
    let s1 := (s.withCapture (s.capture.withStore i .empty)).withLines n b.withdraw
    if b.role = .copy then s1.releaseLine n b.withdrawLine else s1

/-! ### Line boundaries (R102, R103, R122, R128) -/

/-- The supply channel D counts: 0 while a notice of the band waits, else the capture supply (R122, R128). -/
def State.captureCount (s : State) (b : Fin 4) : Nat :=
  if s.noticeWaits b then 0 else s.bands[b].captureSupply

/-- The level of a line at which a channel proceeds: the least of k + 1, the top level and S - 1 (R122). -/
def pacedLevel (k top supply : Nat) : Nat := min (min (k + 1) top) (supply - 1)

/-- Channel D proceeds at a level: it loads the level's interval, the scan line is counted, in TAIL the tail left falls,
and a line is begun or an overrun counted (R96, R103, R122, R125). -/
def State.captureProceed (s : State) (p : CaptureParams) (r : CaptureRecord) (level : Nat) : State :=
  (s.withChanD ({ s.chanD with k := level }.enterMoving (intervalAt s.profiles[p.profile] level))).beginLine p
    { r with scanLines := stopAt 65535 (r.scanLines + 1)
             tailLeft := if r.phase = .tail then r.tailLeft - 1 else r.tailLeft }

/-- The line-boundary decision of channel D: pause at a supply of 0, else proceed (R122, R124). -/
def State.paceCapture (s : State) (p : CaptureParams) (r : CaptureRecord) : State :=
  if s.captureCount p.band = 0 then (s.withChanD (s.chanD.enterPaused p.pauseLimit)).withCaptureRecord r
  else s.captureProceed p r
    (pacedLevel s.chanD.k (topLevel s.profiles[p.profile]) (s.captureCount p.band))

/-- EJECT is entered: a free move of the eject steps from the present ramp level, or HOLDING at once for none (R104). -/
def State.enterEject (s : State) (p : CaptureParams) (r : CaptureRecord) : State :=
  let r' := { r with phase := .eject, stepsInPhase := 0 }
  if p.ejectSteps = 0 then (s.withChanD s.chanD.enterHolding).captureDecide r' .ok
  else (s.withChanD ({ s.chanD with r := p.ejectSteps, atLevel := 0, paced := none }.ramp
      s.profiles[p.profile])).withCaptureRecord r'

/-- The scan lines have reached a line limit that is not 0 (R102, R103). -/
def CaptureRecord.limitReached (r : CaptureRecord) (p : CaptureParams) : Bool :=
  p.lineLimit ≠ 0 && decide (p.lineLimit ≤ r.scanLines)

/-- A TAIL boundary is settled (R103). -/
def State.tailBoundary (s : State) (p : CaptureParams) (r : CaptureRecord) : State :=
  if r.tailLeft = 0 then s.enterEject p r
  else if r.limitReached p then s.enterEject p r
  else s.paceCapture p r

/-- A SCANNING boundary is settled (R102). -/
def State.scanBoundary (s : State) (p : CaptureParams) (r : CaptureRecord) : State :=
  if r.trailing then s.tailBoundary p { r with phase := .tail, stepsInPhase := 0, tailLeft := p.tailLines }
  else if r.limitReached p then s.enterEject p r
  else if p.maxLength ≤ r.docLines then s.captureStop r .jam
  else s.paceCapture p r

/-- A line boundary of the paced phases is settled by the phase (R102, R103). -/
def State.captureBoundary (s : State) (p : CaptureParams) (r : CaptureRecord) : State :=
  if r.phase = .tail then s.tailBoundary p r else s.scanBoundary p r

/-- The paced phases are entered: the paced record is formed, and the entry is the first boundary, of TAIL if the
trailing edge has been taken (R101, R102, R121). -/
def State.enterPaced (s : State) (p : CaptureParams) (r : CaptureRecord) : State :=
  (s.withChanD { s.chanD with paced := some (p.band, .capture) }).scanBoundary p
    { r with phase := .scanning, stepsInPhase := 0 }

/-- SKIP is entered at the leading edge; skip lines of 0 go straight to the first boundary (R101). -/
def State.enterSkip (s : State) (p : CaptureParams) (r : CaptureRecord) : State :=
  let r' := { r with phase := .skip, docLines := 0, stepsInPhase := 0, stepsInLine := 0 }
  if p.skipLines = 0 then s.enterPaced p r'
  else (s.withChanD { s.chanD with r := p.skipLines * p.stepsPerLine, atLevel := 0 }).withCaptureRecord r'

/-- A CAPTURE starts: cover test, DOC_PRESENT test, APPROACH at level 0, or SKIP at once where DOC_AT_LINE is high
already (R93, R100). Channel D turns FORWARD (log 13). -/
def State.startCapture (s : State) (p : CaptureParams) : State :=
  if !s.level .coverClosed then s.captureDecide CaptureRecord.start .coverOpen
  else if !s.level .docPresent then s.captureDecide CaptureRecord.start .docOut
  else
    let r := { CaptureRecord.start with phase := .approach }
    let s1 := (s.withChanD (s.chanD.startFree s.profiles[p.profile] .forward 0)).withCaptureRecord r
    if s.level .docAtLine then s1.enterSkip p r else s1

/-- The record with one more step of a line, and the boundary it completes: steps in line back to 0 and one more
document line (R101, R102). -/
def CaptureRecord.lineStep (r : CaptureRecord) (p : CaptureParams) : CaptureRecord :=
  if r.stepsInLine + 1 = p.stepsPerLine then
    { r with stepsInLine := 0, docLines := stopAt 65535 (r.docLines + 1) }
  else { r with stepsInLine := r.stepsInLine + 1 }

/-- The step timer of channel D expires in SKIP (R101). -/
def State.stepSkip (s : State) (p : CaptureParams) (r : CaptureRecord) : State :=
  let r' := { r.lineStep p with stepsInPhase := r.stepsInPhase + 1 }
  let s1 := s.withChanD s.chanD.step.countStep
  if r'.stepsInPhase = p.skipLines * p.stepsPerLine then s1.enterPaced p r'
  else if p.maxLength ≤ r'.docLines ∧ !r'.trailing then s1.captureStop r' .jam
  else (s1.withChanD (s1.chanD.ramp s.profiles[p.profile])).withCaptureRecord r'

/-- The step timer of channel D expires in SCANNING or TAIL: the step, and the boundary it completes (R99, R102, R123). -/
def State.stepPaced (s : State) (p : CaptureParams) (r : CaptureRecord) : State :=
  let s1 := s.withChanD { s.chanD.step with stepTimer := some (intervalAt s.profiles[p.profile] s.chanD.k) }
  let r' := { r.lineStep p with stepsInPhase := stopAt 65535 (r.stepsInPhase + 1) }
  if r.stepsInLine + 1 = p.stepsPerLine then s1.captureBoundary p r' else s1.withCaptureRecord r'

/-- The step timer of channel D expires in EJECT (R104); its steps leave the steps in line at 0 (log 42). -/
def State.stepEject (s : State) (p : CaptureParams) (r : CaptureRecord) : State :=
  let r' := { r with stepsInPhase := r.stepsInPhase + 1 }
  let s1 := s.withChanD s.chanD.step.countStep
  if r'.stepsInPhase = p.ejectSteps then (s1.withChanD s1.chanD.enterHolding).captureDecide r' .ok
  else (s1.withChanD (s1.chanD.ramp s.profiles[p.profile])).withCaptureRecord r'

/-- The step timer of channel D expires in APPROACH: the jam in place of a step, or a step at level 0 (R100); its steps
leave the steps in line at 0 (log 42). -/
def State.stepApproach (s : State) (p : CaptureParams) (r : CaptureRecord) : State :=
  if p.jam ≤ r.stepsInPhase then s.captureStop r .jam
  else (s.withChanD { s.chanD.step with stepTimer := some (intervalAt s.profiles[p.profile] 0) }).withCaptureRecord
    { r with stepsInPhase := r.stepsInPhase + 1 }

/-- The step timer of channel D expires during a CAPTURE, by the phase (section 5.4). -/
def State.stepCapture (s : State) (p : CaptureParams) (r : CaptureRecord) : State :=
  match r.phase with
  | .start => s
  | .approach => s.stepApproach p r
  | .skip => s.stepSkip p r
  | .scanning => s.stepPaced p r
  | .tail => s.stepPaced p r
  | .eject => s.stepEject p r
  | .done => s

/-! ### Resume, sensors, ends -/

/-- A paused channel D counts its supply again and resumes at level 0, the boundary settled as one at which it proceeds
(R125, R128). -/
def State.resumeD (s : State) (b : Fin 4) : State :=
  match s.captureNow with
  | some (p, r) =>
    if s.chanD.state = .paused ∧ p.band = b ∧ 0 < s.captureCount b then s.captureProceed p r 0 else s
  | none => s

/-- DOC_AT_LINE changes during a CAPTURE: the leading edge in APPROACH, the trailing edge in SKIP and SCANNING
(R100 to R102). -/
def State.docEdge (s : State) (rising : Bool) : State :=
  match s.captureNow with
  | some (p, r) =>
    match r.phase, rising with
    | .approach, true => s.enterSkip p r
    | .skip, false | .scanning, false => s.withCaptureRecord { r with trailing := true }
    | _, _ => s
  | none => s

/-- An ABORT or the cover ends the capture before DONE: the line being clocked is withdrawn, lines WRITING are written
back, channel D stops hard (R106, R107). In DONE only an ABORT still changes the result (R105). -/
def State.captureBreak (s : State) (result : Result) : State :=
  match s.captureNow with
  | some (p, r) =>
    if r.phase = .done then
      if result = .aborted then s.withCaptureRecord { r with result := .aborted } else s
    else (s.withdrawClocking p.band).captureStop r result
  | none => s

end Sys2Proof.Machine
end

