-- ==== Sys2Proof/Machine/Emit.lean ====
section
/-! DEFINITION. The Emit Engine's shared operations: stores, shift, latch, phases, line boundaries and ends of an EMIT
(chapter 6, R121 to R130). -/

namespace Sys2Proof.Machine

/-! ### The running emit -/

/-- The EMIT being carried out: its fields and its record (R114). -/
def State.emitNow (s : State) : Option (EmitParams × EmitRecord) :=
  match s.activeWork .p, s.emit.record with
  | some (.emit p), some r => some (p, r)
  | _, _ => none

/-- The state with the running emit record replaced. -/
def State.withEmitRecord (s : State) (r : EmitRecord) : State := s.withEmit { s.emit with record := some r }

/-- The figures of an EMIT's report: lines printed, end reason (R117, Table 11-7). -/
def emitFigures (printed : Nat) (reason : EndReason) : List Word := [wordNat printed, wordNat reason.code]

/-- The end of an emit is decided: the order enters DONE and its report is offered (R117). -/
def State.emitDecide (s : State) (r : EmitRecord) (result : Result) (reason : EndReason) : State :=
  (s.withEmitRecord { r with phase := .done, result := result, endReason := some reason }).endOrder .p .emit result
    (emitFigures r.printed reason)

/-! ### Stores (R109 to R112) -/

/-- A store is STROBING (R109). -/
def EmitEngine.strobing (e : EmitEngine) : Option StoreId :=
  if e.storeA.state = .strobing then some .a else if e.storeB.state = .strobing then some .b else none

/-- A store is SHIFTING (R109). -/
def EmitEngine.shifting (e : EmitEngine) : Option StoreId :=
  if e.storeA.state = .shifting then some .a else if e.storeB.state = .shifting then some .b else none

/-- A store is SHIFTED (R109). -/
def EmitEngine.shifted (e : EmitEngine) : Option StoreId :=
  if e.storeA.state = .shifted then some .a else if e.storeB.state = .shifted then some .b else none

/-- A store that is EMPTY; of two the first, which nothing shows (log 28). -/
def EmitEngine.freeStore (e : EmitEngine) : Option StoreId :=
  if e.storeA.state = .empty then some .a else if e.storeB.state = .empty then some .b else none

/-- The oldest FETCHED store (R111). -/
def EmitEngine.fetched (e : EmitEngine) : Option StoreId :=
  if (e.store e.older).state = .fetched then some e.older
  else if (e.store e.older.other).state = .fetched then some e.older.other else none

/-- The shift register is free when no store is SHIFTING or SHIFTED; then the oldest FETCHED store begins its shift
(R111). -/
def EmitEngine.beginShift (e : EmitEngine) : EmitEngine :=
  match e.shifting, e.shifted, e.fetched with
  | none, none, some i => { e.withStore i { e.store i with state := .shifting } with shiftReg := none }
  | _, _, _ => e

/-- Latch: the shift register is copied into the latch, the store becomes STROBING with group 0, and the register takes
the next line (R108, R112). -/
def EmitEngine.latchStore (e : EmitEngine) (i : StoreId) : EmitEngine :=
  { e.withStore i { e.store i with state := .strobing } with group := 0, latch := e.shiftReg }.beginShift

/-- A boundary that proceeds latches line D if its store is SHIFTED (R112). -/
def State.tryLatch (s : State) : State :=
  match s.emit.strobing, s.emit.shifted with
  | none, some i => s.withEmit (s.emit.latchStore i)
  | _, _ => s

/-- The engine gives back the lines it will not print: the fetch request is withdrawn, a shift is stopped, both stores
become EMPTY and every DRAINING line becomes FULL (R61, R118 to R120). -/
def State.revertLines (s : State) (b : Fin 4) : State :=
  let reg := if s.emit.shifting.isSome then none else s.emit.shiftReg
  ((s.withPort { s.port with fetchReq := false }).withEmit
    { s.emit with storeA := PrintStore.none, storeB := PrintStore.none, shiftReg := reg }).withLines b
      s.bands[b].revert

/-- An emit stops: reversion, hard stop of channel P, end decided (R118 to R120). -/
def State.emitStop (s : State) (p : EmitParams) (r : EmitRecord) (result : Result) (reason : EndReason) : State :=
  let s1 := s.revertLines p.band
  (s1.withChanP s1.chanP.hardStop).emitDecide r result reason

/-! ### Line boundaries (R115 to R117, R122) -/

/-- No CAPTURE naming the band runs or waits in the D queue (R116). -/
def State.captureGone (s : State) (b : Fin 4) : Bool := !s.intake.dQueue.someWork (·.capturesInto b)

/-- The end condition of an open emit (R116). -/
def State.openEnds (s : State) (p : EmitParams) (r : EmitRecord) : Bool :=
  s.bands[p.band].c = 0 &&
    match s.bands[p.band].role with
    | .emit => r.closed
    | .copy => s.captureGone p.band
    | .off | .capture => false

/-- The end reason of an emit that ends OK (R117). -/
def State.okReason (s : State) (p : EmitParams) : EndReason :=
  if p.lineCount ≠ 0 then .countDone
  else match s.bands[p.band].role with
    | .copy => .captureDone
    | .off | .capture | .emit => .closed

/-- TAIL is entered: a free move of the tail feed steps, from the present ramp level where channel P moves and from
level 0 elsewhere, or HOLDING at once for none (R117). -/
def State.enterTail (s : State) (p : EmitParams) (r : EmitRecord) : State :=
  let levels := s.profiles[p.profile]
  if p.tailFeed = 0 then (s.withChanP s.chanP.enterHolding).emitDecide r .ok (s.okReason p)
  else if s.chanP.state = .moving then
    (s.withChanP ({ s.chanP with r := p.tailFeed, atLevel := 0, paced := none }.ramp levels)).withEmitRecord
      { r with phase := .tail }
  else
    (s.withChanP ({ s.chanP with k := 0, r := p.tailFeed, atLevel := 0, paced := none }.enterMoving
      (intervalAt levels 0))).withEmitRecord { r with phase := .tail }

/-- Channel P proceeds at a level: BOUNDARY_WAIT at the run level, and line D latched if its store is SHIFTED (R112,
R123, R125). -/
def State.emitProceed (s : State) (r : EmitRecord) (level : Nat) : State :=
  ((s.withChanP { s.chanP with k := level }.enterBoundaryWait).withEmitRecord r).tryLatch

/-- A PRINTING boundary is settled (R115, R122). -/
def State.printBoundary (s : State) (p : EmitParams) (r : EmitRecord) : State :=
  if r.paperLost then s.emitStop p r .paperOut .paperOut
  else if p.lineCount ≠ 0 ∧ p.lineCount ≤ r.printed then s.enterTail p r
  else if p.lineCount = 0 ∧ s.openEnds p r then s.enterTail p r
  else if s.bands[p.band].emitSupply = 0 then
    (s.withChanP (s.chanP.enterPaused p.pauseLimit)).withEmitRecord r
  else s.emitProceed r
    (pacedLevel s.chanP.k (topLevel s.profiles[p.profile]) s.bands[p.band].emitSupply)

/-- An EMIT starts: cover test, PAPER_PRESENT test, PRINTING at its first boundary with k at 0 (R93, R115, R121).
Channel P turns FORWARD (log 13). -/
def State.startEmit (s : State) (p : EmitParams) : State :=
  if !s.level .coverClosed then s.emitDecide EmitRecord.start .coverOpen .cover
  else if !s.level .paperPresent then s.emitDecide EmitRecord.start .paperOut .paperOut
  else
    (s.withChanP { s.chanP with holdTimer := none, dir := .forward, k := 0, paced := some (p.band, .emit) }).printBoundary
      p { EmitRecord.start with phase := .printing }

/-- The step timer of channel P expires in PRINTING (R115, R123). -/
def State.stepPrinting (s : State) (p : EmitParams) (r : EmitRecord) : State :=
  let s1 := s.withChanP { s.chanP.step with stepTimer := some (intervalAt s.profiles[p.profile] s.chanP.k) }
  if r.stepsInLine + 1 = p.stepsPerLine then s1.printBoundary p { r with stepsInLine := 0 }
  else s1.withEmitRecord { r with stepsInLine := r.stepsInLine + 1 }

/-- The step timer of channel P expires in TAIL (R117); its steps leave the steps in line at 0 (log 42). -/
def State.stepTail (s : State) (p : EmitParams) (r : EmitRecord) : State :=
  let s1 := s.withChanP s.chanP.step.countStep
  if s1.chanP.r = 0 then (s1.withChanP s1.chanP.enterHolding).emitDecide r .ok (s.okReason p)
  else (s1.withChanP (s1.chanP.ramp s.profiles[p.profile])).withEmitRecord r

/-- The step timer of channel P expires during an EMIT, by the phase. -/
def State.stepEmit (s : State) (p : EmitParams) (r : EmitRecord) : State :=
  match r.phase with
  | .start => s
  | .printing => s.stepPrinting p r
  | .tail => s.stepTail p r
  | .done => s

/-! ### Resume, sensors, ends -/

/-- A paused channel P counts its supply again and resumes at level 0 (R125). -/
def State.resumeP (s : State) (b : Fin 4) : State :=
  match s.emitNow with
  | some (p, r) =>
    if s.chanP.state = .paused ∧ p.band = b ∧ 0 < s.bands[b].emitSupply then s.emitProceed r 0 else s
  | none => s

/-- The end condition of an open emit is tested for a paused channel P (R116). -/
def State.testOpenEnd (s : State) : State :=
  match s.emitNow with
  | some (p, r) =>
    if s.chanP.state = .paused ∧ p.lineCount = 0 ∧ s.openEnds p r then s.enterTail p r else s
  | none => s

/-- PAPER_PRESENT falls: in PRINTING the paper is lost, acted on at once where channel P is PAUSED or waits before the
latch (R115). -/
def State.paperFall (s : State) : State :=
  match s.emitNow with
  | some (p, r) =>
    if r.phase = .printing then
      let r' := { r with paperLost := true }
      if s.chanP.state = .paused ∨ (s.chanP.state = .boundaryWait ∧ s.emit.strobing = none) then
        s.printBoundary p r'
      else s.withEmitRecord r'
    else s
  | none => s

/-- The cover ends an emit before DONE: heat cut, every line in a store reverted (R119). An emit that was told to stop
and waits for its strobe end ends COVER_OPEN too, the fall being taken first (log 36). -/
def State.emitCover (s : State) : State :=
  match s.emitNow with
  | some (p, r) => if r.phase = .done then s else s.emitStop p r .coverOpen .cover
  | none => s

/-- An ABORT reaches a running emit before DONE and sets stop asked: a line under heat is finished first, else the stop
is made at once (R114, R120). -/
def State.emitAbort (s : State) : State :=
  match s.emitNow with
  | some (p, r) =>
    if r.phase = .done then s
    else if s.emit.strobing.isSome then s.withEmitRecord { r with stopAsked := true }
    else s.emitStop p { r with stopAsked := true } .aborted .abort
  | none => s

/-! ### Fetches (R110) -/

/-- The Emit Engine asks for a fetch (R110). -/
def State.wantsFetch (s : State) : Bool :=
  match s.emitNow with
  | some (p, r) =>
    r.phase = .printing && s.emit.freeStore.isSome && s.bands[p.band].canFetch && !r.paperLost && !r.stopAsked
      && (p.lineCount = 0 || decide (r.printed + s.bands[p.band].draining < p.lineCount))
  | none => false

end Sys2Proof.Machine
end

