-- ==== Sys2Proof/Machine/Mover.lean ====
section
/-! DEFINITION. The observations that accesses make when their grants end (R57, R58, R65), and the Block Mover's shared
operations: chunks, bursts, holds and the end of a TRANSFER (chapter 8). -/

namespace Sys2Proof.Machine

/-! ### Observations (R57, R58, R65, R125) -/

/-- What an access does to the marks when its grant ends: a fill and then the resume of channel P, a drain and then the
resume of channel D, or a BAND_ORDER fault. A fill or a drain is made only if the band still stands as judged
(log 20). -/
def State.applyObs (s : State) (obs : Obs) (who : Requester) (op : AccessOp) (addr : Nat) : State :=
  match obs with
  | .nothing => s
  | .fill b line =>
    if s.bands[b].role = .emit ∧ line = s.bands[b].f ∧ s.bands[b].c < s.bands[b].lines then
      (s.withCount b s.bands[b].fill true).resumeP b
    else s
  | .drain b line =>
    if s.bands[b].role = .capture ∧ line = s.bands[b].d ∧ 0 < s.bands[b].c then
      (s.withCount b s.bands[b].drain false).resumeD b
    else s
  | .bandOrder b => s.raiseFault ⟨.bandOrder, .noReason, who, op, addr, b.val⟩

/-! ### The transfer record (R135, R136) -/

/-- The present segment. -/
def Mover.seg (m : Mover) : Segment := if m.segment = 1 then m.params.seg1 else m.params.seg2

/-- The words of the present segment. -/
def Mover.segWords (m : Mover) : Nat := m.seg.length / 2

/-- The word after the last of the present chunk. -/
def Mover.chunkEnd (m : Mover) : Nat := m.chunkFirst + m.chunkSize

/-- A chunk begins at a word of the present segment: the next 16 words, or fewer where fewer are left; it is read first
in COPY mode and written at once in FILL mode (R136). -/
def Mover.beginChunk (m : Mover) (first : Nat) : Mover :=
  { m with chunkFirst := first, chunkSize := min Config.burstWords (m.segWords - first), next := first, buffer := [],
           state := match m.params.mode with
             | .copy => .reading
             | .fill => .writing }

/-- The word to be written as word `i` of the segment: the fill word, or the chunk buffer's word, none where it is
invalid (R136, R138). -/
def Mover.wordToWrite (m : Mover) (i : Nat) : Option Word :=
  match m.params.mode with
  | .fill => some (wordNat m.seg.source)
  | .copy => m.buffer.getD (i - m.chunkFirst) none

/-- The access the mover makes for word `i`: a word read of the source, or a word write of the destination; none for
an invalid word, which is not written (R136). -/
def Mover.access (m : Mover) (i : Nat) : Option Access :=
  match m.work with
  | .reading => some ⟨m.sourceAddr i, .readWord⟩
  | .writing => (m.wordToWrite i).map fun w => ⟨m.destAddr i, .writeWord w⟩
  | .idle | .held | .ending => none

/-- The figures of a TRANSFER's report: words moved in two words, sum (R141, Table 11-7). -/
def Mover.figures (m : Mover) : List Word := [wordNat (m.moved / 65536), wordNat m.moved, m.sum]

/-! ### Start and end (R134, R141, R142) -/

/-- A TRANSFER starts: a fresh record and its first chunk (R135, R136). -/
def State.startTransfer (s : State) (p : TransferParams) : State :=
  s.withMover ({ Mover.reset with params := p }.beginChunk 0)

/-- The transfer's end is decided: the request that waits is withdrawn, the mover is ENDING and offers its report
(R141, R142). -/
def State.endTransfer (s : State) (result : Result) : State :=
  ((s.withPort { s.port with moverReq := none }).withMover
    { s.mover with state := .ending, heldOn := none, aborting := false }).endOrder .mover .mover result s.mover.figures

/-- An ABORT stops the transfer: the words in the chunk buffer are discarded, and the end is decided ABORTED (R142;
log 44). -/
def State.stopTransfer (s : State) : State := (s.withMover { s.mover with buffer := [] }).endTransfer .aborted

/-- An ABORT reaches a running TRANSFER before ENDING: a grant in progress runs to its end, a word held at it being
abandoned at once; else the mover stops at once (R18, R142). -/
def State.abortTransfer (s : State) : State :=
  match s.mover.state with
  | .idle | .ending => s
  | .reading | .writing | .held =>
    if s.moverGranted then s.withMover { s.mover with state := s.mover.work, heldOn := none, aborting := true }
    else s.stopTransfer

/-! ### Bursts (R137) -/

/-- The paths of the burst that begins at word `i`, of at most `n` words: the words that pass, ended by one that the
Band Unit observes, or before one that is held, dropped or not written (R137). -/
def State.moverBurst (s : State) : Nat → Nat → List Path
  | 0, _ => []
  | n + 1, i =>
    match s.mover.access i with
    | none => []
    | some a =>
      match s.classify .mover a with
      | .pass path =>
        match s.standing path a with
        | .pass .nothing => path :: s.moverBurst n (i + 1)
        | .pass _ => [path]
        | .hold => []
      | .drop _ _ _ _ => []
      | .hold _ => []

/-- The words of a burst that go on at its grant, and what the last of them is observed as: each word goes by the
judgement that stands for it, and the burst is cut before one that is held and after one that is observed (R65, R137). -/
def State.moverCut (s : State) : List Path → Nat → Nat × Obs
  | [], _ => (0, .nothing)
  | path :: rest, i =>
    match s.mover.access i with
    | none => (0, .nothing)
    | some a =>
      match s.standing path a with
      | .hold => (0, .nothing)
      | .pass .nothing => ((s.moverCut rest (i + 1)).1 + 1, (s.moverCut rest (i + 1)).2)
      | .pass obs => (1, obs)

/-- The place in a band of the word before which a burst of `n` words was cut because it is then held, none where the
burst was not cut so: a burst that ends with an observed word is not (R65, R137). -/
def State.cutPlace (s : State) (paths : List Path) (cut : Nat × Obs) : Option (Fin 4 × Nat) :=
  if cut.1 < paths.length ∧ cut.2 = .nothing then
    ((s.mover.access (s.mover.next + cut.1)).bind fun a => s.bandPlace a.at).map fun p => (p.1, p.2.1)
  else none

/-- A mover word is held on a band line: the mover is HELD and asks nothing (R139). -/
def State.holdMover (s : State) (b : Fin 4) (line : Nat) : State :=
  (s.withPort { s.port with moverReq := none }).withMover
    { s.mover with state := .held, heldOn := some (b, line), heldWrite := s.mover.state = .writing }

/-! ### Between grants (R136 to R139) -/

/-- The present chunk has been read or written whole: a chunk that was read is written, a chunk that was written is
followed by the next chunk, by segment 2 if its length is not 0, or by the end (R136). -/
def State.turnChunk (s : State) : State :=
  let m := s.mover
  match m.state with
  | .reading => s.withMover { m with state := .writing, next := m.chunkFirst }
  | .writing =>
    if m.chunkEnd < m.segWords then s.withMover (m.beginChunk m.chunkEnd)
    else if m.segment = 1 ∧ m.params.seg2.length ≠ 0 then s.withMover ({ m with segment := 2 }.beginChunk 0)
    else s.endTransfer .ok
  | .idle | .held | .ending => s

/-- One act of the mover between grants: the turn of a chunk, an invalid word passed over, a burst asked, a word held,
or a word dropped with its fault (R136 to R139). -/
def State.moverAct (s : State) : State :=
  let m := s.mover
  if m.chunkEnd ≤ m.next then s.turnChunk
  else
    match m.access m.next with
    | none => s.withMover m.skip
    | some a =>
      match s.classify .mover a with
      | .pass _ => s.withPort { s.port with moverReq := some (s.moverBurst (m.chunkEnd - m.next) m.next) }
      | .hold (.line b line) => s.holdMover b line
      | .hold (.slot _) => s
      | .hold .rest => s
      | .drop code reason addr _ => (s.withMover m.skip).raiseFault ⟨code, reason, .mover, a.op, addr, 0⟩

/-- The mover has a word to go on with and no request or grant. -/
def State.moverFree (s : State) : Bool :=
  (s.mover.state = .reading || s.mover.state = .writing) && s.port.moverReq.isNone && !s.moverGranted

/-- The mover goes on until it has asked a burst, is held, or has ended; `fuel` bounds its acts. -/
def State.runMover (s : State) : Nat → State
  | 0 => s
  | n + 1 => if s.moverFree then (s.moverAct).runMover n else s

/-- A bound on the acts of a transfer between two grants: a read and a write of each word and two turns a chunk. -/
def Mover.fuel (m : Mover) : Nat := 2 * (m.params.seg1.length + m.params.seg2.length) + 8

/-- The mover goes on (R136 to R139). -/
def State.settleMover (s : State) : State := if s.moverFree then s.runMover s.mover.fuel else s

/-! ### The end of a mover grant (R137, R138) -/

/-- The words of the segment from word `i` on, `n` of them, as a read finds them: ROM in the ROM region, else DRAM
(R14). -/
def State.sourceWords (s : State) (i : Nat) : Nat → List Word
  | 0 => []
  | n + 1 =>
    (if Config.romBase ≤ s.mover.sourceAddr i then s.romWord (s.mover.sourceAddr i - Config.romBase)
      else s.dramWord (s.mover.sourceAddr i)) :: s.sourceWords (i + 1) n

/-- The words to be written from word `i` on, `n` of them. -/
def Mover.destWords (m : Mover) (i : Nat) : Nat → List Word
  | 0 => []
  | n + 1 => (m.wordToWrite i).getD 0 :: m.destWords (i + 1) n

/-- The mover after a grant of `n` words: words read are in the buffer, words written are counted and summed (R137,
R138). -/
def State.moverDone (s : State) (n : Nat) : Mover :=
  let m := s.mover
  match m.work with
  | .reading => { m with buffer := m.buffer ++ (s.sourceWords m.next n).map some, next := m.next + n }
  | .writing => { m with moved := m.moved + n, sum := (m.destWords m.next n).foldl (· + ·) m.sum, next := m.next + n }
  | .idle | .held | .ending => m

/-- The mover passes over the word that was held at its grant and cancelled before the grant ended (R18, R139). -/
def Mover.passCancelled (m : Mover) : Mover := if m.passOver then { m.skip with passOver := false } else m

/-- A mover grant of `n` words ends, memory being written already: the words are done, the last of them is observed, a
word cancelled meanwhile is passed over, and an ABORT that waited for the grant ends the transfer (R137, R142). -/
def State.endMoverGrant (s : State) (n : Nat) (obs : Obs) : State :=
  let last := s.mover.access (s.mover.next + n - 1)
  let s1 := s.withMover (s.moverDone n).passCancelled
  let s2 := match last with
    | some a => s1.applyObs obs .mover a.op a.addr
    | none => s1
  if s2.mover.aborting then s2.stopTransfer else s2

end Sys2Proof.Machine
end

