-- ==== Sys2Proof/Machine/Power.lean ====
section
/-! DEFINITION. The Power Unit's shared operations: the order notice, wake causes, the ends of a sleep, the wake, the
lapse, and the ringing qualifier (chapter 9). -/

namespace Sys2Proof.Machine

/-! ### Codes (Tables 11-6, 11-7, 11-10) -/

/-- The wake causes, in the order of their codes (R150). -/
inductive WakeCause where
  | ringing
  | pattern (p : Fin 4)
  | timer
  deriving DecidableEq, Repr

/-- The code of a wake cause (Table 11-10). -/
def WakeCause.code : WakeCause → Nat
  | .ringing => 0
  | .pattern p => p.val + 1
  | .timer => 5

/-- The kinds of a POWER WAKE report, in the order of their codes (R150). -/
inductive WakeKind where
  | first
  | afterLapse
  | early
  deriving DecidableEq, Repr

/-- The code of a wake kind (Table 11-7). -/
def WakeKind.code : WakeKind → Nat
  | .first => 0
  | .afterLapse => 1
  | .early => 2

/-- The POWER WAKE report: the wake word and the kind (R150). -/
def wakeReport (word : Word) (kind : WakeKind) : Report :=
  { cls := .power, code := 1, body := padBody [word, wordNat kind.code] }

/-- The POWER CALL report: count needed and noise count (R155). -/
def callReport (needed noise : Nat) : Report :=
  { cls := .power, code := 2, body := padBody [wordNat needed, wordNat noise] }

/-- The POWER MUTED report: noise count and noise limit (R155). -/
def mutedReport (noise limit : Nat) : Report :=
  { cls := .power, code := 3, body := padBody [wordNat noise, wordNat limit] }

/-! ### Shared acts -/

/-- The Power Unit in RUNNING: every timer and watch stopped, the wake settings cleared, the lapse count 0; wake words
still to be written stay (R147, R151). -/
def Power.toRunning (p : Power) : Power := { Power.reset with wakeWrites := p.wakeWrites }

/-- The processor clock runs or is stopped (R146, R149, R152). -/
def State.withClock (s : State) (on : Bool) : State := s.withPins { s.pins with clock := on }

/-- A request to the Memory Port to enter self-refresh, or its withdrawal (R23). -/
def State.askSelfRefresh (s : State) (on : Bool) : State := s.withPort { s.port with selfAsked := on }

/-- The Memory Port leaves self-refresh: ACTIVE, the timer restarted, a refresh due at once; found ACTIVE, nothing
(R23). -/
def Port.leaveSelfRefresh (p : Port) : Port :=
  if p.dram = .selfRefresh then { p with dram := .active, refreshTimer := true, refreshDue := true } else p

/-- The final write of the SLEEP slot falls due (R147, R149). -/
def State.oweSleepWrite (s : State) (slot : Nat) (r : Result) : State :=
  s.withIntake { s.intake with finalWrites := s.intake.finalWrites ++ [⟨.sleep, slot, kindSleep, r⟩] }

/-- The de-energise request to both channels (R76). -/
def State.deEnergiseBoth (s : State) : State :=
  (s.withChanD s.chanD.deEnergise).withChanP s.chanP.deEnergise

/-- The watches of the enabled patterns: the timer of a pattern runs while the pattern matches (R148). -/
def State.watchPatterns (s : State) (w : WakeSettings) : Vector Bool 4 :=
  Vector.ofFn fun p => w.patternOn.getLsbD p.val && s.matches w.patterns[p]

/-- A debounced change reaches the pattern watches, in the states that watch (R148). -/
def State.rewatch (s : State) : State :=
  match s.power.state, s.power.settings with
  | .sleepPending, some w => s.withPower { s.power with patternTimers := s.watchPatterns w }
  | .sleeping, some w => s.withPower { s.power with patternTimers := s.watchPatterns w }
  | _, _ => s

/-- SLEEPING is entered, from an entry or a return to sleep: the clock stopped, the wake timer from its setting if
TIMER is enabled, the watches, the qualified count and its window afresh (R146, R152). -/
def State.enterSleeping (s : State) (w : WakeSettings) : State :=
  ((s.withClock false).withRing { s.ring with qualified := 0, window := false }).withPower
    { s.power with state := .sleeping, entering := false, sleepLimit := false, confirmTimer := none,
                   wakeTimer := if w.timerOn then some w.timer else none, patternTimers := s.watchPatterns w }

/-! ### The ends of SLEEP_PENDING (R147) -/

/-- The sleep in hand ends CANCELLED or ABANDONED: RUNNING, the slot's final write, the rest read released (R147). -/
def State.endSleep (s : State) (r : Result) : State :=
  match s.power.settings with
  | some w =>
    (((s.withPower s.power.toRunning).askSelfRefresh false).oweSleepWrite w.slot r).releaseCpu .rest
  | none => s

/-- The sleep in hand ends WOKEN_EARLY: RUNNING, the slot's final write, the wake word to be written before the rest
read is released, and a POWER WAKE report of kind EARLY (R147; log 17). The muted flag is taken with the cause (R150;
log 38). -/
def State.wakeEarly (s : State) (w : WakeSettings) (c : WakeCause) : State :=
  let word := wakeWord c.code s.power.lapse s.ring.muted
  let p := { s.power.toRunning with wakeWrites := s.power.wakeWrites ++ [(w.rest, word)] }
  (((s.withPower p).askSelfRefresh false).oweSleepWrite w.slot .wokenEarly).offerPower (wakeReport word .early)

/-! ### Wake causes (R148, R149) -/

/-- A wake starts: WAKE_CONFIRM, the wake timer and the watches stopped, DRAM out of self-refresh, the wake word to be
written. The muted flag is taken with the cause (R149, R150; log 38). -/
def State.startWake (s : State) (w : WakeSettings) (c : WakeCause) : State :=
  (s.withPort s.port.leaveSelfRefresh).withPower
    { s.power with state := .wakeConfirm, stage := .waking, wakeTimer := none, patternTimers := Vector.replicate 4 false,
                   wakeWrites := s.power.wakeWrites ++ [(w.rest, wakeWord c.code s.power.lapse s.ring.muted)] }

/-- A wake cause is taken, by the power state (R147 to R149). -/
def State.takeCause (s : State) (c : WakeCause) : State :=
  match s.power.state, s.power.settings with
  | .sleepPending, some w => s.wakeEarly w c
  | .sleeping, some w => s.startWake w c
  | _, _ => s

/-! ### Confirmation and lapse (R151, R152) -/

/-- The wake is confirmed (R151). -/
def State.confirmWake (s : State) : State := s.withPower s.power.toRunning

/-- A return to sleep is given up: the clock runs, DRAM leaves self-refresh, RUNNING with lapse count 0 (R152;
log 18). -/
def State.giveUpLapse (s : State) : State :=
  ((s.withClock true).withPort { s.port.leaveSelfRefresh with selfAsked := false }).withPower s.power.toRunning

/-- The notice that an order was taken, by the power state (R30, R147, R149, R151, R152). -/
def State.notice (s : State) : State :=
  match s.power.state with
  | .running => s
  | .sleepPending => s.endSleep .cancelled
  | .sleeping => s
  | .wakeConfirm =>
    match s.power.stage with
    | .waking => s.withPower { s.power with noticeKept := true }
    | .confirming => s.confirmWake
    | .stopClock => s.giveUpLapse
    | .postReports => s.giveUpLapse
    | .awaitRefresh => s.giveUpLapse

/-- A return to sleep goes on: the clock stops when no processor access is outstanding; when no posting can be made the
motors are de-energised and self-refresh is asked (R152). -/
def State.settleLapse (s : State) : State :=
  if s.power.state = .wakeConfirm then
    let s1 :=
      if s.power.stage = .stopClock ∧ s.passage.cpu = none then
        (s.withClock false).withPower { s.power with stage := .postReports }
      else s
    if s1.power.stage = .postReports
        ∧ (s1.reports.pending = [] ∨ s1.reports.count ≤ s1.reports.unconsumed.length) then
      (s1.deEnergiseBoth.askSelfRefresh true).withPower { s1.power with stage := .awaitRefresh }
    else s1
  else s

/-! ### The end of the wake word's write (R147, R149) -/

/-- Step 7 of a wake: a notice kept through the wake steps confirms the wake, else the confirm timer starts (R149). -/
def State.startConfirm (s : State) (confirm : Nat) : State :=
  if s.power.noticeKept then s.confirmWake
  else s.withPower { s.power with stage := .confirming, confirmTimer := some confirm }

/-- Steps 5 and 6 of a wake: the SLEEP slot's final write if it is still owed, the POWER WAKE report, and a POWER MUTED
report held through the sleep (R149, R150, R155). -/
def State.reportWake (s : State) (w : WakeSettings) (word : Word) : State :=
  let s1 :=
    if w.ended then s
    else (s.oweSleepWrite w.slot .ok).withPower { s.power with settings := some { w with ended := true } }
  let s2 := s1.offerPower (wakeReport word (if s.power.lapse = 0 then .first else .afterLapse))
  match s.ring.heldMuted with
  | some r => (s2.offerPower r).withRing { s2.ring with heldMuted := none }
  | none => s2

/-- The wake word has reached memory. After a wake the clock restarts, the rest read is released, and steps 5 to 7
follow (R149); after a WOKEN_EARLY end the rest read is released (R147). -/
def State.wakeWordDone (s : State) (word : Word) : State :=
  match s.power.state, s.power.stage, s.power.settings with
  | .wakeConfirm, .waking, some w =>
    (((s.withClock true).releaseCpu .rest).reportWake w word).startConfirm w.confirm
  | _, _, _ => s.releaseCpu .rest

/-! ### The ringing qualifier (R153 to R156) -/

/-- A burst qualifies: it has a period, every period lies within its bounds, and so does its length (R154). Periods are
in microseconds (log 11). -/
def RingSettings.qualifies (r : RingSettings) (periods : List Nat) : Bool :=
  !periods.isEmpty
    && periods.all (fun p => decide (r.periodMin * 1000 ≤ p) && decide (p ≤ r.periodMax * 1000))
    && decide (r.lengthMin * 100000 ≤ periods.sum) && decide (periods.sum ≤ r.lengthMax * 100000)

/-- RINGING is enabled in the sleep in hand (R155). -/
def State.ringingEnabled (s : State) : Bool :=
  (s.power.state = .sleepPending || s.power.state = .sleeping) &&
    match s.power.settings with
    | some w => w.ringing
    | none => false

/-- A call is taken: a wake cause with RINGING enabled in SLEEP_PENDING or SLEEPING, else a POWER CALL report (R155). -/
def State.call (s : State) : State :=
  if s.ringingEnabled then s.takeCause .ringing else s.offerPower (callReport s.ring.settings.needed s.ring.noise)

/-- A burst has qualified (R155). -/
def State.burstQualified (s : State) : State :=
  let r := { s.ring with noise := s.ring.noise - 1, qualified := s.ring.qualified + 1,
                         window := s.ring.window || s.ring.qualified = 0 }
  if r.settings.needed ≤ r.qualified then (s.withRing { r with qualified := 0, window := false }).call
  else s.withRing r

/-- A burst has been disqualified; above the noise limit the qualifier is muted, and the POWER MUTED report is offered,
or held while the machine is SLEEPING (R155). -/
def State.burstDisqualified (s : State) : State :=
  let noise := stopAt 255 (s.ring.noise + 1)
  let r := { s.ring with noise := noise }
  if r.settings.noiseLimit < noise then
    if s.power.state = .sleeping then
      s.withRing { r with muted := true, heldMuted := some (mutedReport noise r.settings.noiseLimit) }
    else (s.withRing { r with muted := true }).offerPower (mutedReport noise r.settings.noiseLimit)
  else s.withRing r

/-- A burst ends and is judged; a muted qualifier judges none (R154, R155). -/
def State.judgeBurst (s : State) (periods : List Nat) : State :=
  let s1 := s.withRing { s.ring with burst := none }
  if s1.ring.muted then s1
  else if s1.ring.settings.qualifies periods then s1.burstQualified else s1.burstDisqualified

end Sys2Proof.Machine
end

