-- ==== Sys2Proof/Machine/Intake.lean ====
section
/-! DEFINITION. The Order Intake's shared operations: posting, the pointer N, taking slots, the queues, handing over,
final writes, ABORT and the next request at the Memory Port (chapter 2). -/

namespace Sys2Proof.Machine

/-! ### Slots and the pointer N (R25, R35) -/

/-- The state with the Order Intake's slot record replaced. -/
def State.withSlot (s : State) (i : Nat) (x : SlotRecord) : State := s.withIntake (s.intake.withSlot i x)

/-- N moves on by one, mod the order slot count (R35). -/
def Intake.bumpN (i : Intake) : Intake := { i with next := (i.next + 1) % i.slots.length }

/-- While N stands on a slot with the early mark, the mark is cleared and N moves on; `fuel` is the slot count (R35). -/
def Intake.passMarked (i : Intake) : Nat → Intake
  | 0 => i
  | n + 1 =>
    if (i.slot i.next).early then
      ((i.withSlot i.next { i.slot i.next with early := false }).bumpN).passMarked n
    else i

/-- N advances by one and past slots that were taken out of turn (R35). -/
def Intake.advanceN (i : Intake) : Intake := i.bumpN.passMarked i.slots.length

/-- The intake state becomes WAITING, if no urgent order is in hand (R33, R38). -/
def Intake.toWaiting (i : Intake) : Intake :=
  match i.inHand with
  | none => { i with state := .waiting }
  | some _ => i

/-- A slot leaves FETCHING: its record changes and a processor access held on it is released (R16, R29). -/
def State.leaveFetching (s : State) (i : Nat) (x : SlotRecord) : State := (s.withSlot i x).releaseCpu (.slot i)

/-! ### The order in hand (R29 to R32) -/

/-- The state with the order in hand at another stage. -/
def State.withStage (s : State) (h : InHand) (st : Stage) : State :=
  s.withIntake { s.intake with inHand := some { h with stage := st } }

/-- The order in hand ends with a refusal: its final write is to be made (R31). -/
def State.refuseOrder (s : State) (h : InHand) (r : Result) : State := s.withStage h (.ending r)

/-- The effect of the order in hand is complete: EXECUTING until its final write with the result OK is made (R32). -/
def State.completeOrder (s : State) (h : InHand) : State :=
  let s1 := s.withStage h (.ending .ok)
  s1.withIntake { s1.intake with state := .executing }

/-- The order in hand whose own checks are to be made, if it is of a kind (R30). -/
def State.orderInHand (s : State) (k : Byte) : Option InHand :=
  match s.intake.inHand with
  | some h => if h.stage = .validate ∧ h.kind = k then some h else none
  | none => none

/-- The record read of the order in hand, if it is of a kind and its read grant is in progress: address, words read
before, total, and the grant's address and words (R81, R144, R167). -/
def State.recordRead (s : State) (k : Byte) : Option (InHand × Nat × List Word × Nat × Nat × Nat) :=
  match s.intake.inHand, s.port.grant with
  | some h, some (.intake (.read a n)) =>
    match h.stage with
    | .reading addr ws total => if h.kind = k then some (h, addr, ws, total, a, n) else none
    | .fetch | .taken | .validate | .ending _ => none
  | _, _ => none

/-- The Intake begins to take slot `i`, whose body fetch is to be requested (R29, R38). -/
def State.takeSlot (s : State) (i : Nat) (urgent : Bool) : State :=
  let h : InHand := { slot := i, kind := (s.intake.slot i).kind.getD 0, body := [], urgent := urgent, stage := .fetch }
  s.withIntake { s.intake with inHand := some h }

/-- The first slot after N, round to the slot before N, that is POSTED with an urgent kind (R38). -/
def Intake.urgentSlot (i : Intake) : Option Nat :=
  ((List.range (i.slots.length - 1)).map fun j => (i.next + 1 + j) % i.slots.length).find? fun n =>
    (i.slot n).state = .posted && urgentKind (i.slot n).kind

/-- The Intake with no order in hand begins to take a slot: in WAITING slot N if it is POSTED, in DISPATCH_WAIT the
urgent slot that the scan finds (R29, R38). -/
def State.settleTake (s : State) : State :=
  if !s.hasOrders then s
  else
    match s.intake.inHand, s.intake.state with
    | none, .waiting =>
      if (s.intake.slot s.intake.next).state = .posted then s.takeSlot s.intake.next false else s
    | none, .dispatchWait =>
      match s.intake.urgentSlot with
      | some i => s.takeSlot i true
      | none => s
    | _, _ => s

/-- The Intake observes a processor word write to the head word of a slot, when its grant ends: a posting of a FREE slot
posts it, of another raises SLOT_BUSY with the head address (R27, R168; log 19). -/
def State.observeHead (s : State) (addr : Nat) (w : Word) : State :=
  if s.hasOrders ∧ s.windows[0].base ≤ addr ∧ (addr - s.windows[0].base) % 16 = 0 ∧ headPosts w then
    match slotOf s.intake.slots.length (addr - s.windows[0].base) with
    | some i =>
      if (s.intake.slot i).state = .free then
        s.withSlot i { state := .posted, kind := some (headKind w), early := false }
      else s.raiseFault ⟨.slotBusy, .noReason, .processor, .writeWord w, addr, 0⟩
    | none => s
  else s

/-! ### The queues (R33, R36) -/

/-- The queue of an order (Table 2-2). -/
def Work.queue : Work → QueueId
  | .move p => chanQueue p.chan
  | .capture _ => .d
  | .emit _ => .p
  | .transfer _ => .mover

/-- The state with a queue replaced. -/
def State.withQueue (s : State) (q : QueueId) (x : Queue) : State := s.withIntake (s.intake.withQueue q x)

/-- An order that has come to the head of its queue starts, or ends ABORTED at once with figures of 0 if it is marked
(R36, R39). -/
def State.startOrder (s : State) (q : QueueId) (o : Order) : State :=
  if o.marked then s.endOrder q .intake .aborted []
  else
    match o.work with
    | .move p => s.startMove p.chan p
    | .capture p => s.startCapture p
    | .emit p => s.startEmit p
    | .transfer p => s.startTransfer p

/-- The oldest waiting order of a queue with no running order becomes the running order and starts (R36). -/
def State.startNext (s : State) (q : QueueId) : State :=
  match s.running q, (s.intake.queue q).waiting with
  | none, o :: rest =>
    (s.withQueue q { running := some { order := o, stage := .active, result := .ok, figures := [] },
                     waiting := rest }).startOrder q o
  | _, _ => s

/-- The order in the dispatch place enters its queue if the queue has room; N advances (R33). -/
def State.dispatch (s : State) : State :=
  match s.intake.dispatch with
  | none => s
  | some o =>
    let q := o.work.queue
    let x := s.intake.queue q
    if x.waiting.length < Config.waitingPlaces then
      let i := (({ s.intake with dispatch := none }.withQueue q { x with waiting := x.waiting ++ [o] }).advanceN).toWaiting
      (s.withIntake i).startNext q
    else s

/-- The order in hand has passed validation as a queued order: its slot is HANDED, it is put in the dispatch place, and
it enters its queue at once or the Intake is in DISPATCH_WAIT (R33). -/
def State.handOver (s : State) (h : InHand) (w : Work) : State :=
  let s1 := s.leaveFetching h.slot { s.intake.slot h.slot with state := .handed }
  (s1.withIntake { s1.intake with
    inHand := none
    state := .dispatchWait
    dispatch := some { slot := h.slot, kind := h.kind, work := w, marked := false } }).dispatch

/-! ### Final writes (R31, R32, R37, R38) -/

/-- The final write of the order in hand has been made: the slot is FREE; an order taken in turn lets N advance, one
taken out of turn leaves the early mark and N where it is (R31, R32, R38). -/
def State.endInHand (s : State) (h : InHand) : State :=
  let s1 := s.leaveFetching h.slot { s.intake.slot h.slot with state := .free, early := h.urgent }
  let i := { s1.intake with inHand := none, state := if s1.intake.dispatch.isSome then .dispatchWait else .waiting }
  s1.withIntake (if h.urgent then i.passMarked i.slots.length else i.advanceN)

/-- The engine of an ended order is idle again: it keeps no record of the order (R99, R114, R141). -/
def State.clearEngine (s : State) (w : Work) : State :=
  match w with
  | .move _ => s
  | .capture _ => s.withCapture { s.capture with record := none }
  | .emit _ => s.withEmit { s.emit with record := none }
  | .transfer _ => s.withMover Mover.reset

/-- The final write of a queued order has been made: the slot is FREE, the order leaves its queue, a paused open emit
tests its end when a CAPTURE has left, the next order starts, and the order in the dispatch place may enter (R37, R36,
R33, R116). -/
def State.leaveQueue (s : State) (q : QueueId) (ro : Running) : State :=
  let s1 := s.withSlot ro.order.slot { s.intake.slot ro.order.slot with state := .free }
  let s2 := (s1.withRunning q none).clearEngine ro.order.work
  let s3 := match ro.order.work with
    | .capture _ => s2.testOpenEnd
    | .move _ | .emit _ | .transfer _ => s2
  (s3.startNext q).dispatch

/-- A final write owed to a queued order or to the SLEEP slot has been made (R37, R147, R149). -/
def State.endFinalWrite (s : State) (w : FinalWrite) : State :=
  match w.owner with
  | .sleep => s.withSlot w.slot { s.intake.slot w.slot with state := .free }
  | .queue q =>
    match s.running q with
    | some ro => if ro.stage = .entered then s.leaveQueue q ro else s
    | none => s

/-! ### ABORT (R39) -/

/-- An order with the ABORT mark. -/
def Order.mark (o : Order) : Order := { o with marked := true }

/-- The waiting orders of a queue and the order in the dispatch place, if bound for it, are marked (R39). -/
def Intake.markWaiting (i : Intake) (q : QueueId) : Intake :=
  let i1 := i.withQueue q { (i.queue q) with waiting := (i.queue q).waiting.map Order.mark }
  { i1 with dispatch := i1.dispatch.map fun o => if o.work.queue = q then o.mark else o }

/-- The running order of a queue, being carried out, is told to stop (R39). -/
def State.stopWork (s : State) (w : Work) : State :=
  match w with
  | .move p => s.endMove p.chan .aborted
  | .capture _ => s.captureBreak .aborted
  | .emit _ => s.emitAbort
  | .transfer _ => s.abortTransfer

/-- A final write owed to the Mover queue, with the result ABORTED in place of its own. -/
def FinalWrite.abortMover (w : FinalWrite) : FinalWrite :=
  if w.owner = .queue .mover then { w with result := .aborted } else w

/-- A request for that final write, with the result ABORTED. -/
def IntakeJob.abortMover (j : IntakeJob) : IntakeJob :=
  match j with
  | .final w => .final w.abortMover
  | .fetch | .taken | .read _ _ | .own _ => j

/-- The result of a TRANSFER in ENDING becomes ABORTED after its report has entered: its final write, if its grant has
not begun, carries that result (R142; log 21). -/
def State.abortEnding (s : State) (ro : Running) : State :=
  let s1 := s.withRunning .mover (some { ro with order := ro.order.mark, result := .aborted })
  (s1.withIntake { s1.intake with finalWrites := s1.intake.finalWrites.map FinalWrite.abortMover }).withPort
    { s.port with intakeReq := s.port.intakeReq.map IntakeJob.abortMover }

/-- The record that the engine of an order in DONE keeps takes the result ABORTED while the order's report waits for room;
nothing else in it changes (R105, R117). -/
def State.abortRecord (s : State) (w : Work) : State :=
  match w with
  | .capture _ =>
    s.withCapture { s.capture with record := s.capture.record.map fun r => { r with result := .aborted } }
  | .emit _ => s.withEmit { s.emit with record := s.emit.record.map fun r => { r with result := .aborted } }
  | .move _ | .transfer _ => s

/-- An ABORT of a queue: the waiting orders are marked; an unmarked running order is marked and told to stop, or, its
report still waiting, its result becomes ABORTED; after the report has entered only a TRANSFER's result still does
(R39, R87, R105, R117, R141, R142; log 21). -/
def State.abortQueue (s : State) (q : QueueId) : State :=
  let s1 := s.withIntake (s.intake.markWaiting q)
  match s1.running q with
  | none => s1
  | some ro =>
    if ro.order.marked then s1
    else
      match ro.stage with
      | .active => (s1.withRunning q (some { ro with order := ro.order.mark })).stopWork ro.order.work
      | .offered =>
        (s1.withRunning q (some { ro with order := ro.order.mark, result := .aborted })).abortRecord ro.order.work
      | .entered =>
        match ro.order.work with
        | .transfer _ => s1.abortEnding ro
        | .move _ | .capture _ | .emit _ => s1.withRunning q (some { ro with order := ro.order.mark })

/-! ### Requests (R21, R37) -/

/-- The grant in progress is the Intake's. -/
def State.intakeGranted (s : State) : Bool :=
  match s.port.grant with
  | some (.intake _) => true
  | _ => false

/-- What the Intake asks next: the oldest final write that waits, else the next grant of the order in hand (R37). -/
def Intake.nextJob (i : Intake) : Option IntakeJob :=
  match i.finalWrites, i.inHand with
  | w :: _, _ => some (.final w)
  | [], some h =>
    match h.stage with
    | .fetch => some .fetch
    | .taken => some .taken
    | .validate => none
    | .reading addr ws total => some (.read (addr + 2 * ws.length) (min Config.recordWords (total - ws.length)))
    | .ending r => some (.own r)
  | [], none => none

/-- The body fetch of the order in hand is requested: at this moment its slot becomes FETCHING and the intake state
FETCHING (R29; log 35). -/
def State.requestFetch (s : State) (h : InHand) : State :=
  let r := s.intake.slot h.slot
  let s1 := if r.state = .posted then s.withSlot h.slot { r with state := .fetching } else s
  (s1.withIntake { s1.intake with state := .fetching }).withPort { s.port with intakeReq := some .fetch }

/-- The Intake asks its next grant when it has no request and no grant; a final write asked for no longer waits (R21,
R37). -/
def State.settleIntake (s : State) : State :=
  if s.port.intakeReq.isNone && !s.intakeGranted then
    match s.intake.nextJob, s.intake.inHand with
    | some (.final w), _ =>
      (s.withPort { s.port with intakeReq := some (.final w) }).withIntake
        { s.intake with finalWrites := s.intake.finalWrites.drop 1 }
    | some .fetch, some h => s.requestFetch h
    | some job, _ => s.withPort { s.port with intakeReq := some job }
    | none, _ => s
  else s

end Sys2Proof.Machine
end

