-- ==== Sys2Proof/Machine/Settle.lean ====
section
/-! DEFINITION. What follows of itself after an event: the blocks ask their next requests at the Memory Port, the
Intake begins to take the next slot, the mover goes on, a return to sleep goes on. Every command that may let something follow
ends with `State.settle`. -/

namespace Sys2Proof.Machine

/-- The grant in progress is the Capture Engine's. -/
def State.captureGranted (s : State) : Bool :=
  match s.port.grant with
  | some (.writeBack _) => true
  | _ => false

/-- The Capture Engine asks the write-back of the WRITING store with the older claim (R97). -/
def State.settleCapture (s : State) : State :=
  if s.port.captureReq.isNone && !s.captureGranted then
    s.withPort { s.port with captureReq := s.capture.writeBackStore }
  else s

/-- The Emit Engine asks a fetch when the conditions of R110 hold; a request that waits stays. -/
def State.settleEmit (s : State) : State :=
  if s.wantsFetch then s.withPort { s.port with fetchReq := true } else s

/-- The grant in progress is under the processor-passage claim. -/
def State.processorGranted (s : State) : Bool :=
  match s.port.grant with
  | some (.processor _) => true
  | some .wakeWord => true
  | _ => false

/-- The processor's access is to be forwarded to the Memory Port: it passes, or it is the read that completes an expiry
or a cancellation (R1, R17, R18). -/
def State.cpuForward (s : State) : Bool :=
  match s.passage.cpu with
  | some x =>
    match x.status with
    | .held _ => false
    | .passing _ => true
    | .completing => true
  | none => false

/-- The request under the processor-passage claim: a wake word to be written goes before any further processor access
(R21). -/
def State.settleProcessor (s : State) : State :=
  if s.port.procReq.isNone && !s.processorGranted then
    if !s.power.wakeWrites.isEmpty then s.withPort { s.port with procReq := some .wakeWord }
    else if s.cpuForward then s.withPort { s.port with procReq := some .access }
    else s
  else s

/-- What follows of itself. -/
def State.settle (s : State) : State :=
  s.settleMover.settleCapture.settleEmit.settleProcessor.settleTake.settleIntake.settleLapse

/-- A command that took effect: what follows of itself follows, and the step answers the next state. -/
def finish (s : State) : Host.Outcome State Fault Refusal := .next s.settle

end Sys2Proof.Machine
end

