-- ==== Sys2Proof/Machine/Port.lean ====
section
/-! DEFINITION. The Memory Port's shared operations: the word transfers of each grant, the end of a grant, and its cut
at a reset (R21, R24); and the limits of the Window Table (R7). -/

namespace Sys2Proof.Machine

/-! ### Limits of a window entry (R7) -/

/-- Limit 4 of R7: the range shares no byte with the range of another entry that is not OFF. -/
def rangeDisjoint (ws : Vector Window 8) (e : Fin 8) (base length : Nat) : Bool :=
  (List.finRange 8).all fun j =>
    j = e || ws[j].kind = .off || decide (base + length ≤ ws[j].base) || decide (ws[j].base + ws[j].length ≤ base)

/-- The four limits of R7 for a range of entry `e`; the image range starts at 000000h, so it shares no byte with a range
that begins at or above its length. -/
def State.rangeOk (s : State) (e : Fin 8) (base length : Nat) : Bool :=
  decide (base % 256 = 0) && decide (length % 256 = 0)
    && decide (256 ≤ length) && decide (length ≤ 0x800000)
    && decide (base + length ≤ s.installed)
    && rangeDisjoint s.windows e base length && decide (s.imageRange ≤ base)

/-! ### The Boot Unit's record and requests (R159, R162 to R164) -/

/-- The image length used (R164). -/
def Boot.imageLengthUsed (b : Boot) : Nat :=
  match b.outcome, b.header with
  | some .shadow, some h => h.imageLength
  | some .checkFailed, some h => h.imageLength
  | _, _ => Config.defaultOverlay

/-- The eight words of the boot record (R164, Table 11-9). -/
def Boot.recordWords (b : Boot) : List Word :=
  bootRecordWords b.cause (b.outcome.getD .noHeader) b.headerAttempts b.copyAttempts b.entriesOff b.imageLengthUsed

/-- The burst that the Boot Unit asks for, by its state (R159, R162 to R164). -/
def State.bootJob (s : State) : Option BootJob :=
  match s.boot.state with
  | .hold => none
  | .header => some (.header (Config.headerOffset + 2 * s.boot.headerWords.length))
  | .config => none
  | .fill => some (.fill s.boot.pos)
  | .copy =>
    match s.boot.header, s.boot.buffer with
    | some h, [] =>
      some (.copyRead (h.imageOffset + s.boot.pos) (min Config.burstWords ((h.imageLength - s.boot.pos) / 2)))
    | some _, ws => some (.copyWrite s.boot.pos ws)
    | none, _ => none
  | .release => some .record
  | .done => none

/-- A burst of the Boot Unit that reads ROM alone, which is granted in every state of the DRAM (R159). -/
def BootJob.readsRom : BootJob → Bool
  | .header _ => true
  | .copyRead _ _ => true
  | .fill _ => false
  | .copyWrite _ _ => false
  | .record => false

/-! ### Word transfers of a grant (R21, Table 1-5) -/

/-- The write-back of a store: the words of its line, from the line's first byte on (R97). -/
def State.writeBackTransfers (s : State) (i : StoreId) : List (List Host.Cell) :=
  match s.captureNow, s.capture.store i with
  | some (p, _), .writing line words => wordTransfers (s.lineAddr p.band line) words
  | _, _ => []

/-- The processor's write, as one transfer. -/
def State.cpuTransfers (s : State) : List (List Host.Cell) :=
  match s.passage.cpu with
  | some x => if opIsWrite x.acc.op then [x.acc.bytes] else []
  | none => []

/-- The head word write of the order in hand (R26). -/
def State.headTransfers (s : State) (st : HeadState) (r : Result) : List (List Host.Cell) :=
  match s.intake.inHand with
  | some h => wordTransfers (s.slotAddr h.slot) [orderHead h.kind st r]
  | none => []

/-- The writes of an Intake grant (R26). -/
def State.intakeTransfers (s : State) (job : IntakeJob) : List (List Host.Cell) :=
  match job with
  | .fetch => []
  | .taken => s.headTransfers .taken .ok
  | .read _ _ => []
  | .own r => s.headTransfers .done r
  | .final w => wordTransfers (s.slotAddr w.slot) [orderHead w.kind .done w.result]

/-- The posting of the oldest pending report: the seven body words, then the head (R42). -/
def State.reportTransfers (s : State) : List (List Host.Cell) :=
  match s.reports.pending with
  | r :: _ =>
    wordTransfers (s.reportAddr s.reports.post + 2) r.body
      ++ wordTransfers (s.reportAddr s.reports.post) [reportHead r.cls r.code s.reports.seq]
  | [] => []

/-- The writes of a mover burst of `n` words (R137). -/
def State.moverTransfers (s : State) (n : Nat) : List (List Host.Cell) :=
  if s.mover.work = .writing then
    wordTransfers (s.mover.destAddr s.mover.next) (s.mover.destWords s.mover.next n)
  else []

/-- The writes of a Boot Unit burst (R162 to R164). -/
def State.bootTransfers (s : State) (job : BootJob) : List (List Host.Cell) :=
  match job with
  | .header _ => []
  | .fill addr => wordTransfers addr (List.replicate Config.burstWords 0)
  | .copyRead _ _ => []
  | .copyWrite addr ws => wordTransfers addr ws
  | .record => wordTransfers (s.installed - 16) s.boot.recordWords

/-- The word transfers to DRAM that a grant makes, in their order. -/
def State.grantTransfers (s : State) (g : Grant) : List (List Host.Cell) :=
  match g with
  | .refresh => []
  | .fetch _ => []
  | .writeBack i => s.writeBackTransfers i
  | .processor _ => s.cpuTransfers
  | .wakeWord =>
    match s.power.wakeWrites with
    | (a, w) :: _ => wordTransfers a [w]
    | [] => []
  | .intake job => s.intakeTransfers job
  | .report => s.reportTransfers
  | .mover n _ => s.moverTransfers n
  | .boot job => s.bootTransfers job

/-- The state with bytes stored to DRAM. -/
def State.store (s : State) (cells : List Host.Cell) : State := s.withDram (Memory.writeAll s.dram cells)

/-- The memory is free for the next grant. -/
def State.freePort (s : State) : State := s.withPort { s.port with grant := none }

/-- A grant ends: its words have been transferred and the memory is free (R21; log 34). -/
def State.endGrant (s : State) (g : Grant) : State := (s.store (s.grantTransfers g).flatten).freePort

/-- A reset cuts the grant in progress after some of its word transfers (R24; log 9). -/
def State.cutGrant (s : State) (words : Nat) : State :=
  match s.port.grant with
  | some g => (s.store ((s.grantTransfers g).take words).flatten).freePort
  | none => s

end Sys2Proof.Machine
end

