-- ==== Sys2Proof/Machine/BootUnit.lean ====
section
/-! DEFINITION. The Boot Unit's shared operations: the resets, the judgement of the header, CONFIG, and the ends of the
boot states (chapter 10). -/

namespace Sys2Proof.Machine

/-! ### Resets (R157, R158) -/

/-- The Memory Port after a reset other than POWER-ON: no grant, no request; DRAM in self-refresh is brought out, with a
refresh due (R22, R24; log 24). -/
def Port.afterReset (p : Port) : Port :=
  { Port.powerOn with
    dram := if p.dram = .selfRefresh then .active else p.dram
    refreshTimer := p.refreshTimer || p.dram = .selfRefresh
    refreshDue := p.refreshDue || p.dram = .selfRefresh }

/-- A RESET LINE, RESTART or LAPSE reset: the grant in progress is cut after some word transfers, DRAM and the installed
size are kept, every other block takes its reset values (R157). The 1 ms delay of HOLD runs unless the reset line is
asserted (R158). -/
def State.resetPart (s : State) (cause : ResetKind) (words : Nat) : State :=
  let c := s.cutGrant words
  { State.reset with
    pending := c.pending
    dram := c.dram
    rom := c.rom
    romSize := c.romSize
    pins := { c.pins with procReset := true, clock := true }
    passage := Passage.reset c.passage.installedMb
    port := c.port.afterReset
    sensors := c.sensors.map SensorCell.atReset
    boot := Boot.reset cause c.boot.fillOwed (!c.pins.resetLine) }

/-- The supply falls: all state of the part is lost; the inputs and the ROM are outside it (R157; log 27). -/
def State.losePower (s : State) : State :=
  { State.reset with
    pending := s.pending
    rom := s.rom
    romSize := s.romSize
    pins := { supply := false, resetLine := s.pins.resetLine, procReset := true, clock := false }
    sensors := s.sensors.map SensorCell.atReset
    boot := Boot.reset .powerOn true false }

/-- The supply rises: a POWER-ON (R157, R158). -/
def State.risePower (s : State) : State :=
  { State.reset with
    pending := s.pending
    rom := s.rom
    romSize := s.romSize
    pins := { supply := true, resetLine := s.pins.resetLine, procReset := true, clock := true }
    sensors := s.sensors.map SensorCell.atReset
    boot := Boot.reset .powerOn true (!s.pins.resetLine) }

/-! ### Moving between boot states (R161 to R163) -/

/-- A copy attempt begins: the CRC preset, nothing read (R163). -/
def Boot.startCopy (b : Boot) : Boot := { b with state := .copy, pos := 0, buffer := [], crc := crcPreset }

/-- What follows FILL, or CONFIG with no fill owed: COPY, or RELEASE for NO_HEADER (R161, R162). -/
def Boot.afterFill (b : Boot) : Boot :=
  match b.outcome with
  | some .noHeader => { b with state := .release, pos := 0, buffer := [] }
  | _ => b.startCopy

/-- What follows CONFIG: FILL if it is owed (R161). -/
def Boot.afterConfig (b : Boot) : Boot := if b.fillOwed then { b with state := .fill, pos := 0 } else b.afterFill

/-! ### CONFIG (R161) -/

/-- The Memory Port enters ACTIVE with a refresh due at once, if it was UNSIZED (R22). -/
def Port.sized (p : Port) : Port :=
  if p.dram = .unsized then { p with dram := .active, refreshTimer := true, refreshDue := true } else p

/-- A header's memory values are in range: DRAM size, image length, image ROM offset (R161). -/
def Header.usable (h : Header) : Bool :=
  decide (1 ≤ h.dramMb) && decide (h.dramMb ≤ 8)
    && decide (h.imageLength % 2 = 0) && decide (h.imageLength ≠ 0)
    && decide (h.imageLength + 16 ≤ h.dramMb * Config.megabyte)
    && decide (h.imageOffset % 2 = 0) && decide (h.imageOffset + h.imageLength ≤ 0x200000)

/-- A slot count of the header is in its range and its slots fit their window (R161 step 3). -/
def slotsFit (count most length : Nat) : Bool :=
  decide (4 ≤ count) && decide (count ≤ most) && decide (16 * count ≤ length)

/-- The kind that a header entry asks for, none where the entry is to be set OFF for its kind, its band or its slot count
(R7, R161). -/
def Header.entryKind (h : Header) (e : Fin 8) : Option WindowKind :=
  let x := h.entries[e]
  if e = 0 then if x.kind = 3 ∧ slotsFit h.orderSlots 64 x.length then some .orders else none
  else if e = 1 then if x.kind = 4 ∧ slotsFit h.reportSlots 128 x.length then some .reports else none
  else if x.kind = 1 then some .guard
  else if x.kind = 2 then some .band
  else none

/-- The window entry of a kind; only a BAND entry holds a band number (section 1.3). -/
def HeaderEntry.window (x : HeaderEntry) (k : WindowKind) : Window :=
  { kind := k, base := x.base, length := x.length, band := if k = .band then x.band else 0 }

/-- One header entry is loaded, or set OFF and counted; an entry that the header gives as OFF is not counted (R7). -/
def State.loadEntry (h : Header) (s : State) (e : Fin 8) : State :=
  let x := h.entries[e]
  if x.kind = 0 then s
  else
    match h.entryKind e with
    | some k =>
      if s.rangeOk e x.base x.length then s.withWindows (s.windows.set e (x.window k))
      else s.withBoot { s.boot with entriesOff := s.boot.entriesOff + 1 }
    | none => s.withBoot { s.boot with entriesOff := s.boot.entriesOff + 1 }

/-- The slot count that a header gives; one outside its range, whose window entry is set OFF, is held as 0 (R161; log
39). -/
def takenCount (count most : Nat) : Nat := if 4 ≤ count ∧ count ≤ most then count else 0

/-- A usable header is applied (R161 steps 1 to 5). -/
def State.applyHeader (s : State) (h : Header) : State :=
  let s1 := (s.withPassage { s.passage with installedMb := h.dramMb, imageLength := h.imageLength }).withPort s.port.sized
  let s2 := (s1.withIntake
      { s1.intake with slots := List.replicate (takenCount h.orderSlots 64) SlotRecord.reset }).withReports
    ({ s1.reports with count := takenCount h.reportSlots 128, mask := h.mask }.recompute)
  let s3 := s2.withBoot { s2.boot with header := some h, entriesOff := 0 }
  let s4 := (List.finRange 8).foldl (State.loadEntry h) s3
  s4.withBoot s4.boot.afterConfig

/-- The defaults of NO_HEADER are applied (R161). -/
def State.applyDefaults (s : State) : State :=
  ((((s.withPassage { s.passage with installedMb := 1, imageLength := 0 }).withPort s.port.sized).withWindows
    (Vector.replicate 8 Window.none)).withReports
      ({ s.reports with mask := BitVec.allOnes 6 }.recompute)).withBoot
        ({ s.boot with header := none, outcome := some .noHeader, entriesOff := 0 }.afterConfig)

/-- CONFIG with a good header: applied, or set aside for the defaults (R161). -/
def State.configure (s : State) (h : Header) : State := if h.usable then s.applyHeader h else s.applyDefaults

/-- A header read is judged: taken into CONFIG, read again, or after the eighth failure the defaults (R159). -/
def State.judgeHeader (s : State) (ws : List Word) : State :=
  let s1 := s.withBoot { s.boot with headerAttempts := s.boot.headerAttempts + 1, headerWords := [] }
  if headerGood ws then s1.configure (headerOf ws)
  else if s1.boot.headerAttempts < Config.bootAttempts then s1
  else s1.applyDefaults

/-! ### Ends of bursts (R159, R162, R163) -/

/-- The burst that ends is the fourth of a header read (R159). -/
def State.lastHeaderBurst (s : State) : Bool := decide (48 ≤ s.boot.headerWords.length)

/-- The burst that ends is the last of the fill (R162). -/
def State.lastFillBurst (s : State) : Bool := decide (s.installed ≤ s.boot.pos + 2 * Config.burstWords)

/-- The write burst that ends is the last of a copy attempt (R163). -/
def State.lastCopyBurst (s : State) : Bool :=
  match s.boot.header with
  | some h => decide (h.imageLength ≤ s.boot.pos + 2 * s.boot.buffer.length)
  | none => false

/-- A copy attempt ends: the CRC is compared; SHADOW, a fresh attempt, or CHECK_FAILED after the eighth (R163). -/
def Boot.endAttempt (b : Boot) (imageCrc : Word) : Boot :=
  let b1 := { b with copyAttempts := b.copyAttempts + 1 }
  if b1.crc = imageCrc then { b1 with outcome := some .shadow, state := .release, pos := 0, buffer := [] }
  else if b1.copyAttempts < Config.bootAttempts then b1.startCopy
  else { b1 with outcome := some .checkFailed, state := .release, pos := 0, buffer := [] }

/-! ### RELEASE (R4, R164) -/

/-- The overlay state of the Passage from the boot outcome (R4). -/
def Passage.setOverlay (p : Passage) (b : Boot) : Passage :=
  match b.outcome, b.header with
  | some .shadow, some h => { p with mode := .shadow, imageLength := h.imageLength, guard := h.guard }
  | some .checkFailed, some h =>
    { p with mode := .romDirect, overlayLength := h.imageLength, overlayBase := h.imageOffset, guard := false }
  | _, _ => { p with mode := .romDirect, overlayLength := Config.defaultOverlay, overlayBase := 0, guard := false }

/-- The BOOT RECORD report: words 0 to 4 of the boot record (R164, Table 11-7). -/
def bootReport (b : Boot) : Report := { cls := .boot, code := 1, body := padBody (b.recordWords.take 5) }

/-- RELEASE steps 2 to 4, the boot record being written: the overlay, the BOOT report, the processor reset (R164). -/
def State.releaseProcessor (s : State) : State :=
  let s1 := (s.withPassage (s.passage.setOverlay s.boot)).offer .boot (.report (bootReport s.boot))
  (s1.withPins { s1.pins with procReset := false }).withBoot { s1.boot with state := .done }

end Sys2Proof.Machine
end

