-- ==== Sys2Proof/Machine/Access.lean ====
section
/-! DEFINITION. The commands of the memory path: PROCESSOR_ACCESS, ACCESS_HOLD_EXPIRY, ARBITER_GRANT,
PROCESSOR_GRANT_END, REFRESH_DUE, REFRESH_CYCLE_END (chapter 1). -/

namespace Sys2Proof.Machine

/-! ### PROCESSOR_ACCESS, ACCESS_HOLD_EXPIRY -/

/-- The processor can make an access: it is out of reset, its clock runs and its bus is free (R15, R19; log 31). -/
def State.busFree (s : State) : Bool := !s.pins.procReset && s.pins.clock && s.passage.cpu.isNone

/-- PROCESSOR_ACCESS (R1): the access is judged and forwarded, dropped or held; one outside the part changes nothing. -/
def execProcessorAccess (addr : Addr) (op : AccessOp) (s : State) : Host.Outcome State Fault Refusal :=
  if s.busFree ∧ !outsidePart addr.toNat then finish (s.presentCpu ⟨addr.toNat, op⟩ .unused) else .next s

/-- The processor access held on a band line whose hold timer runs. -/
def State.timedHold (s : State) : Option (CpuAccess × Fin 4) :=
  match s.passage.cpu with
  | some x =>
    match x.status, x.timer with
    | .held (.line b _), .running _ => some (x, b)
    | _, _ => none
  | none => none

/-- ACCESS_HOLD_EXPIRY (R17). -/
def execAccessHoldExpiry (s : State) : Host.Outcome State Fault Refusal :=
  match s.timedHold with
  | some (x, b) => finish (s.expireHold x b)
  | none => .next s

/-! ### REFRESH_DUE, REFRESH_CYCLE_END (R22) -/

/-- REFRESH_DUE: a refresh is due; the next interval is counted from its grant (R22). -/
def execRefreshDue (s : State) : Host.Outcome State Fault Refusal :=
  if s.port.refreshTimer then finish (s.withPort { s.port with refreshTimer := false, refreshDue := true }) else .next s

/-- REFRESH_CYCLE_END: the memory is free for the next grant (R22). -/
def execRefreshCycleEnd (s : State) : Host.Outcome State Fault Refusal :=
  if s.port.grant = some .refresh then finish s.freePort else .next s

/-! ### ARBITER_GRANT (R21) -/

/-- DRAM is served (R22). -/
def State.dramActive (s : State) : Bool := s.port.dram = .active

/-- The state with a grant made. -/
def State.grantTo (s : State) (g : Grant) : State := s.withPort { s.port with grant := some g }

/-- Claim 1: a refresh is due (R22). -/
def State.refreshClaim (s : State) : Bool := s.port.refreshDue && s.dramActive

/-- The refresh is granted; the next interval is counted from this grant (R22). -/
def State.grantRefresh (s : State) : State :=
  s.withPort { s.port with refreshDue := false, refreshTimer := true, grant := some .refresh }

/-- Claim 2: a fetch of the running emit waits (R110). -/
def State.fetchClaim (s : State) : Bool :=
  s.port.fetchReq && s.dramActive && s.emitNow.isSome && s.emit.freeStore.isSome

/-- The fetch is granted: the line at D + draining count becomes DRAINING, the EMPTY store LOADING (R59, R110). -/
def State.grantFetch (s : State) : State :=
  match s.emitNow, s.emit.freeStore with
  | some (p, _), some i =>
    let b := s.bands[p.band]
    let older := if (s.emit.store i.other).state = .empty then i else i.other
    let s1 := (s.withLines p.band b.fetch).withEmit
      { s.emit.withStore i { state := .loading, line := b.fetchLine, words := [] } with older := older }
    s1.withPort { s1.port with fetchReq := false, grant := some (.fetch i) }
  | _, _ => s

/-- Claim 4: a request under the processor-passage claim waits and can be served; a ROM read can in every state of the
DRAM (R22, R23). -/
def State.processorClaim (s : State) : Bool :=
  match s.port.procReq, s.passage.cpu with
  | some .wakeWord, _ => s.dramActive
  | some .access, some x =>
    match x.status with
    | .passing (.rom _) => true
    | .passing .plain => s.dramActive
    | .passing (.band _ _) => s.dramActive
    | .completing => s.dramActive
    | .held _ => false
  | some .access, none => false
  | none, _ => false

/-- The processor's access is granted with the observation of the judgement that stands, or, judged again and held, it is
held from this moment and no grant is made (R65; log 23). -/
def State.grantCpu (s : State) (x : CpuAccess) : State :=
  let s1 := s.withPort { s.port with procReq := none }
  match x.status with
  | .passing path =>
    match s.standing path x.acc, s.bandPlace x.acc.at with
    | .pass obs, _ => s1.grantTo (.processor obs)
    | .hold, some (b, line, _) => s1.holdCpu x.acc (.line b line) x.timer
    | .hold, none => s1
  | .completing => s1.grantTo (.processor .nothing)
  | .held _ => s1

/-- A request under the processor-passage claim is granted (R21). -/
def State.grantProcessor (s : State) : State :=
  match s.port.procReq, s.passage.cpu with
  | some .wakeWord, _ => s.withPort { s.port with procReq := none, grant := some .wakeWord }
  | some .access, some x => s.grantCpu x
  | _, _ => s

/-- Claim 6: a report can be posted (R42). -/
def State.reportClaim (s : State) : Bool :=
  !s.reports.pending.isEmpty && s.hasReports && decide (s.reports.unconsumed.length < s.reports.count) && s.dramActive

/-- Claim 7: a mover burst waits and can be served. -/
def State.moverClaim (s : State) : Bool := s.port.moverReq.isSome && s.dramActive

/-- The mover's burst is granted as far as its words pass by the judgement that stands for each. A word then held makes
the mover HELD from this moment, beside the grant of the words before it, if there are any (R65, R137, R139). -/
def State.grantMover (s : State) : State :=
  match s.port.moverReq with
  | none => s
  | some paths =>
    let s1 := s.withPort { s.port with moverReq := none }
    let cut := s.moverCut paths s.mover.next
    let s2 := match s.cutPlace paths cut with
      | some (b, line) => s1.holdMover b line
      | none => s1
    if cut.1 = 0 then s2 else s2.grantTo (.mover cut.1 cut.2)

/-- Claim 8: a Boot Unit burst waits and can be served (R22, R159). -/
def State.bootClaim (s : State) : Option BootJob :=
  match s.bootJob with
  | some job => if job.readsRom || s.dramActive then some job else none
  | none => none

/-- The waiting request of highest claim is granted; while self-refresh is asked only a due refresh is (R21, R23, Table
1-5; log 24). -/
def State.grantNext (s : State) : State :=
  if s.refreshClaim then s.grantRefresh
  else if s.port.selfAsked then s
  else if s.fetchClaim then s.grantFetch
  else if s.port.captureReq.isSome && s.dramActive then
    s.withPort { s.port with captureReq := none, grant := s.port.captureReq.map .writeBack }
  else if s.processorClaim then s.grantProcessor
  else if s.port.intakeReq.isSome && s.dramActive then
    s.withPort { s.port with intakeReq := none, grant := s.port.intakeReq.map .intake }
  else if s.reportClaim then s.grantTo .report
  else if s.moverClaim then s.grantMover
  else
    match s.bootClaim with
    | some job => s.grantTo (.boot job)
    | none => s

/-- ARBITER_GRANT (R21): with no grant in progress, the request of highest claim is granted. -/
def execArbiterGrant (s : State) : Host.Outcome State Fault Refusal :=
  if s.port.grant = none then finish s.grantNext else .next s

/-! ### PROCESSOR_GRANT_END (R21) -/

/-- What a processor read returns: ROM at the offset of its path, else DRAM. -/
def State.cpuData (s : State) (x : CpuAccess) : Option Word :=
  match x.status with
  | .passing (.rom offset) => s.romData x.acc offset
  | .passing .plain => s.dramData x.acc
  | .passing (.band _ _) => s.dramData x.acc
  | .completing => s.dramData x.acc
  | .held _ => s.dramData x.acc

/-- A word read of the head of slot C_r with U above 0 consumes the slot (R43). -/
def State.consumeReport (s : State) : State :=
  s.withReports ({ s.reports with
    consume := (s.reports.consume + 1) % s.reports.count
    unconsumed := s.reports.unconsumed.drop 1 }.recompute)

/-- The read is a word read of the head word of slot C_r while U is above 0 (R43). -/
def State.consumes (s : State) (a : Access) : Bool :=
  s.hasReports && a.op = .readWord && !s.reports.unconsumed.isEmpty && a.at = s.reportAddr s.reports.consume

/-- The Intake and the Report Unit observe a processor access that passed plain, when its grant ends (R27, R43). -/
def State.observeCpu (s : State) (x : CpuAccess) : State :=
  if x.status = .passing .plain then
    match x.acc.op with
    | .writeWord w => s.observeHead x.acc.at w
    | .readWord => if s.consumes x.acc then s.consumeReport else s
    | .readByte => s
    | .writeByte _ => s
  else s

/-- PROCESSOR_GRANT_END (R21): the access completes towards the processor, and is observed. -/
def execProcessorGrantEnd (s : State) : Host.Outcome State Fault Refusal :=
  match s.port.grant, s.passage.cpu with
  | some (.processor obs), some x =>
    let s1 := (s.endGrant (.processor obs)).completeCpu x.acc (s.cpuData x)
    finish ((s1.observeCpu x).applyObs obs .processor x.acc.op x.acc.at)
  | _, _ => .next s

end Sys2Proof.Machine
end

