-- ==== Sys2Proof/Machine/Orders.lean ====
section
/-! DEFINITION. The commands of orders and reports at the Memory Port: BODY_FETCH_END, TAKEN_WRITE_END,
FINAL_WRITE_END, REPORT_POST_END (chapter 2). -/

namespace Sys2Proof.Machine

/-- BODY_FETCH_END (R30): the seven body words are in hand, and the taken write is to be made. -/
def execBodyFetchEnd (s : State) : Host.Outcome State Fault Refusal :=
  match s.port.grant, s.intake.inHand with
  | some (.intake .fetch), some h =>
    let s1 := s.endGrant (.intake .fetch)
    finish (s1.withIntake { s1.intake with
      inHand := some { h with body := s.dramWords (s.slotAddr h.slot + 2) 7, stage := .taken } })
  | _, _ => .next s

/-- TAKEN_WRITE_END (R30): the head reads TAKEN, the Power Unit has notice, and the order awaits its own checks, or is
refused for a kind that names no order. -/
def execTakenWriteEnd (s : State) : Host.Outcome State Fault Refusal :=
  match s.port.grant, s.intake.inHand with
  | some (.intake .taken), some h =>
    let s1 := (s.endGrant (.intake .taken)).notice
    finish (if knownKinds.contains h.kind then s1.withStage h .validate else s1.refuseOrder h .refusedKind)
  | _, _ => .next s

/-- FINAL_WRITE_END (R37): the head reads DONE. For the order in hand the Intake goes on, or after a RESTART the part is
reset (R31, R32, R165); for an ended queued order or a SLEEP its slot is FREE (R37, R147, R149). -/
def execFinalWriteEnd (s : State) : Host.Outcome State Fault Refusal :=
  match s.port.grant, s.intake.inHand with
  | some (.intake (.own r)), some h =>
    let s1 := s.endGrant (.intake (.own r))
    if h.kind = kindRestart ∧ r = .ok then .next (s1.resetPart .restart 0) else finish (s1.endInHand h)
  | some (.intake (.final w)), _ => finish ((s.endGrant (.intake (.final w))).endFinalWrite w)
  | _, _ => .next s

/-- The Report Unit after the posting of its oldest pending report (R42, R47). -/
def Reports.posted (r : Reports) : Reports :=
  match r.pending with
  | [] => r
  | x :: rest =>
    { r with
      pending := rest
      unconsumed := r.unconsumed ++ [x.cls]
      post := (r.post + 1) % r.count
      seq := if r.seq = 15 then 1 else r.seq + 1 }.recompute

/-- A freed place admits the oldest waiting report of the block of highest claim; a notice admitted lets a stalled
channel D count its supply again (R46, R128). -/
def State.admitOne (s : State) : State :=
  match admitNext s.reports.waiting with
  | none => s
  | some (w, rest) =>
    let s1 := (s.withReports { s.reports with waiting := rest }).enterItem w.item
    match w.item with
    | .notice b _ => s1.resumeD b
    | .sensor _ _ | .completion _ | .report _ => s1

/-- REPORT_POST_END (R42): the report is in slot P_r, the pointers and counts advance, and one waiting report is
admitted. -/
def execReportPostEnd (s : State) : Host.Outcome State Fault Refusal :=
  if s.port.grant = some .report then
    let s1 := s.endGrant .report
    finish (s1.withReports s1.reports.posted).admitOne
  else .next s

end Sys2Proof.Machine
end

