-- ==== Sys2Proof/Machine/Immediate.lean ====
section
/-! DEFINITION. The immediate and urgent orders as commands: the checks of each order in the order its chapter gives
them, and its effect. Each acts on the order in hand after its taken write (R30 to R32; log 4). -/

namespace Sys2Proof.Machine

/-- A command that carries out the order in hand of a kind: its checks and its effect are one function of the order. -/
def onOrder (k : Byte) (f : InHand → State → State) (s : State) : Host.Outcome State Fault Refusal :=
  match s.orderInHand k with
  | some h => finish (f h s)
  | none => .next s

/-- An order whose checks give a refusal or an effect: refused, or carried out and complete (R31, R32). -/
def State.settleOrder (s : State) (h : InHand) (x : Except Result State) : State :=
  match x with
  | .ok s' => s'.completeOrder h
  | .error r => s.refuseOrder h r

/-- A check that must hold, with the refusal it gives. -/
def check (ok : Bool) (r : Result) : Except Result Unit := if ok then .ok () else .error r

/-! ### SET WINDOW, CLEAR WINDOW (R11, R12) -/

/-- The kind code of a SET WINDOW (Table 11-3). -/
def setWindowKind? : Nat → Option WindowKind
  | 0 => some .off
  | 1 => some .guard
  | 2 => some .band
  | _ => none

/-- An entry that orders may change: 2 to 7 (R11, R12). -/
def changeableEntry? (n : Nat) : Option (Fin 8) := if n < 2 then none else fin8? n

/-- The band that an entry serves: the entry is a BAND window whose band record, in use, names it (R11, R68; log 30). -/
def State.entryBand (s : State) (e : Fin 8) : Option (Fin 4) :=
  let b := s.windows[e].band
  if s.windows[e].kind = .band ∧ s.bands[b].role ≠ .off ∧ s.bands[b].entry = some e then some b else none

/-- The band that an entry serves, if any, is not in use by an order (R11, R12, R68). -/
def State.entryFree (s : State) (e : Fin 8) : Bool :=
  match s.entryBand e with
  | some b => !s.bandInUse b
  | none => true

/-- The entry is replaced; the band it served is unmapped, its held accesses cancelled, its waiting notice discarded
(R11, R12, R68). -/
def State.replaceEntry (s : State) (e : Fin 8) (w : Window) : State :=
  match s.entryBand e with
  | some b =>
    (((s.withWindows (s.windows.set e w)).withNewBand b s.bands[b].unmap).cancelHolds b).dropNotice b
  | none => s.withWindows (s.windows.set e w)

/-- The new value of an entry by a SET WINDOW; an entry of kind OFF holds no range, and only a BAND entry a band number
(section 1.3). -/
def windowOf (k : WindowKind) (base length : Nat) (b : Fin 4) : Window :=
  match k with
  | .off => Window.none
  | .band => { kind := k, base := base, length := length, band := b }
  | .guard | .orders | .reports => { kind := k, base := base, length := length, band := 0 }

/-- The checks and the effect of a SET WINDOW (R11, Table 11-3). -/
def State.setWindow (s : State) (body : List Word) : Except Result State :=
  let w1 := bodyWord body 1
  let base := (bodyWord body 2).toNat * 256
  let length := (bodyWord body 3).toNat * 256
  match changeableEntry? (bits w1 7 0), setWindowKind? (bits w1 11 8) with
  | some e, some k => do
    check (k = .off || s.rangeOk e base length) .refusedParam
    check (k ≠ .band || decide (bits w1 15 12 ≤ 3)) .refusedParam
    check (s.entryFree e) .refusedState
    return s.replaceEntry e (windowOf k base length (Fin.ofNat 4 (bits w1 15 12)))
  | _, _ => .error .refusedParam

/-- SET_WINDOW (R11). -/
def execSetWindow (s : State) : Host.Outcome State Fault Refusal :=
  onOrder kindSetWindow (fun h s => s.settleOrder h (s.setWindow h.body)) s

/-- The checks and the effect of a CLEAR WINDOW (R12). -/
def State.clearWindow (s : State) (body : List Word) : Except Result State :=
  match changeableEntry? (bits (bodyWord body 1) 7 0) with
  | some e => do
    check (s.entryFree e) .refusedState
    return s.replaceEntry e Window.none
  | none => .error .refusedParam

/-- CLEAR_WINDOW (R12). -/
def execClearWindow (s : State) : Host.Outcome State Fault Refusal :=
  onOrder kindClearWindow (fun h s => s.settleOrder h (s.clearWindow h.body)) s

/-! ### SET BAND, RESET BAND (R69, R70) -/

/-- The fields of a SET BAND as a fresh record; with role OFF every other field is cleared (R69, Table 11-3). -/
def bandOf (role : Role) (body : List Word) : Band :=
  match role with
  | .off => Band.reset
  | .capture | .emit | .copy =>
    { Band.reset with
      role := role
      entry := fin8? (bits (bodyWord body 1) 15 12)
      pitch := (bodyWord body 2).toNat
      width := (bodyWord body 3).toNat
      lines := (bodyWord body 4).toNat
      holdLimit := bits (bodyWord body 5) 7 0
      noticeLevel := (bodyWord body 6).toNat }

/-- Check 2 of SET BAND (R69): the window entry, then the geometry. -/
def State.bandFits (s : State) (b : Fin 4) (x : Band) : Bool :=
  match x.entry with
  | none => false
  | some e =>
    decide (2 ≤ e.val) && (s.windows[e].kind = .band) && (s.windows[e].band = b)
      && decide (x.pitch % 2 = 0) && decide (32 ≤ x.pitch) && decide (x.pitch ≤ 512)
      && decide (x.width % 2 = 0) && decide (16 ≤ x.width) && decide (x.width ≤ 256) && decide (x.width ≤ x.pitch)
      && decide (2 ≤ x.lines) && decide (x.lines ≤ 1024)
      && decide (x.lines * x.pitch ≤ s.windows[e].length) && decide (x.noticeLevel ≤ x.lines)

/-- The band record is replaced, after the accesses held on the band are cancelled and its waiting notice is discarded
(R69). -/
def State.replaceBand (s : State) (b : Fin 4) (x : Band) : State := ((s.cancelHolds b).dropNotice b).withNewBand b x

/-- The checks and the effect of a SET BAND (R69). -/
def State.setBand (s : State) (body : List Word) : Except Result State :=
  match fin4? (bits (bodyWord body 1) 7 0), role? (bits (bodyWord body 1) 11 8) with
  | some b, some role => do
    check (role = .off || s.bandFits b (bandOf role body)) .refusedParam
    check (!s.bandInUse b) .refusedState
    return s.replaceBand b (bandOf role body)
  | _, _ => .error .refusedParam

/-- SET_BAND (R69). -/
def execSetBand (s : State) : Host.Outcome State Fault Refusal :=
  onOrder kindSetBand (fun h s => s.settleOrder h (s.setBand h.body)) s

/-- The checks and the effect of a RESET BAND (R70). -/
def State.resetBand (s : State) (body : List Word) : Except Result State :=
  match fin4? (bits (bodyWord body 1) 7 0) with
  | some b => do
    check (!s.bandInUse b) .refusedState
    return s.replaceBand b s.bands[b].clearMarks
  | none => .error .refusedParam

/-- RESET_BAND (R70). -/
def execResetBand (s : State) : Host.Outcome State Fault Refusal :=
  onOrder kindResetBand (fun h s => s.settleOrder h (s.resetBand h.body)) s

/-! ### SET PROFILE (R80, R81) -/

/-- A profile is named by the running order of a queue (R80). -/
def State.profileRuns (s : State) (q : QueueId) (n : Fin 8) : Bool :=
  match s.running q with
  | some r => r.order.work.namesProfile n
  | none => false

/-- The bytes from an address on all lie in installed DRAM. -/
def State.inDram (s : State) (addr bytes : Nat) : Bool := decide (addr + bytes ≤ s.installed)

/-- The checks of a SET PROFILE, and the start of the read of its record: its header word first (R80, R81). -/
def State.setProfile (s : State) (h : InHand) : State :=
  let addr := addressPair (bodyWord h.body 2) (bodyWord h.body 3)
  match fin8? (bits (bodyWord h.body 1) 7 0) with
  | none => s.refuseOrder h .refusedParam
  | some n =>
    if addr % 2 = 1 ∨ !s.inDram addr 66 then s.refuseOrder h .refusedParam
    else if s.profileRuns .d n ∨ s.profileRuns .p n then s.refuseOrder h .refusedState
    else
      let s1 := s.withStage h (.reading addr [] 1)
      s1.withIntake { s1.intake with state := .executing }

/-- SET_PROFILE (R80). -/
def execSetProfile (s : State) : Host.Outcome State Fault Refusal := onOrder kindSetProfile (fun h s => s.setProfile h) s

/-- A profile record has been read in part: the level count is judged after the header word, the levels after the last
word; in range, the profile is replaced whole (R81). A move of an order that started during the read and names the
profile goes on with the new levels, which its channel reads live (R79; log 41). -/
def State.profileRead (s : State) (h : InHand) (addr : Nat) (ws : List Word) (total : Nat) : State :=
  let n := (ws.getD 0 0).toNat
  let levels := profileLevels (ws.drop 1)
  if total = 1 then
    if 1 ≤ n ∧ n ≤ 16 then s.withStage h (.reading addr ws (1 + 2 * n)) else s.refuseOrder h .refusedParam
  else if ws.length < total then s.withStage h (.reading addr ws total)
  else if levels.all Level.inRange then
    (s.withProfiles (s.profiles.set (Fin.ofNat 8 (bits (bodyWord h.body 1) 7 0)) levels)).completeOrder h
  else s.refuseOrder h .refusedParam

/-- PROFILE_RECORD_READ_END (R81). -/
def execProfileRecordReadEnd (s : State) : Host.Outcome State Fault Refusal :=
  match s.recordRead kindSetProfile with
  | some (h, addr, ws, total, a, n) => finish (s.freePort.profileRead h addr (ws ++ s.dramWords a n) total)
  | none => .next s

/-! ### SET CHANNEL (R78) -/

/-- The new settings of a channel, acting at once as its state gives (R78). -/
def Channel.set (c : Channel) (mode : StepMode) (run hold time : Nat) : Channel :=
  let c1 := { c with mode := mode, runLevel := run, holdLevel := hold, holdTime := time }
  match c.state with
  | .off => c1
  | .holding => { c1 with asked := hold }.startHold
  | .moving | .paused | .boundaryWait => c1

/-- The checks and the effect of a SET CHANNEL (R78). -/
def State.setChannel (s : State) (body : List Word) : Except Result State :=
  let run := bits (bodyWord body 2) 7 0
  let hold := bits (bodyWord body 2) 15 8
  match chan? (bits (bodyWord body 1) 7 0), stepMode? (bits (bodyWord body 1) 15 8) with
  | some c, some mode => do
    check (decide (run ≤ 16) && decide (hold ≤ 16)) .refusedParam
    check (s.running (chanQueue c)).isNone .refusedState
    return s.withChan c ((s.chan c).set mode run hold (bits (bodyWord body 3) 7 0))
  | _, _ => .error .refusedParam

/-- SET_CHANNEL (R78). -/
def execSetChannel (s : State) : Host.Outcome State Fault Refusal :=
  onOrder kindSetChannel (fun h s => s.settleOrder h (s.setChannel h.body)) s

/-! ### SET RINGING (R156) -/

/-- The settings a SET RINGING carries (Table 11-3). -/
def ringSettingsOf (body : List Word) : RingSettings :=
  { periodMin := (bodyWord body 1).toNat
    periodMax := (bodyWord body 2).toNat
    lengthMin := bits (bodyWord body 3) 7 0
    lengthMax := bits (bodyWord body 3) 15 8
    needed := bits (bodyWord body 4) 7 0
    window := bits (bodyWord body 4) 15 8
    noiseLimit := (bodyWord body 5).toNat }

/-- A number lies in a range, both ends included. -/
def within (lo hi n : Nat) : Bool := decide (lo ≤ n) && decide (n ≤ hi)

/-- Every setting is in its range, and neither minimum exceeds its maximum (R153, R156). -/
def RingSettings.valid (r : RingSettings) : Bool :=
  within 10 100 r.periodMin && within 10 100 r.periodMax && within 1 60 r.lengthMin && within 1 60 r.lengthMax
    && within 1 15 r.needed && within 1 60 r.window && within 1 255 r.noiseLimit
    && decide (r.periodMin ≤ r.periodMax) && decide (r.lengthMin ≤ r.lengthMax)

/-- New settings clear the counts, the window, the mute and the burst in progress; a POWER MUTED report held for the
wake is kept (R156). -/
def Ringing.set (r : Ringing) (x : RingSettings) : Ringing :=
  { Ringing.reset with settings := x, heldMuted := r.heldMuted }

/-- The checks and the effect of a SET RINGING (R156). -/
def State.setRinging (s : State) (body : List Word) : Except Result State := do
  check (ringSettingsOf body).valid .refusedParam
  return s.withRing (s.ring.set (ringSettingsOf body))

/-- SET_RINGING (R156). -/
def execSetRinging (s : State) : Host.Outcome State Fault Refusal :=
  onOrder kindSetRinging (fun h s => s.settleOrder h (s.setRinging h.body)) s

/-! ### SET ATTENTION (R48) -/

/-- The checks and the effect of a SET ATTENTION: both masks replaced, the attention line recomputed (R48). -/
def State.setAttention (s : State) (body : List Word) : Except Result State :=
  let m := bodyWord body 1
  let x := bodyWord body 2
  do
    check (decide (m.toNat < 64) && decide (x.toNat < 64)) .refusedParam
    return s.withReports ({ s.reports with mask := m.setWidth 6, sensorMask := x.setWidth 6 }.recompute)

/-- SET_ATTENTION (R48). -/
def execSetAttention (s : State) : Host.Outcome State Fault Refusal :=
  onOrder kindSetAttention (fun h s => s.settleOrder h (s.setAttention h.body)) s

/-! ### SLEEP (R144, R145) -/

/-- The wake settings a SLEEP carries; its patterns are read afterwards (R144, Table 11-3). -/
def wakeSettingsOf (body : List Word) (slot : Nat) : WakeSettings :=
  let w3 := bodyWord body 3
  { rest := addressPair (bodyWord body 1) (bodyWord body 2)
    confirm := bits w3 7 0
    ringing := bitOf w3 8
    patternOn := w3.extractLsb' 9 4
    timerOn := bitOf w3 13
    timer := (bodyWord body 4).toNat
    patterns := Vector.replicate 4 ⟨0, 0, 0⟩
    slot := slot
    ended := false }

/-- The address of the pattern table of a SLEEP (Table 11-3). -/
def patternTableOf (body : List Word) : Nat := addressPair (bodyWord body 5) (bodyWord body 6)

/-- A rest address that a SLEEP may name: even, in installed DRAM, outside every window, the image range and the boot
record (R144 check 1). -/
def State.restOk (s : State) (a : Nat) : Bool :=
  decide (a % 2 = 0) && decide (a + 16 < s.installed) && (s.windowAt a).isNone && decide (s.imageRange ≤ a)

/-- Check 1 of SLEEP (R144). -/
def State.sleepParams (s : State) (w : WakeSettings) (table : Nat) : Bool :=
  s.restOk w.rest && w.confirm ≠ 0 && (!w.timerOn || w.timer ≠ 0)
    && (w.patternOn = 0 || (decide (table % 2 = 0) && s.inDram table 16))

/-- Checks 1 to 4 of SLEEP, in their order (R144). -/
def State.sleepChecks (s : State) (w : WakeSettings) (table : Nat) : Except Result Unit := do
  check (s.sleepParams w table) .refusedParam
  check (w.ringing || w.timerOn || w.patternOn ≠ 0) .noWake
  check (!(w.ringing && s.ring.muted)) .muted
  check (!s.intake.dQueue.holdsOrder && !s.intake.pQueue.holdsOrder && !s.intake.mQueue.holdsOrder
    && s.intake.dispatch.isNone && s.power.state = .running) .refusedState

/-- A SLEEP is accepted: SLEEP_PENDING with its wake settings, the sleep limit timer and the watches; the slot is HANDED,
N advances (R145, R32). -/
def State.acceptSleep (s : State) (h : InHand) (w : WakeSettings) : State :=
  let s1 := s.withPower { Power.reset with
    state := .sleepPending
    settings := some w
    sleepLimit := true
    patternTimers := s.watchPatterns w
    wakeWrites := s.power.wakeWrites }
  let s2 := s1.leaveFetching h.slot { s1.intake.slot h.slot with state := .handed }
  s2.withIntake { s2.intake with inHand := none, state := .waiting }.advanceN

/-- A SLEEP is judged; with a pattern enabled its pattern table is read before it is accepted (R144). While it is read
the intake state stays FETCHING (log 43). -/
def State.sleep (s : State) (h : InHand) : State :=
  let w := wakeSettingsOf h.body h.slot
  match s.sleepChecks w (patternTableOf h.body) with
  | .error r => s.refuseOrder h r
  | .ok () =>
    if w.patternOn = 0 then s.acceptSleep h w else s.withStage h (.reading (patternTableOf h.body) [] 8)

/-- SLEEP (R144, R145). -/
def execSleep (s : State) : Host.Outcome State Fault Refusal := onOrder kindSleep (fun h s => s.sleep h) s

/-- A pattern entry that may be enabled: its mask not empty, neither it nor the levels naming a sensor that does not
exist, its hold time not 0 (R144 check 5, R166). -/
def Pattern.valid (p : Pattern) : Bool :=
  p.mask ≠ 0 && decide (p.mask.toNat < 64) && decide (p.levels.toNat < 64) && p.hold ≠ 0

/-- A pattern table has been read in part or whole; whole, its enabled entries are judged and the SLEEP accepted or
refused (R144 check 5). Until then the intake state stays FETCHING (log 43). -/
def State.patternsRead (s : State) (h : InHand) (addr : Nat) (ws : List Word) (total : Nat) : State :=
  let w := { wakeSettingsOf h.body h.slot with patterns := Vector.ofFn fun p : Fin 4 => patternAt ws p.val }
  if ws.length < total then s.withStage h (.reading addr ws total)
  else if (List.finRange 4).all fun p => !w.patternOn.getLsbD p.val || (w.patterns[p]).valid then s.acceptSleep h w
  else s.refuseOrder h .refusedParam

/-- PATTERN_TABLE_READ_END (R144). -/
def execPatternTableReadEnd (s : State) : Host.Outcome State Fault Refusal :=
  match s.recordRead kindSleep with
  | some (h, addr, ws, total, a, n) => finish (s.freePort.patternsRead h addr (ws ++ s.dramWords a n) total)
  | none => .next s

/-! ### RESTART, ABORT, EMIT END (R32, R39, R40) -/

/-- RESTART (R32): never refused; the reset follows its final write. -/
def execRestart (s : State) : Host.Outcome State Fault Refusal := onOrder kindRestart (fun h s => s.completeOrder h) s

/-- The check and the effect of an ABORT (R39). -/
def State.abort (s : State) (body : List Word) : Except Result State :=
  match queue? (bits (bodyWord body 1) 7 0) with
  | some q => .ok (s.abortQueue q)
  | none => .error .refusedParam

/-- ABORT (R39). -/
def execAbort (s : State) : Host.Outcome State Fault Refusal :=
  onOrder kindAbort (fun h s => s.settleOrder h (s.abort h.body)) s

/-- The running order of the P queue is an open EMIT on a band of role EMIT (R40). -/
def State.openEmitRuns (s : State) : Bool :=
  match s.running .p with
  | some r =>
    match r.order.work with
    | .emit p => p.lineCount = 0 && s.bands[p.band].role = .emit
    | .move _ | .capture _ | .transfer _ => false
  | none => false

/-- The running emit is closed, in DONE too, and a paused one tests its end (R40, R114, R116). -/
def State.closeEmit (s : State) : State :=
  match s.emit.record with
  | some r => (s.withEmitRecord { r with closed := true }).testOpenEnd
  | none => s

/-- The check and the effect of an EMIT END (R40). -/
def State.emitEnd (s : State) : Except Result State := do
  check s.openEmitRuns .refusedState
  return s.closeEmit

/-- EMIT_END (R40). -/
def execEmitEnd (s : State) : Host.Outcome State Fault Refusal :=
  onOrder kindEmitEnd (fun h s => s.settleOrder h s.emitEnd) s

end Sys2Proof.Machine
end

