-- ==== Sys2Proof/Machine/Queued.lean ====
section
/-! DEFINITION. The queued orders as commands: the checks of MOVE, CAPTURE, EMIT and TRANSFER in the order their
chapters give them, and their handing to a queue (R33, R83, R98, R113, R134, R167). -/

namespace Sys2Proof.Machine

/-- A queued order whose checks give a refusal or its work: refused, or handed to its queue (R31, R33). -/
def State.settleQueued (s : State) (h : InHand) (x : Except Result Work) : State :=
  match x with
  | .ok w => s.handOver h w
  | .error r => s.refuseOrder h r

/-- A profile that an order may name: 0 to 7 and not empty (R79). -/
def State.usableProfile (s : State) (n : Nat) : Option (Fin 8) :=
  match fin8? n with
  | some p => if s.profiles[p].isEmpty then none else some p
  | none => none

/-- A value that must be there, with the refusal its absence gives. -/
def need {α : Type} (x : Option α) (r : Result) : Except Result α :=
  match x with
  | some v => .ok v
  | none => .error r

/-! ### MOVE (R83) -/

/-- The edge fields of a MOVE, where all are in range (R83 checks 6 to 8, Table 11-3). -/
def edgeParamsOf (body : List Word) : Option EdgeParams :=
  let w4 := bodyWord body 4
  match edgeSensor? (bits w4 7 0), bits w4 15 8, (bodyWord body 6).toNat with
  | some x, 0, jam + 1 => some { sensor := x, rising := true, extra := (bodyWord body 5).toNat, jam := jam + 1 }
  | some x, 1, jam + 1 => some { sensor := x, rising := false, extra := (bodyWord body 5).toNat, jam := jam + 1 }
  | _, _, _ => none

/-- The end condition of a MOVE: COUNT consults no edge field (R83). -/
def endConditionOf (body : List Word) : Option (Option EdgeParams) :=
  match bits (bodyWord body 2) 15 8 with
  | 0 => some none
  | 1 => (edgeParamsOf body).map some
  | _ => none

/-- The checks of a MOVE (R83). -/
def State.moveOf (s : State) (body : List Word) : Except Result Work := do
  let c ← need (chan? (bits (bodyWord body 1) 7 0)) .refusedParam
  let p ← need (s.usableProfile (bits (bodyWord body 1) 15 8)) .refusedParam
  let d ← need (direction? (bits (bodyWord body 2) 7 0)) .refusedParam
  check ((bodyWord body 3) ≠ 0) .refusedParam
  let e ← need (endConditionOf body) .refusedParam
  return .move { chan := c, profile := p, dir := d, count := (bodyWord body 3).toNat, edge := e }

/-- MOVE (R83). -/
def execMove (s : State) : Host.Outcome State Fault Refusal :=
  onOrder kindMove (fun h s => s.settleQueued h (s.moveOf h.body)) s

/-! ### CAPTURE (R98) -/

/-- The fields of a CAPTURE, its band and profile being judged (Table 11-3). -/
def captureParamsOf (body : List Word) (b : Fin 4) (p : Fin 8) : CaptureParams :=
  { band := b
    profile := p
    stepsPerLine := bits (bodyWord body 1) 11 8
    rate := bits (bodyWord body 1) 15 12
    skipLines := bits (bodyWord body 2) 7 0
    tailLines := bits (bodyWord body 2) 15 8
    lineLimit := (bodyWord body 3).toNat
    jam := (bodyWord body 4).toNat
    maxLength := (bodyWord body 5).toNat
    ejectSteps := (bodyWord body 6).toNat
    pauseLimit := bits (bodyWord body 7) 7 0 }

/-- The checks of a CAPTURE (R98). -/
def State.captureOf (s : State) (body : List Word) : Except Result Work := do
  let w1 := bodyWord body 1
  let b ← need (fin4? (bits w1 3 0)) .refusedParam
  check (s.bands[b].role = .capture || s.bands[b].role = .copy) .refusedParam
  let p ← need (s.usableProfile (bits w1 7 4)) .refusedParam
  check (within 1 8 (bits w1 11 8)) .refusedParam
  check (decide (bits w1 15 12 ≤ 3)) .refusedParam
  check ((bodyWord body 4) ≠ 0) .refusedParam
  check ((bodyWord body 5) ≠ 0) .refusedParam
  return .capture (captureParamsOf body b p)

/-- CAPTURE (R98). -/
def execCapture (s : State) : Host.Outcome State Fault Refusal :=
  onOrder kindCapture (fun h s => s.settleQueued h (s.captureOf h.body)) s

/-! ### EMIT (R113) -/

/-- The fields of an EMIT, its band and profile being judged (Table 11-3). -/
def emitParamsOf (body : List Word) (b : Fin 4) (p : Fin 8) : EmitParams :=
  { band := b
    profile := p
    stepsPerLine := bits (bodyWord body 1) 11 8
    groups := bits (bodyWord body 1) 15 12
    heat := bits (bodyWord body 2) 7 0
    lineCount := (bodyWord body 3).toNat
    tailFeed := (bodyWord body 4).toNat
    pauseLimit := bits (bodyWord body 2) 15 8 }

/-- The checks of an EMIT (R113). -/
def State.emitOf (s : State) (body : List Word) : Except Result Work := do
  let w1 := bodyWord body 1
  let b ← need (fin4? (bits w1 3 0)) .refusedParam
  check (s.bands[b].role = .emit || s.bands[b].role = .copy) .refusedParam
  let p ← need (s.usableProfile (bits w1 7 4)) .refusedParam
  check (within 1 8 (bits w1 11 8)) .refusedParam
  check (bits w1 15 12 = 1 || bits w1 15 12 = 2 || bits w1 15 12 = 4) .refusedParam
  check (bits (bodyWord body 2) 7 0 ≠ 0) .refusedParam
  return .emit (emitParamsOf body b p)

/-- EMIT (R113). -/
def execEmit (s : State) : Host.Outcome State Fault Refusal :=
  onOrder kindEmit (fun h s => s.settleQueued h (s.emitOf h.body)) s

/-! ### TRANSFER (R134, R167) -/

/-- The mode of a TRANSFER (Table 11-3). -/
def moverMode? : Nat → Option MoverMode
  | 0 => some .copy
  | 1 => some .fill
  | _ => none

/-- A TRANSFER's mode and record address are judged, and the read of its segment record begins (R134 check 1, R167).
While it is read the intake state stays FETCHING (log 43). -/
def State.transfer (s : State) (h : InHand) : State :=
  let addr := addressPair (bodyWord h.body 2) (bodyWord h.body 3)
  match moverMode? (bits (bodyWord h.body 1) 7 0) with
  | none => s.refuseOrder h .refusedParam
  | some _ =>
    if addr % 2 = 1 ∨ !s.inDram addr 24 then s.refuseOrder h .refusedParam
    else s.withStage h (.reading addr [] 12)

/-- TRANSFER (R134). -/
def execTransfer (s : State) : Host.Outcome State Fault Refusal := onOrder kindTransfer (fun h s => s.transfer h) s

/-- No byte of a range lies inside a GUARD window (R134 check 3). -/
def State.clearOfGuards (s : State) (base length : Nat) : Bool :=
  (List.finRange 8).all fun j =>
    s.windows[j].kind ≠ .guard || decide (base + length ≤ s.windows[j].base)
      || decide (s.windows[j].base + s.windows[j].length ≤ base)

/-- No byte of a range lies inside the guarded image of SHADOW mode (R134 check 3). -/
def State.clearOfImage (s : State) (base : Nat) : Bool :=
  !(s.passage.mode = .shadow && s.passage.guard) || decide (s.imageRange ≤ base)

/-- Check 3 of TRANSFER: a destination (R134). -/
def State.destOk (s : State) (x : Segment) : Bool :=
  decide (x.dest % 2 = 0) && s.inDram x.dest x.length && s.clearOfGuards x.dest x.length && s.clearOfImage x.dest

/-- Check 4 of TRANSFER: a source of a COPY, wholly inside installed DRAM or wholly inside the ROM region (R134). -/
def State.sourceOk (s : State) (x : Segment) : Bool :=
  decide (x.source % 2 = 0)
    && (s.inDram x.source x.length
      || (decide (Config.romBase ≤ x.source) && decide (x.source + x.length ≤ 0x1000000)))

/-- Checks 3 and 4 of TRANSFER on one segment (R134). -/
def State.segmentOk (s : State) (mode : MoverMode) (x : Segment) : Bool :=
  s.destOk x && (mode = .fill || s.sourceOk x)

/-- A segment length that may be given: even, and at most 1 MB (R134). -/
def lengthOk (n : Nat) : Bool := decide (n % 2 = 0) && decide (n ≤ Config.megabyte)

/-- Checks 2 to 5 of TRANSFER on the segments as read (R134, R167). -/
def State.transferOf (s : State) (mode : MoverMode) (ws : List Word) : Except Result Work := do
  let x := segmentAt mode ws 0
  let y := segmentAt mode ws 6
  check (x.length ≠ 0 && lengthOk x.length) .refusedParam
  check (s.segmentOk mode x) .refusedParam
  check (lengthOk y.length) .refusedParam
  check (y.length = 0 || s.segmentOk mode y) .refusedParam
  return .transfer { mode := mode, seg1 := x, seg2 := y }

/-- A segment record has been read in part or whole; whole, its segments are judged and the order handed or refused
(R167). Until then the intake state stays FETCHING (log 43). -/
def State.segmentsRead (s : State) (h : InHand) (addr : Nat) (ws : List Word) (total : Nat) : State :=
  if ws.length < total then s.withStage h (.reading addr ws total)
  else
    match moverMode? (bits (bodyWord h.body 1) 7 0) with
    | some mode => s.settleQueued h (s.transferOf mode ws)
    | none => s.refuseOrder h .refusedParam

/-- SEGMENT_RECORD_READ_END (R167). -/
def execSegmentRecordReadEnd (s : State) : Host.Outcome State Fault Refusal :=
  match s.recordRead kindTransfer with
  | some (h, addr, ws, total, a, n) => finish (s.freePort.segmentsRead h addr (ws ++ s.dramWords a n) total)
  | none => .next s

end Sys2Proof.Machine
end

