-- ==== Sys2Proof/Machine/MotorCommands.lean ====
section
/-! DEFINITION. The commands of the Motor Unit: CHOP_PERIOD_START, STEP_TIMER_EXPIRY, HOLD_TIMER_EXPIRY,
PAUSE_TIMER_EXPIRY, SENSOR_INPUT_CHANGE, DEBOUNCED_CHANGE (chapters 4 and 7). -/

namespace Sys2Proof.Machine

/-- CHOP_PERIOD_START (R74): on both channels the level in effect takes the asked level and the outputs follow. -/
def execChopPeriodStart (s : State) : Host.Outcome State Fault Refusal :=
  .next ((s.withChanD s.chanD.chopStart).withChanP s.chanP.chopStart)

/-- The step timer of a channel has expired: the running order that moves the channel takes the expiry (R82). -/
def State.stepExpired (s : State) (c : Chan) : State :=
  match c, s.activeWork (chanQueue c) with
  | _, some (.move p) => s.stepMove c p
  | .d, _ =>
    match s.captureNow with
    | some (p, r) => s.stepCapture p r
    | none => s
  | .p, _ =>
    match s.emitNow with
    | some (p, r) => s.stepEmit p r
    | none => s

/-- STEP_TIMER_EXPIRY (R82): steps are made in MOVING alone (R75). -/
def execStepTimerExpiry (c : Chan) (s : State) : Host.Outcome State Fault Refusal :=
  if (s.chan c).state = .moving ∧ (s.chan c).stepTimer.isSome then finish (s.stepExpired c) else .next s

/-- HOLD_TIMER_EXPIRY (R76): a HOLDING channel enters OFF. -/
def execHoldTimerExpiry (c : Chan) (s : State) : Host.Outcome State Fault Refusal :=
  if (s.chan c).state = .holding ∧ (s.chan c).holdTimer.isSome then .next (s.withChan c (s.chan c).enterOff)
  else .next s

/-- The pause limit of a channel has been reached: the order ends STARVED (R107, R119, R126). -/
def State.pauseExpired (s : State) (c : Chan) : State :=
  match c with
  | .d => s.captureBreak .starved
  | .p =>
    match s.emitNow with
    | some (p, r) => s.emitStop p r .starved .pauseLimit
    | none => s

/-- PAUSE_TIMER_EXPIRY (R126). -/
def execPauseTimerExpiry (c : Chan) (s : State) : Host.Outcome State Fault Refusal :=
  if (s.chan c).state = .paused ∧ (s.chan c).pauseTimer.isSome then finish (s.pauseExpired c) else .next s

/-! ### Sensors (R89, R90) -/

/-- A sensor with its input at a level: the stability timer runs while the input differs from the debounced level
(R89). -/
def SensorCell.setInput (x : SensorCell) (level powered : Bool) : SensorCell :=
  { x with input := level, timer := powered && level != x.level }

/-- SENSOR_INPUT_CHANGE (R89): with the supply down only the input changes (log 27). -/
def execSensorInputChange (x : Sensor) (level : Bool) (s : State) : Host.Outcome State Fault Refusal :=
  .next (s.withSensors
    (s.sensors.set (sensorNumber x) (s.sensors[sensorNumber x].setInput level s.pins.supply)))

/-- The delivery of a debounced change to channel D and the Capture Engine (R85, R92, R100 to R102). -/
def State.sensorD (s : State) (x : Sensor) (rising : Bool) : State :=
  match s.activeWork .d with
  | some (.move p) => if x = .coverClosed then (if rising then s else s.endMove .d .coverOpen) else s.edgeMove .d p x rising
  | some (.capture _) =>
    if x = .coverClosed then (if rising then s else s.captureBreak .coverOpen)
    else if x = .docAtLine then s.docEdge rising else s
  | _ => s

/-- The delivery of a debounced change to channel P and the Emit Engine (R85, R92, R115, R119). -/
def State.sensorP (s : State) (x : Sensor) (rising : Bool) : State :=
  match s.activeWork .p with
  | some (.move p) => if x = .coverClosed then (if rising then s else s.endMove .p .coverOpen) else s.edgeMove .p p x rising
  | some (.emit _) =>
    if x = .coverClosed then (if rising then s else s.emitCover)
    else if x = .paperPresent ∧ !rising then s.paperFall else s
  | _ => s

/-- The deliveries to the channels and their engines, in either order (R90, R133; log 12). -/
def State.sensorChannels (s : State) (x : Sensor) (rising pFirst : Bool) : State :=
  if pFirst then (s.sensorP x rising).sensorD x rising else (s.sensorD x rising).sensorP x rising

/-- The deliveries of a debounced change; the SENSOR report is offered before or after those to the channels (R90;
log 12). -/
def State.deliver (s : State) (x : Sensor) (rising reportLast pFirst : Bool) : State :=
  if reportLast then ((s.sensorChannels x rising pFirst).offerSensor x).rewatch
  else ((s.offerSensor x).sensorChannels x rising pFirst).rewatch

/-- A sensor after its debounced change (R89). -/
def SensorCell.debounced (x : SensorCell) : SensorCell := { x with level := x.input, timer := false }

/-- DEBOUNCED_CHANGE (R89): the stability timer has expired with the input still changed. -/
def execDebouncedChange (x : Sensor) (reportLast pFirst : Bool) (s : State) : Host.Outcome State Fault Refusal :=
  let c := s.sensors[sensorNumber x]
  if c.timer ∧ c.input ≠ c.level then
    finish ((s.withSensors (s.sensors.set (sensorNumber x) c.debounced)).deliver x c.input reportLast pFirst)
  else .next s

end Sys2Proof.Machine
end

