-- ==== Sys2Proof/Machine/EngineCommands.lean ====
section
/-! DEFINITION. The commands of the engines: CLOCKING_END, WRITE_BACK_END, FETCH_GRANT_END, SHIFT_END,
STROBE_GROUP_END, MOVER_GRANT_END (chapters 5, 6 and 8). -/

namespace Sys2Proof.Machine

/-! ### Capture (R94, R97, R55) -/

/-- The running capture with the store that is CLOCKING and its line. -/
def State.clockingLine (s : State) : Option (CaptureParams × StoreId × Nat) :=
  match s.captureNow, s.capture.clocking with
  | some (p, _), some i =>
    match s.capture.store i with
    | .clocking line => some (p, i, line)
    | .writing _ _ | .empty => none
  | _, _ => none

/-- CLOCKING_END (R94, R97): the line's pixels are in the store, which becomes WRITING. -/
def execClockingEnd (pixels : List Bool) (s : State) : Host.Outcome State Fault Refusal :=
  match s.clockingLine with
  | some (p, i, line) =>
    finish (s.withCapture (s.capture.withStore i (.writing line (pixelWords pixels s.bands[p.band].width))))
  | none => .next s

/-- The running capture with the line whose write-back grant is in progress. -/
def State.writtenLine (s : State) : Option (CaptureParams × CaptureRecord × StoreId × List Word) :=
  match s.captureNow, s.port.grant with
  | some (p, r), some (.writeBack i) =>
    match s.capture.store i with
    | .writing _ words => some (p, r, i, words)
    | .clocking _ | .empty => none
  | _, _ => none

/-- The record after a write-back of a line (R97). -/
def CaptureRecord.lineWritten (r : CaptureRecord) (words : List Word) : CaptureRecord :=
  { r with sum := words.foldl (· + ·) r.sum, captured := stopAt 65535 (r.captured + 1) }

/-- A line's write-back has ended, memory being written already: sum and lines captured, the marks, the store; then the
accesses held on the line go on, channel P may resume, and a decided capture may end (R55, R66, R97, R105, R125). -/
def State.lineCaptured (s : State) (p : CaptureParams) (r : CaptureRecord) (i : StoreId) (words : List Word) : State :=
  let b := s.bands[p.band]
  let s1 := (s.withCapture
    { s.capture.withStore i .empty with record := some (r.lineWritten words) }).withCount p.band b.writeBackEnd true
  let s2 := if b.role = .capture then s1.releaseLine p.band b.f else s1
  (s2.resumeP p.band).captureFinish

/-- WRITE_BACK_END (R55, R97). -/
def execWriteBackEnd (s : State) : Host.Outcome State Fault Refusal :=
  match s.writtenLine with
  | some (p, r, i, words) => finish ((s.endGrant (.writeBack i)).lineCaptured p r i words)
  | none => .next s

/-! ### Emit (R110 to R112, R60) -/

/-- The words of a fetched line (R110). -/
def State.lineWords (s : State) (b : Fin 4) (line : Nat) : List Word :=
  s.dramWords (s.lineAddr b line) (s.bands[b].width / 2)

/-- A fetch grant has ended: the LOADING store is FETCHED and the shift may begin; after a reversion it fills no store
(R110, R111). -/
def State.lineFetched (s : State) (i : StoreId) : State :=
  match s.emitNow with
  | some (p, _) =>
    let x := s.emit.store i
    if x.state = .loading then
      s.withEmit (s.emit.withStore i { x with state := .fetched, words := s.lineWords p.band x.line }).beginShift
    else s
  | none => s

/-- FETCH_GRANT_END (R110). -/
def execFetchGrantEnd (s : State) : Host.Outcome State Fault Refusal :=
  match s.port.grant with
  | some (.fetch i) => finish ((s.endGrant (.fetch i)).lineFetched i)
  | _ => .next s

/-- SHIFT_END (R111, R112): the store is SHIFTED, and a boundary that waits latches it. -/
def execShiftEnd (s : State) : Host.Outcome State Fault Refusal :=
  match s.emit.shifting with
  | some i =>
    let x := s.emit.store i
    let s1 := s.withEmit { s.emit.withStore i { x with state := .shifted } with shiftReg := some x.words }
    finish (if s1.chanP.state = .boundaryWait then s1.tryLatch else s1)
  | none => .next s

/-- The running emit with the store that is STROBING. -/
def State.strobedLine (s : State) : Option (EmitParams × EmitRecord × StoreId) :=
  match s.emitNow, s.emit.strobing with
  | some (p, r), some i => some (p, r, i)
  | _, _ => none

/-- The record after a strobe end (R112). -/
def EmitRecord.linePrinted (r : EmitRecord) : EmitRecord := { r with printed := stopAt 65535 (r.printed + 1) }

/-- A strobe end: line D is EMPTY and counted, its store is free, accesses held on it go on, a paused channel D may
resume; then channel P makes the steps of the line, or an emit told to stop stops (R60, R66, R112, R120, R125). -/
def State.lineStrobed (s : State) (p : EmitParams) (r : EmitRecord) (i : StoreId) : State :=
  let b := s.bands[p.band]
  let s1 := (s.withEmit
    { s.emit.withStore i PrintStore.none with group := 0, record := some r.linePrinted }).withCount p.band b.strobeEnd false
  let s2 := (s1.releaseLine p.band b.d).resumeD p.band
  if r.stopAsked then s2.emitStop p r.linePrinted .aborted .abort
  else s2.withChanP (s2.chanP.enterMoving (intervalAt s2.profiles[p.profile] s2.chanP.k))

/-- STROBE_GROUP_END (R108): the next group is strobed, or the strobe end is taken. -/
def execStrobeGroupEnd (s : State) : Host.Outcome State Fault Refusal :=
  match s.strobedLine with
  | some (p, r, i) =>
    if s.emit.group + 1 < p.groups then .next (s.withEmit { s.emit with group := s.emit.group + 1 })
    else finish (s.lineStrobed p r i)
  | none => .next s

/-! ### Mover (R137) -/

/-- MOVER_GRANT_END (R137). -/
def execMoverGrantEnd (s : State) : Host.Outcome State Fault Refusal :=
  match s.port.grant with
  | some (.mover n obs) => finish ((s.endGrant (.mover n obs)).endMoverGrant n obs)
  | _ => .next s

end Sys2Proof.Machine
end

