-- ==== Sys2Proof/Machine/PowerCommands.lean ====
section
/-! DEFINITION. The commands of the Power Unit: the sleep entry, the timers of sleep and wake, the wake word, and the
ringing qualifier (chapter 9). -/

namespace Sys2Proof.Machine

/-- A rest read is held (R145). -/
def State.restHeld (s : State) : Bool :=
  match s.passage.cpu with
  | some x => x.status = .held .rest
  | none => false

/-- The conditions of the sleep entry: a rest read held, the pending queue empty, no report waiting (R146); no wake word
of an earlier sleep is still to be written. -/
def State.mayEnterSleep (s : State) : Bool :=
  s.power.state = .sleepPending && !s.power.entering && s.restHeld && s.reports.pending.isEmpty
    && s.reports.waiting.isEmpty && s.power.wakeWrites.isEmpty

/-- SLEEP_ENTRY (R146 steps 1 to 3): the sleep limit stops, the motors are de-energised, self-refresh is asked. -/
def execSleepEntry (s : State) : Host.Outcome State Fault Refusal :=
  if s.mayEnterSleep then
    finish ((s.deEnergiseBoth.askSelfRefresh true).withPower { s.power with sleepLimit := false, entering := true })
  else .next s

/-- The Memory Port can put DRAM into self-refresh: it is asked to, no grant is in progress and no refresh is due
(R23). -/
def State.maySelfRefresh (s : State) : Bool :=
  s.port.selfAsked && s.port.grant.isNone && !s.port.refreshDue && s.port.dram = .active

/-- SELF_REFRESH_ENTRY (R23, R146, R152): DRAM is in SELF_REFRESH, and the Power Unit enters SLEEPING. -/
def execSelfRefreshEntry (s : State) : Host.Outcome State Fault Refusal :=
  match s.power.settings with
  | some w =>
    if s.maySelfRefresh then
      finish ((s.withPort { s.port with dram := .selfRefresh, refreshTimer := false, selfAsked := false }).enterSleeping w)
    else .next s
  | none => .next s

/-- SLEEP_LIMIT_EXPIRY (R147): the sleep ends ABANDONED. -/
def execSleepLimitExpiry (s : State) : Host.Outcome State Fault Refusal :=
  if s.power.state = .sleepPending ∧ s.power.sleepLimit then finish (s.endSleep .abandoned) else .next s

/-- PATTERN_TIMER_EXPIRY (R148): the pattern is a wake cause. -/
def execPatternTimerExpiry (p : Fin 4) (s : State) : Host.Outcome State Fault Refusal :=
  if s.power.patternTimers[p] then finish (s.takeCause (.pattern p)) else .next s

/-- WAKE_TIMER_EXPIRY (R148): TIMER is a wake cause. -/
def execWakeTimerExpiry (s : State) : Host.Outcome State Fault Refusal :=
  if s.power.state = .sleeping ∧ s.power.wakeTimer.isSome then finish (s.takeCause .timer) else .next s

/-- WAKE_WORD_WRITTEN (R147, R149): the wake word is in memory, and the wake goes on. -/
def execWakeWordWritten (s : State) : Host.Outcome State Fault Refusal :=
  match s.port.grant, s.power.wakeWrites with
  | some .wakeWord, (_, word) :: rest =>
    let s1 := s.endGrant .wakeWord
    finish ((s1.withPower { s1.power with wakeWrites := rest }).wakeWordDone word)
  | _, _ => .next s

/-- CONFIRM_TIMER_EXPIRY (R152): a lapse; the machine returns to sleep, or at the third lapse the part is reset. -/
def execConfirmTimerExpiry (words : Nat) (s : State) : Host.Outcome State Fault Refusal :=
  if s.power.state = .wakeConfirm ∧ s.power.confirmTimer.isSome then
    if 3 ≤ s.power.lapse + 1 then .next (s.resetPart .lapse words)
    else finish (s.withPower { s.power with lapse := s.power.lapse + 1, confirmTimer := none, stage := .stopClock })
  else .next s

/-- The longest time from one rising edge to the next of the same burst, in microseconds (R154). -/
def burstGap : Nat := 100000

/-- RINGING_PULSE (R154): a rising edge begins a burst, or adds a period to the burst in progress; an edge that comes
later than 100 ms finds that burst ended (log 11). The qualifier runs after the release of boot. -/
def execRingingPulse (gap : Nat) (s : State) : Host.Outcome State Fault Refusal :=
  if s.boot.state = .done then
    match s.ring.burst with
    | none => finish (s.withRing { s.ring with burst := some [] })
    | some ps =>
      if gap ≤ burstGap then finish (s.withRing { s.ring with burst := some (ps ++ [gap]) })
      else
        let s1 := s.judgeBurst ps
        finish (s1.withRing { s1.ring with burst := some [] })
  else .next s

/-- BURST_END (R154): the burst in progress ends and is judged. -/
def execBurstEnd (s : State) : Host.Outcome State Fault Refusal :=
  match s.ring.burst with
  | some ps => finish (s.judgeBurst ps)
  | none => .next s

/-- WINDOW_TIMER_EXPIRY (R155): the qualified count becomes 0. -/
def execWindowTimerExpiry (s : State) : Host.Outcome State Fault Refusal :=
  if s.ring.window then .next (s.withRing { s.ring with qualified := 0, window := false }) else .next s

end Sys2Proof.Machine
end

