-- ==== Sys2Proof/Machine/BootCommands.lean ====
section
/-! DEFINITION. The commands of the supply, the reset line and the Boot Unit (chapter 10). -/

namespace Sys2Proof.Machine

/-! ### Supply and reset line (R157, R158) -/

/-- POWER_ON (R157): the rise of the supply. -/
def execPowerOn (s : State) : Host.Outcome State Fault Refusal :=
  if s.pins.supply then .next s else .next s.risePower

/-- SUPPLY_FALL (R157). -/
def execSupplyFall (s : State) : Host.Outcome State Fault Refusal :=
  if s.pins.supply then .next s.losePower else .next s

/-- The external reset line at a level. -/
def State.withResetLine (s : State) (x : Bool) : State := s.withPins { s.pins with resetLine := x }

/-- RESET_LINE_ASSERT (R158): a RESET LINE reset, held in HOLD; with the supply down only the line changes. -/
def execResetLineAssert (words : Nat) (s : State) : Host.Outcome State Fault Refusal :=
  if s.pins.resetLine then .next s
  else if s.pins.supply then .next ((s.withResetLine true).resetPart .resetLine words)
  else .next (s.withResetLine true)

/-- RESET_LINE_RELEASE (R158): the 1 ms delay of HOLD starts. -/
def execResetLineRelease (s : State) : Host.Outcome State Fault Refusal :=
  if s.pins.resetLine then
    let s1 := s.withResetLine false
    .next (s1.withBoot { s1.boot with holdDelay := s1.pins.supply && s1.boot.state = .hold })
  else .next s

/-- HOLD_DELAY_END (R158): the Boot Unit enters HEADER. -/
def execHoldDelayEnd (s : State) : Host.Outcome State Fault Refusal :=
  if s.boot.state = .hold ∧ s.boot.holdDelay then
    .next (s.withBoot { s.boot with state := .header, holdDelay := false, headerWords := [] })
  else .next s

/-! ### Bursts (R159, R162 to R164) -/

/-- The Boot Unit burst whose grant is in progress. -/
def State.bootGrant (s : State) : Option BootJob :=
  match s.port.grant with
  | some (.boot job) => some job
  | _ => none

/-- The header words with those of the burst that ends (R159). -/
def State.headerSoFar (s : State) (offset : Nat) (misread : Misread) : List Word :=
  s.boot.headerWords ++ misreadWords misread (s.romWords offset Config.burstWords)

/-- BOOT_BURST_END (R159, R162, R163): a burst ends that ends neither a header read nor the fill nor a copy attempt. -/
def execBootBurstEnd (misread : Misread) (s : State) : Host.Outcome State Fault Refusal :=
  match s.bootGrant with
  | some (.header offset) =>
    if s.lastHeaderBurst then .next s
    else finish (s.freePort.withBoot { s.boot with headerWords := s.headerSoFar offset misread })
  | some (.fill addr) =>
    if s.lastFillBurst then .next s
    else finish ((s.endGrant (.boot (.fill addr))).withBoot { s.boot with pos := s.boot.pos + 2 * Config.burstWords })
  | some (.copyRead offset n) =>
    let ws := misreadWords misread (s.romWords offset n)
    finish (s.freePort.withBoot { s.boot with buffer := ws, crc := crcWords s.boot.crc ws })
  | some (.copyWrite addr ws) =>
    if s.lastCopyBurst then .next s
    else finish ((s.endGrant (.boot (.copyWrite addr ws))).withBoot
      { s.boot with pos := s.boot.pos + 2 * ws.length, buffer := [] })
  | some .record => .next s
  | none => .next s

/-- HEADER_READ_END (R159, R161): the fourth burst of a header read ends, and the header is judged. -/
def execHeaderReadEnd (misread : Misread) (s : State) : Host.Outcome State Fault Refusal :=
  match s.bootGrant with
  | some (.header offset) =>
    if s.lastHeaderBurst then finish (s.freePort.judgeHeader (s.headerSoFar offset misread)) else .next s
  | _ => .next s

/-- FILL_END (R162): the last word is written, fill owed is cleared, and COPY or RELEASE follows. -/
def execFillEnd (s : State) : Host.Outcome State Fault Refusal :=
  match s.bootGrant with
  | some (.fill addr) =>
    if s.lastFillBurst then
      finish ((s.endGrant (.boot (.fill addr))).withBoot { s.boot with fillOwed := false }.afterFill)
    else .next s
  | _ => .next s

/-- COPY_ATTEMPT_END (R163): the last write of an attempt ends, and the running CRC is compared. -/
def execCopyAttemptEnd (s : State) : Host.Outcome State Fault Refusal :=
  match s.bootGrant, s.boot.header with
  | some (.copyWrite addr ws), some h =>
    if s.lastCopyBurst then
      finish ((s.endGrant (.boot (.copyWrite addr ws))).withBoot (s.boot.endAttempt h.imageCrc))
    else .next s
  | _, _ => .next s

/-- BOOT_RELEASE (R164): the boot record is written; the overlay is set, the BOOT report is offered, the processor is
released. -/
def execBootRelease (s : State) : Host.Outcome State Fault Refusal :=
  match s.bootGrant with
  | some .record => finish (s.endGrant (.boot .record)).releaseProcessor
  | _ => .next s

end Sys2Proof.Machine
end

