-- ==== Sys2Proof/Machine/Dispatch.lean ====
section
/-! DEFINITION. The meaning of each command: one arm per row of the opcode table. -/

namespace Sys2Proof.Machine

/-- The meaning of a command: its effect on everything but the queue. -/
def exec (i : Instr) (s : State) : Host.Outcome State Fault Refusal :=
  match i with
  | .powerOn => Sys2Proof.Machine.execPowerOn s
  | .resetLineAssert words => Sys2Proof.Machine.execResetLineAssert words s
  | .resetLineRelease => Sys2Proof.Machine.execResetLineRelease s
  | .holdDelayEnd => Sys2Proof.Machine.execHoldDelayEnd s
  | .headerReadEnd misread => Sys2Proof.Machine.execHeaderReadEnd misread s
  | .fillEnd => Sys2Proof.Machine.execFillEnd s
  | .copyAttemptEnd => Sys2Proof.Machine.execCopyAttemptEnd s
  | .bootRelease => Sys2Proof.Machine.execBootRelease s
  | .processorAccess addr op => Sys2Proof.Machine.execProcessorAccess addr op s
  | .arbiterGrant => Sys2Proof.Machine.execArbiterGrant s
  | .refreshDue => Sys2Proof.Machine.execRefreshDue s
  | .processorGrantEnd => Sys2Proof.Machine.execProcessorGrantEnd s
  | .accessHoldExpiry => Sys2Proof.Machine.execAccessHoldExpiry s
  | .bodyFetchEnd => Sys2Proof.Machine.execBodyFetchEnd s
  | .takenWriteEnd => Sys2Proof.Machine.execTakenWriteEnd s
  | .finalWriteEnd => Sys2Proof.Machine.execFinalWriteEnd s
  | .setWindow => Sys2Proof.Machine.execSetWindow s
  | .clearWindow => Sys2Proof.Machine.execClearWindow s
  | .setBand => Sys2Proof.Machine.execSetBand s
  | .resetBand => Sys2Proof.Machine.execResetBand s
  | .setProfile => Sys2Proof.Machine.execSetProfile s
  | .profileRecordReadEnd => Sys2Proof.Machine.execProfileRecordReadEnd s
  | .setChannel => Sys2Proof.Machine.execSetChannel s
  | .setRinging => Sys2Proof.Machine.execSetRinging s
  | .setAttention => Sys2Proof.Machine.execSetAttention s
  | .sleep => Sys2Proof.Machine.execSleep s
  | .patternTableReadEnd => Sys2Proof.Machine.execPatternTableReadEnd s
  | .restart => Sys2Proof.Machine.execRestart s
  | .abort => Sys2Proof.Machine.execAbort s
  | .emitEnd => Sys2Proof.Machine.execEmitEnd s
  | .move => Sys2Proof.Machine.execMove s
  | .capture => Sys2Proof.Machine.execCapture s
  | .emit => Sys2Proof.Machine.execEmit s
  | .transfer => Sys2Proof.Machine.execTransfer s
  | .segmentRecordReadEnd => Sys2Proof.Machine.execSegmentRecordReadEnd s
  | .reportPostEnd => Sys2Proof.Machine.execReportPostEnd s
  | .chopPeriodStart => Sys2Proof.Machine.execChopPeriodStart s
  | .stepTimerExpiry c => Sys2Proof.Machine.execStepTimerExpiry c s
  | .holdTimerExpiry c => Sys2Proof.Machine.execHoldTimerExpiry c s
  | .sensorInputChange sensor level => Sys2Proof.Machine.execSensorInputChange sensor level s
  | .debouncedChange sensor reportLast pFirst => Sys2Proof.Machine.execDebouncedChange sensor reportLast pFirst s
  | .clockingEnd pixels => Sys2Proof.Machine.execClockingEnd pixels s
  | .writeBackEnd => Sys2Proof.Machine.execWriteBackEnd s
  | .pauseTimerExpiry c => Sys2Proof.Machine.execPauseTimerExpiry c s
  | .fetchGrantEnd => Sys2Proof.Machine.execFetchGrantEnd s
  | .shiftEnd => Sys2Proof.Machine.execShiftEnd s
  | .strobeGroupEnd => Sys2Proof.Machine.execStrobeGroupEnd s
  | .moverGrantEnd => Sys2Proof.Machine.execMoverGrantEnd s
  | .sleepEntry => Sys2Proof.Machine.execSleepEntry s
  | .selfRefreshEntry => Sys2Proof.Machine.execSelfRefreshEntry s
  | .sleepLimitExpiry => Sys2Proof.Machine.execSleepLimitExpiry s
  | .patternTimerExpiry pattern => Sys2Proof.Machine.execPatternTimerExpiry pattern s
  | .wakeTimerExpiry => Sys2Proof.Machine.execWakeTimerExpiry s
  | .wakeWordWritten => Sys2Proof.Machine.execWakeWordWritten s
  | .confirmTimerExpiry words => Sys2Proof.Machine.execConfirmTimerExpiry words s
  | .ringingPulse gap => Sys2Proof.Machine.execRingingPulse gap s
  | .burstEnd => Sys2Proof.Machine.execBurstEnd s
  | .windowTimerExpiry => Sys2Proof.Machine.execWindowTimerExpiry s
  | .supplyFall => Sys2Proof.Machine.execSupplyFall s
  | .bootBurstEnd misread => Sys2Proof.Machine.execBootBurstEnd misread s
  | .refreshCycleEnd => Sys2Proof.Machine.execRefreshCycleEnd s

end Sys2Proof.Machine
end

