-- ==== Sys2Proof/Machine/Outputs.lean ====
section
/-! DEFINITION. The output pins that follow from the state: the phase and chop outputs of the channels, the scanner's
pixel clock, and the printhead's shift clock, data, strobes and heated dots (R72, R74, R94, R108); and the two outputs
that pulse within an event, the scanner's line-start and the printhead's latch, which follow from the states before and
after it. -/

namespace Sys2Proof.Machine

/-! ### Motor drivers (R72, R74) -/

/-- The outputs A1, A2, B1, B2 that a phase index drives (Table 4-1). -/
def phaseTable (i : BitVec 3) : Bool × Bool × Bool × Bool :=
  match i.toNat with
  | 0 => (true, false, false, false)
  | 1 => (true, false, true, false)
  | 2 => (false, false, true, false)
  | 3 => (false, true, true, false)
  | 4 => (false, true, false, false)
  | 5 => (false, true, false, true)
  | 6 => (false, false, false, true)
  | _ => (true, false, false, true)

/-- The phase outputs A1, A2, B1, B2 of a channel: those of the index they show, or all low (R72). -/
def Channel.phaseOutputs (c : Channel) : Bool × Bool × Bool × Bool :=
  match c.driven with
  | some i => phaseTable i
  | none => (false, false, false, false)

/-- Winding A is energised (Table 4-1). -/
def Channel.energisedA (c : Channel) : Bool := c.phaseOutputs.1 || c.phaseOutputs.2.1

/-- Winding B is energised (Table 4-1). -/
def Channel.energisedB (c : Channel) : Bool := c.phaseOutputs.2.2.1 || c.phaseOutputs.2.2.2

/-- The chop outputs CA and CB in part `part`, 0 to 15, of a chopping period: at level n an energised winding's output is
high in the first n parts (R72, R74). -/
def Channel.chopOutputs (c : Channel) (part : Nat) : Bool × Bool :=
  (c.energisedA && decide (part < c.inEffect), c.energisedB && decide (part < c.inEffect))

/-! ### Scanner (R94) -/

/-- The pixel clock runs: a line is being clocked in (R94). -/
def CaptureEngine.pixelClockRuns (c : CaptureEngine) : Bool := c.clocking.isSome

/-- The line-start output gives its one pulse in an event that takes the Capture Engine from `c` to `d`: the clocking of
a line begins in it. In every other event the output stays low (R94, R96; log 33). -/
def CaptureEngine.lineStartPulse (c d : CaptureEngine) : Bool := c.clocking.isNone && d.clocking.isSome

/-- The pixel clocks that a line of `width` bytes is given (R94). -/
def pixelClocks (width : Nat) : Nat := 8 * width

/-! ### Printhead (R108) -/

/-- The shift clock runs: a line is being shifted (R108). -/
def EmitEngine.shiftClockRuns (e : EmitEngine) : Bool := e.shifting.isSome

/-- Pixel `n` of a line, from bit 15 of word 0 on, the order in which the Capture Engine packs them (R94, R108). -/
def pixelOf (words : List Word) (n : Nat) : Bool := (words.getD (n / 16) 0).getLsbD (15 - n % 16)

/-- What the serial data output presents at shift clock `n` of a shift: pixel `n` of the line in the SHIFTING store. While
nothing is being shifted there is no clock, and the spec gives the output no level (R108; log 33). -/
def EmitEngine.serialData (e : EmitEngine) (n : Nat) : Option Bool :=
  match e.shifting with
  | some i => some (pixelOf (e.store i).words n)
  | none => none

/-- The shift clocks that the line in the SHIFTING store is given, one for each dot; none while nothing is being shifted
(R108). -/
def EmitEngine.shiftClocks (e : EmitEngine) : Nat :=
  match e.shifting with
  | some i => 16 * (e.store i).words.length
  | none => 0

/-- The latch output gives its one pulse in an event that takes the Emit Engine from `e` to `f`: a line comes under heat
in it. In every other event the output stays low (R108, R112; log 33). -/
def EmitEngine.latchPulse (e f : EmitEngine) : Bool := e.strobing.isNone && f.strobing.isSome

/-- Strobe output `j` is on: a line is under heat in group `j` (R108). -/
def EmitEngine.strobeOutput (e : EmitEngine) (j : Nat) : Bool := e.strobing.isSome && decide (e.group = j)

/-- The strobe group of a dot: `groups` groups of equal size, counted from dot 0 (R108). -/
def strobeGroup (dots groups dot : Nat) : Nat := dot / (dots / groups)

/-- A dot is heated: the latch holds it black and the strobe of its group is on (R108). -/
def EmitEngine.heats (e : EmitEngine) (groups dot : Nat) : Bool :=
  match e.latch with
  | some ws =>
    pixelOf ws dot && e.strobeOutput (strobeGroup (16 * ws.length) groups dot)
  | none => false

end Sys2Proof.Machine
end

