-- ==== Sys2Proof/Safety.lean ====
section
/-! DEFINITION. The terms that claims use: the parts of the state that few commands write, the legal form of a band's
marks, the invariant of the machine, and what may follow of itself after an event. -/

namespace Sys2Proof.Machine

/-! ### Parts that few commands write -/

/-- What no event of the engines, queues and reports writes: the queue of commands, DRAM, ROM, the installed size and the
overlay state, the Window Table, the profiles, the sensors and the Boot Unit. -/
structure Outside where
  pending : List Instr
  dram : List Host.Cell
  rom : List Host.Cell
  romSize : Nat
  installedMb : Nat
  mode : OverlayMode
  overlayLength : Nat
  overlayBase : Nat
  imageLength : Nat
  guard : Bool
  windows : Vector Window 8
  profiles : Vector (List Level) 8
  sensors : Vector SensorCell 6
  boot : Boot

/-- Those parts of a state. -/
def State.outside (s : State) : Outside :=
  { pending := s.pending, dram := s.dram, rom := s.rom, romSize := s.romSize, installedMb := s.passage.installedMb,
    mode := s.passage.mode, overlayLength := s.passage.overlayLength, overlayBase := s.passage.overlayBase,
    imageLength := s.passage.imageLength, guard := s.passage.guard, windows := s.windows, profiles := s.profiles,
    sensors := s.sensors, boot := s.boot }

/-- The page column: the band records, the two engines and the ringing qualifier. -/
structure Page where
  bands : Vector Band 4
  capture : CaptureEngine
  emit : EmitEngine
  ring : Ringing

/-- That part of a state. -/
def State.page (s : State) : Page := { bands := s.bands, capture := s.capture, emit := s.emit, ring := s.ring }

/-! ### The invariant -/

/-- A band's marks are a legal ring: F is D plus C mod L, the ready and the FILLING lines do not exceed L, the DRAINING
lines are among the ready ones, and each engine has at most two lines in its stores (R50, R52). -/
structure Band.Legal (b : Band) : Prop where
  ring : b.f = (b.d + b.c) % b.lines
  consumer : b.d < b.lines ∨ (b.lines = 0 ∧ b.d = 0)
  room : b.c + b.filling ≤ b.lines
  draining : b.draining ≤ b.c
  twoFilling : b.filling ≤ 2
  twoDraining : b.draining ≤ 2

/-- What every step keeps: DRAM is in its canonical form, every band's marks are a legal ring (R52), the pending queue
holds at most 8 reports (section 2.6), the unposted-fault count is at most 255 (R20), and the sequence counter is 1 to 15
(R41). -/
structure Inv (s : State) : Prop where
  memory : Memory.wf s.dram
  marks : ∀ b : Fin 4, s.bands[b].Legal
  pending : s.reports.pending.length ≤ Config.pendingPlaces
  unposted : s.passage.unposted ≤ 255
  seqLow : 1 ≤ s.reports.seq
  seqHigh : s.reports.seq ≤ 15

/-- The queues are legal: every order that runs or waits in a queue belongs to it (Table 2-2), and an order waits only
behind a running one (R33, R36). -/
structure QueuesLegal (s : State) : Prop where
  running : ∀ q ro, s.running q = some ro → ro.order.work.queue = q
  waiting : ∀ q, ∀ o ∈ (s.intake.queue q).waiting, o.work.queue = q
  behind : ∀ q, s.running q = none → (s.intake.queue q).waiting = []

/-! ### Accesses -/

/-- The overlay claims a processor access: ROM_DIRECT, below the overlay length (R5). -/
def State.Overlaid (s : State) (a : Access) : Prop := s.passage.mode = .romDirect ∧ a.at < s.passage.overlayLength

/-- A processor access that no check of R1 before the window check matches. -/
structure State.ReachesWindows (s : State) (a : Access) : Prop where
  overlay : ¬ s.Overlaid a
  rom : a.at < 0xE00000
  memory : a.at < s.installed
  image : ¬ (s.passage.mode = .shadow ∧ s.passage.guard = true ∧ opIsWrite a.op = true ∧ a.at < s.passage.imageLength)

/-- The processor's access held on a band. -/
def State.HeldOn (s : State) (b : Fin 4) : Prop := ∃ x line, s.passage.cpu = some x ∧ x.status = .held (.line b line)

/-! ### Channels -/

/-- A channel `c` that has stopped: HOLDING, or OFF for a hold time of 0, no step or pause timed, the phase index as it
stood (R75, R76, R87). -/
structure Channel.Stopped (c d : Channel) : Prop where
  state : d.state = .holding ∨ d.state = .off
  timers : d.stepTimer = none ∧ d.pauseTimer = none
  phase : d.phase = c.phase

/-! ### What follows of itself -/

/-- How a channel may stand after what follows of itself: as it was, or de-energised by a return to sleep (R152). -/
def Channel.Follows (c d : Channel) : Prop := d = c ∨ d = c.deEnergise

/-- A return to sleep is under way, before self-refresh is asked (R152 steps 1 and 2). -/
def State.Returning (s : State) : Prop :=
  s.power.state = .wakeConfirm ∧ (s.power.stage = .stopClock ∨ s.power.stage = .postReports)

/-- What may differ between the state right after an event and the state that a step answers: requests at the Memory
Port, the slot the Intake begins to take, how far the mover has come with its faults and its end, and how far a return to sleep
has come. Everything else stands as the event left it. -/
structure Follows (u t : State) : Prop where
  outside : t.outside = u.outside
  page : t.page = u.page
  passage : t.passage = { u.passage with unposted := t.passage.unposted }
  pins : t.pins = { u.pins with clock := t.pins.clock }
  clock : t.pins.clock = true → u.pins.clock = true
  dramState : t.port.dram = u.port.dram
  refresh : t.port.refreshTimer = u.port.refreshTimer ∧ t.port.refreshDue = u.port.refreshDue
  grant : t.port.grant = u.port.grant
  chanD : u.chanD.Follows t.chanD
  chanP : u.chanP.Follows t.chanP
  power : t.power = { u.power with stage := t.power.stage }
  area : t.reports.count = u.reports.count ∧ t.reports.post = u.reports.post ∧ t.reports.consume = u.reports.consume
    ∧ t.reports.unconsumed = u.reports.unconsumed ∧ t.reports.seq = u.reports.seq
  line : t.reports.mask = u.reports.mask ∧ t.reports.sensorMask = u.reports.sensorMask
    ∧ t.reports.attention = u.reports.attention
  pending : u.reports.pending <+: t.reports.pending
  waiting : u.reports.waiting <+: t.reports.waiting
  queues : t.intake.dQueue = u.intake.dQueue ∧ t.intake.pQueue = u.intake.pQueue
    ∧ t.intake.mQueue.waiting = u.intake.mQueue.waiting
    ∧ t.intake.mQueue.running.map (·.order) = u.intake.mQueue.running.map (·.order)
  turn : t.intake.next = u.intake.next ∧ t.intake.dispatch = u.intake.dispatch
  /-- an order in hand stays in hand as it is, and with its body fetched the slots and the intake state stand -/
  hand : ∀ h, u.intake.inHand = some h → t.intake.inHand = some h
    ∧ (h.stage ≠ .fetch → t.intake.slots = u.intake.slots ∧ t.intake.state = u.intake.state)
  slotCount : t.intake.slots.length = u.intake.slots.length
  /-- a slot record changes only for the order in hand, from POSTED to FETCHING at the moment the body fetch is requested,
  with no final write that waits (R29, R37) -/
  slots : ∀ i, t.intake.slot i = u.intake.slot i
    ∨ ((u.intake.slot i).state = .posted ∧ t.intake.slot i = { u.intake.slot i with state := .fetching }
        ∧ u.port.intakeReq = none ∧ u.intake.finalWrites = [] ∧ t.port.intakeReq = some .fetch
        ∧ t.intake.inHand.map (·.slot) = some i)
  /-- a final write that waits is not lost: it waits on, or it is the one that the Intake now asks for -/
  writes : (∃ more, t.intake.finalWrites = u.intake.finalWrites ++ more)
    ∨ (u.port.intakeReq = none ∧ ∃ more w, u.intake.finalWrites ++ more = w :: t.intake.finalWrites
        ∧ t.port.intakeReq = some (.final w))
  /-- a request that waits stays -/
  requests : (u.port.fetchReq = true → t.port.fetchReq = true)
    ∧ (u.port.captureReq.isSome → t.port.captureReq = u.port.captureReq)
    ∧ (u.port.procReq.isSome → t.port.procReq = u.port.procReq)
    ∧ (u.port.intakeReq.isSome → t.port.intakeReq = u.port.intakeReq)
    ∧ (u.port.moverReq.isSome → t.port.moverReq = u.port.moverReq)
  /-- with no word to go on with, the mover and the reports stand -/
  quiet : u.moverFree = false → t.mover = u.mover ∧ t.port.moverReq = u.port.moverReq ∧ t.reports = u.reports
    ∧ t.passage = u.passage ∧ t.intake.mQueue = u.intake.mQueue
  /-- with no return to sleep under way the Power Unit, the channels and the clock stand -/
  awake : ¬ u.Returning → t.power = u.power ∧ t.chanD = u.chanD ∧ t.chanP = u.chanP ∧ t.pins = u.pins
    ∧ t.port.selfAsked = u.port.selfAsked

/-- A command, carried out in a state, answers a next state: the state `u` with what follows of itself. -/
def Leads (c : Instr) (s u : State) : Prop := ∃ t, exec c s = .next t ∧ Follows u t

/-! ### Resets -/

/-- The commands that may reset the part or fall together with a reset (R157): the supply, the reset line, the final
write of a RESTART and the expiry that ends a third lapse. -/
def mayReset : Instr → Bool
  | .powerOn | .supplyFall | .resetLineAssert _ | .finalWriteEnd | .confirmTimerExpiry _ => true
  | .resetLineRelease | .holdDelayEnd | .headerReadEnd _ | .fillEnd | .copyAttemptEnd | .bootRelease => false
  | .processorAccess _ _ | .arbiterGrant | .refreshDue | .processorGrantEnd | .accessHoldExpiry => false
  | .bodyFetchEnd | .takenWriteEnd | .setWindow | .clearWindow | .setBand | .resetBand | .setProfile => false
  | .profileRecordReadEnd | .setChannel | .setRinging | .setAttention | .sleep | .patternTableReadEnd => false
  | .restart | .abort | .emitEnd | .move | .capture | .emit | .transfer | .segmentRecordReadEnd => false
  | .reportPostEnd | .chopPeriodStart | .stepTimerExpiry _ | .holdTimerExpiry _ | .sensorInputChange _ _ => false
  | .debouncedChange _ _ _ | .clockingEnd _ | .writeBackEnd | .pauseTimerExpiry _ | .fetchGrantEnd => false
  | .shiftEnd | .strobeGroupEnd | .moverGrantEnd | .sleepEntry | .selfRefreshEntry | .sleepLimitExpiry => false
  | .patternTimerExpiry _ | .wakeTimerExpiry | .wakeWordWritten | .ringingPulse _ | .burstEnd => false
  | .windowTimerExpiry | .bootBurstEnd _ | .refreshCycleEnd => false

/-- A channel as every reset kind leaves it (R72, R74 to R77, R121). -/
structure Channel.AtReset (c : Channel) : Prop where
  outputs : c.phase = 0 ∧ c.driven = none
  level : c.asked = 0 ∧ c.inEffect = 0
  state : c.state = .off
  settings : c.mode = .half ∧ c.runLevel = 12 ∧ c.holdLevel = 4 ∧ c.holdTime = 50
  timers : c.holdTimer = none ∧ c.stepTimer = none ∧ c.pauseTimer = none
  paced : c.paced = none

/-- What every reset kind leaves in the blocks: the reset values that the spec states with each block's state (R157). -/
structure ResetValues (t : State) : Prop where
  pins : t.pins.procReset = true
  overlay : t.passage.mode = .noOverlay ∧ t.passage.guard = false
  access : t.passage.cpu = none ∧ t.passage.unposted = 0
  windows : ∀ e : Fin 8, t.windows[e].kind = .off
  requests : t.port.fetchReq = false ∧ t.port.captureReq = none ∧ t.port.procReq = none ∧ t.port.intakeReq = none
    ∧ t.port.moverReq = none ∧ t.port.grant = none ∧ t.port.selfAsked = false
  slots : ∀ i, t.intake.slot i = SlotRecord.reset
  intake : t.intake.state = .waiting ∧ t.intake.next = 0 ∧ t.intake.inHand = none ∧ t.intake.dispatch = none
    ∧ t.intake.finalWrites = []
  queues : t.intake.dQueue = Queue.empty ∧ t.intake.pQueue = Queue.empty ∧ t.intake.mQueue = Queue.empty
  reports : t.reports.post = 0 ∧ t.reports.consume = 0 ∧ t.reports.unconsumed = [] ∧ t.reports.seq = 1
    ∧ t.reports.pending = [] ∧ t.reports.waiting = []
  masks : t.reports.mask = BitVec.allOnes 6 ∧ t.reports.sensorMask = 0 ∧ t.reports.attention = false
  bands : ∀ b : Fin 4, t.bands[b] = Band.reset
  capture : t.capture.storeA = .empty ∧ t.capture.storeB = .empty ∧ t.capture.record = none
  emit : t.emit.storeA.state = .empty ∧ t.emit.storeB.state = .empty ∧ t.emit.record = none
  chanD : t.chanD.AtReset
  chanP : t.chanP.AtReset
  profiles : ∀ n : Fin 8, t.profiles[n] = []
  sensors : ∀ x : Fin 6, t.sensors[x].level = t.sensors[x].input ∧ t.sensors[x].timer = false
  mover : t.mover.state = .idle
  power : t.power.state = .running ∧ t.power.settings = none ∧ t.power.lapse = 0
  timers : t.power.sleepLimit = false ∧ t.power.wakeTimer = none ∧ t.power.confirmTimer = none
    ∧ ∀ p : Fin 4, t.power.patternTimers[p] = false
  ringing : t.ring.settings = { periodMin := 14, periodMax := 67, lengthMin := 2, lengthMax := 25, needed := 2,
                                window := 12, noiseLimit := 31 }
  qualifier : t.ring.burst = none ∧ t.ring.qualified = 0 ∧ t.ring.window = false ∧ t.ring.noise = 0
    ∧ t.ring.muted = false ∧ t.ring.heldMuted = none
  boot : t.boot.state = .hold ∧ t.boot.headerAttempts = 0 ∧ t.boot.copyAttempts = 0 ∧ t.boot.entriesOff = 0
    ∧ t.boot.header = none ∧ t.boot.outcome = none

/-! ### The Window Table and the report area -/

/-- The Window Table is legal: each entry is of a kind that its number may have (section 1.3), and an entry that is not
OFF keeps the four limits of R7. -/
structure WindowsLegal (s : State) : Prop where
  zero : s.windows[0].kind = .off ∨ s.windows[0].kind = .orders
  one : s.windows[1].kind = .off ∨ s.windows[1].kind = .reports
  others : ∀ e : Fin 8, 2 ≤ e.val → s.windows[e].kind ≠ .orders ∧ s.windows[e].kind ≠ .reports
  multiples : ∀ e : Fin 8, s.windows[e].kind ≠ .off → s.windows[e].base % 256 = 0 ∧ s.windows[e].length % 256 = 0
  length : ∀ e : Fin 8, s.windows[e].kind ≠ .off → 256 ≤ s.windows[e].length ∧ s.windows[e].length ≤ 0x800000
  inside : ∀ e : Fin 8, s.windows[e].kind ≠ .off → s.windows[e].base + s.windows[e].length ≤ s.installed
  image : ∀ e : Fin 8, s.windows[e].kind ≠ .off → s.imageRange ≤ s.windows[e].base
  apart : ∀ e j : Fin 8, e ≠ j → s.windows[e].kind ≠ .off → s.windows[j].kind ≠ .off →
    s.windows[e].base + s.windows[e].length ≤ s.windows[j].base
      ∨ s.windows[j].base + s.windows[j].length ≤ s.windows[e].base

/-- The report area is a legal ring: the unconsumed slots fit it and run from C_r to P_r, and a posting is granted only
into a free slot (R41, R42). -/
structure AreaLegal (s : State) : Prop where
  fits : s.reports.unconsumed.length ≤ s.reports.count
  ring : s.reports.count ≠ 0 →
    s.reports.post = (s.reports.consume + s.reports.unconsumed.length) % s.reports.count
      ∧ s.reports.consume < s.reports.count
  room : s.port.grant = some .report → s.reports.unconsumed.length < s.reports.count

end Sys2Proof.Machine
end

