-- ==== Sys2Proof/Certificates/Slice0/Obligations.lean ====
section
/-! DEFINITION. The statements for the provers. -/

open Sys2Proof Sys2Proof.Machine

/-! ### The machine as a whole -/

/-- A step takes the command at the front of the queue and carries it out on the state with the queue's rest; on an empty
queue the part idles. Both are the model's choice (log 1). -/
def Obligations.StepRunsFrontCommand : Prop :=
  (∀ (s : State) (c : Instr) (rest : List Instr), s.pending = c :: rest → step s = exec c (s.withPending rest))
  ∧ (∀ s : State, s.pending = [] → step s = .next s)

/-- Every command completes in every state: no fault and no refusal stops the part, and no command touches the queue
behind it or the ROM. That a command completes where its event cannot happen is the model's choice (log 2), and so is the
queue (log 1). -/
def Obligations.EveryCommandCompletes : Prop :=
  ∀ (c : Instr) (s : State), ∃ t, exec c s = .next t ∧ t.pending = s.pending ∧ t.rom = s.rom ∧ t.romSize = s.romSize

/-- Every step keeps the invariant: canonical DRAM (the form is the model's, log 5), legal marks of every band, at most
8 pending reports, an unposted-fault count of at most 255, a sequence of 1 to 15. It keeps the queues legal too: every
order runs or waits in its own queue (Table 2-2), and orders wait only behind a running one (R33, R36). -/
def Obligations.StepKeepsInvariant : Prop :=
  (∀ s t : State, Inv s → step s = .next t → Inv t)
  ∧ (∀ s t : State, QueuesLegal s → step s = .next t → QueuesLegal t)

/-- The state after reset meets the invariant, its queues are legal, and it has the reset values that the spec states:
DRAM UNSIZED with no refresh, the processor held in reset with its clock running, the cause POWER-ON, fill owed set,
HOLD with its delay running (R22, R157, R158). -/
def Obligations.ResetMeetsInvariant : Prop :=
  (Inv State.reset)
  ∧ (QueuesLegal State.reset)
  ∧ (let s := State.reset
    ResetValues s ∧ s.port.dram = .unsized ∧ s.port.refreshTimer = false ∧ s.port.refreshDue = false
      ∧ s.pins.clock = true ∧ s.boot.cause = .powerOn ∧ s.boot.fillOwed = true ∧ s.boot.holdDelay = true)

/-- Outside a supply rise or fall, a byte of DRAM changes only where the grant in progress transfers words: every address
that the grant does not transfer to reads as before, whatever the command (R21, R24, R26, R42, R97, R137). -/
def Obligations.DramChangesByGrantAlone : Prop :=
  ∀ (c : Instr) (s t : State) (a : Nat), Memory.wf s.dram → exec c s = .next t → c ≠ .powerOn → c ≠ .supplyFall →
    (∀ g, s.port.grant = some g → ∀ cell ∈ (s.grantTransfers g).flatten, cell.1 ≠ a) → t.dramByte a = s.dramByte a

/-- Who writes what: outside resets, the Window Table is changed by SET_WINDOW, CLEAR_WINDOW and the taking of the boot
header, the profiles by the end of a profile record read, the sensors by their inputs and debounced changes, the
installed size by the taking of the header, and the overlay state by the release of boot (R2, R4, R7, R79, R89). Left out
with the commands that may reset the part are a final write that is not a RESTART's and the first two lapses. -/
def Obligations.PartsHaveTheirWriters : Prop :=
  ∀ (c : Instr) (s t : State), exec c s = .next t → mayReset c = false →
    (t.windows = s.windows ∨ c = .setWindow ∨ c = .clearWindow ∨ ∃ m, c = .headerReadEnd m)
    ∧ (t.profiles = s.profiles ∨ c = .profileRecordReadEnd)
    ∧ (t.sensors = s.sensors ∨ (∃ x v, c = .sensorInputChange x v) ∨ ∃ x a b, c = .debouncedChange x a b)
    ∧ (t.passage.installedMb = s.passage.installedMb ∨ ∃ m, c = .headerReadEnd m)
    ∧ (t.passage.mode = s.passage.mode ∧ t.passage.overlayLength = s.passage.overlayLength
        ∧ t.passage.overlayBase = s.passage.overlayBase ∧ t.passage.guard = s.passage.guard ∨ c = .bootRelease)

/-- The Window Table stays within the limits of R7 after boot: from a state of boot state DONE with no Boot Unit grant in
progress and a legal table, every command leaves a legal table, and again no Boot Unit grant while the boot state is
DONE. -/
def Obligations.WindowTableStaysLegal : Prop :=
  ∀ (c : Instr) (s t : State), WindowsLegal s → s.boot.state = .done → s.bootGrant = none → exec c s = .next t →
    WindowsLegal t ∧ (t.boot.state = .done → t.bootGrant = none)

/-- The phase index of a channel changes only at an expiry of that channel's step timer or at a reset (R72, R73). -/
def Obligations.PhaseMovesByStepsAlone : Prop :=
  ∀ (c : Instr) (s t : State), exec c s = .next t → mayReset c = false →
    (c ≠ .stepTimerExpiry .d → t.chanD.phase = s.chanD.phase) ∧ (c ≠ .stepTimerExpiry .p → t.chanP.phase = s.chanP.phase)

/-- The report area stays a legal ring under every command but the taking of the boot header, which sets its slot count
(R41 to R43). -/
def Obligations.ReportAreaStaysRing : Prop :=
  ∀ (c : Instr) (s t : State), AreaLegal s → (∀ m, c ≠ .headerReadEnd m) → exec c s = .next t → AreaLegal t

/-! ### Memory and codes -/

/-- A byte written is read back, every other address reads as before, and the canonical form is kept; two memories in that
form that read alike everywhere are the same data; a word stored is read back, its more significant byte at the lower
address (section 0.8). The canonical form, and what a byte that nothing has written reads as, are the model's (log 5). -/
def Obligations.MemoryIsCanonical : Prop :=
  (∀ (m : List Host.Cell) (a b : Nat) (v : Byte), Memory.wf m →
      Memory.wf (Memory.write m a v)
        ∧ Memory.read Config.unlistedDram (Memory.write m a v) b
            = if b = a then v else Memory.read Config.unlistedDram m b)
  ∧ (∀ m n : List Host.Cell, Memory.wf m → Memory.wf n →
      (∀ a, Memory.read Config.unlistedDram m a = Memory.read Config.unlistedDram n a) → m = n)
  ∧ (∀ (s : State) (a : Nat) (w : Word), Memory.wf s.dram →
      (s.store (wordBytes a w)).dramWord a = w ∧ (s.store (wordBytes a w)).dramByte a = w.extractLsb' 8 8)

/-! ### Bands -/

/-- Each event on a legal band, where the event's own condition holds, moves the one line that Table 3-1 names to the state
it names and leaves every other line, and changes F, D, C and the two counts as the table says and nothing else in the
record (R54 to R61). -/
def Obligations.BandEventsMoveLinesAndMarks : Prop :=
  (∀ (b : Band) (i : Nat), b.Legal → i < b.lines →
      (b.c + b.filling < b.lines → b.filling < 2 →
        b.claim.lineState i = if i = (b.f + b.filling) % b.lines then .filling else b.lineState i)
      ∧ (0 < b.filling → b.writeBackEnd.lineState i = if i = b.f then .full else b.lineState i)
      ∧ (0 < b.filling →
        b.withdraw.lineState i = if i = (b.f + b.filling - 1) % b.lines then .empty else b.lineState i)
      ∧ (b.c < b.lines → b.filling = 0 → b.fill.lineState i = if i = b.f then .full else b.lineState i)
      ∧ (0 < b.c → b.draining = 0 → b.drain.lineState i = if i = b.d then .empty else b.lineState i)
      ∧ (b.draining < b.c → b.draining < 2 →
        b.fetch.lineState i = if i = (b.d + b.draining) % b.lines then .draining else b.lineState i)
      ∧ (0 < b.draining → b.strobeEnd.lineState i = if i = b.d then .empty else b.lineState i)
      ∧ b.revert.lineState i = if b.lineState i = .draining then .full else b.lineState i)
  ∧ (∀ b : Band, b.Legal →
      (b.c + b.filling < b.lines → b.filling < 2 → b.claim = { b with filling := b.filling + 1 })
      ∧ (0 < b.filling →
        b.writeBackEnd = { b with c := b.c + 1, f := (b.f + 1) % b.lines, filling := b.filling - 1 })
      ∧ (0 < b.filling → b.withdraw = { b with filling := b.filling - 1 })
      ∧ (b.c < b.lines → b.filling = 0 → b.fill = { b with c := b.c + 1, f := (b.f + 1) % b.lines })
      ∧ (0 < b.c → b.draining = 0 → b.drain = { b with c := b.c - 1, d := (b.d + 1) % b.lines })
      ∧ (b.draining < b.c → b.draining < 2 → b.fetch = { b with draining := b.draining + 1 })
      ∧ (0 < b.draining →
        b.strobeEnd = { b with c := b.c - 1, d := (b.d + 1) % b.lines, draining := b.draining - 1 })
      ∧ b.revert = { b with draining := 0 })

/-- The Band Unit's judgement, by role, line state and access, as the tables of R62 to R64 give it. At its grant a passing
access goes by its first judgement, or, once the state of its line has changed, by one made then (R65). An event on the
marks of a band lets the processor's access and the words of the mover's burst that wait on a line whose state it changes
be judged again, and no other. That setting, resetting or unmapping a band lets every access that waits on it be judged
again, and that one whose address then lies in no band line passes plain, are the model's readings (log 23). -/
def Obligations.BandJudgesByTables : Prop :=
  (∀ (x : Band) (b : Fin 4) (line offset : Nat) (op : AccessOp),
    let closing := opIsWord op = true ∧ offset + 2 = x.width
    let write := opIsWrite op = true
    (x.role = .capture → x.lineState line = .empty ∨ x.lineState line = .filling → x.judge b line offset op = .hold)
    ∧ (x.role = .capture → x.lineState line = .full → closing → ¬ write →
      x.judge b line offset op = .pass (if line = x.d then .drain b line else .bandOrder b))
    ∧ (x.role = .capture → x.lineState line = .full → (¬ closing ∨ write) → x.judge b line offset op = .pass .nothing)
    ∧ (x.role = .emit → write → x.lineState line = .full ∨ x.lineState line = .draining →
      x.judge b line offset op = .hold)
    ∧ (x.role = .emit → write → x.lineState line = .empty → closing →
      x.judge b line offset op = .pass (if line = x.f then .fill b line else .bandOrder b))
    ∧ (x.role = .emit → write → x.lineState line = .empty → ¬ closing → x.judge b line offset op = .pass .nothing)
    ∧ (x.role = .copy → write → x.lineState line ≠ .empty → x.judge b line offset op = .hold)
    ∧ (x.role = .copy → write → x.lineState line = .empty → x.judge b line offset op = .pass .nothing)
    ∧ (x.role = .emit ∨ x.role = .copy → ¬ write → x.judge b line offset op = .pass .nothing))
  ∧ (∀ (s : State) (a : Access),
      s.standing .plain a = .pass .nothing
      ∧ (∀ offset, s.standing (.rom offset) a = .pass .nothing)
      ∧ (∀ b obs, s.standing (.band b (some obs)) a = .pass obs)
      ∧ (∀ b, s.bandPlace a.at = none → s.standing (.band b none) a = .pass .nothing)
      ∧ ∀ b b' line offset, s.bandPlace a.at = some (b', line, offset) →
        s.standing (.band b none) a = s.bands[b'].judge b' line offset a.op)
  ∧ (∀ (s : State) (b : Fin 4) (x : Band),
      let word (i : Nat) : Nat :=
        if s.mover.state = .writing ∨ s.mover.state = .held ∧ s.mover.heldWrite = true
        then s.mover.destAddr (s.mover.next + i) else s.mover.sourceAddr (s.mover.next + i)
      let anew (t : State) (changed : Nat → Prop) : Prop := t.bands = s.bands.set b x
        ∧ (∀ y judged, s.passage.cpu = some y → y.status = .passing (.band b judged) → changed y.acc.at →
          t.passage.cpu = some { y with status := .passing (.band b none) })
        ∧ (∀ y, s.passage.cpu = some y → (∀ judged, y.status ≠ .passing (.band b judged)) ∨ ¬ changed y.acc.at →
          t.passage.cpu = some y)
        ∧ (∀ paths i path, s.port.moverReq = some paths → paths[i]? = some path → ∃ new, t.port.moverReq = some new
          ∧ new.length = paths.length
          ∧ (∀ judged, path = .band b judged → changed (word i) → new[i]? = some (.band b none))
          ∧ ((∀ judged, path ≠ .band b judged) ∨ ¬ changed (word i) → new[i]? = some path))
      anew (s.withLines b x) (fun a => ∃ line offset, s.bandPlace a = some (b, line, offset)
          ∧ s.bands[b].lineState line ≠ x.lineState line)
        ∧ anew (s.withNewBand b x) (fun _ => True))

/-- The notice test, by role and the direction in which C moved, as the table of R67 gives it; a notice level of 0 raises
none, and in every other case nothing changes. A band record that takes its marks after C has moved is tested so, and a
notice raised is offered: it enters a pending queue with room; with the queue full it waits, one for each band, and a
further one of a band whose notice waits is discarded; with no report area it is discarded (R44, R45). It carries the
band number and direction, C, F, D and the two counts after the event (Table 11-7). -/
def Obligations.NoticeTestFollowsTable : Prop :=
  (∀ (b : Band) (up : Bool),
    let high := (b.role = .capture ∨ b.role = .copy) ∧ up = true ∧ b.c = b.noticeLevel ∧ b.armed = true
      ∧ b.noticeLevel ≠ 0
    let low := b.role = .emit ∧ up = false ∧ b.c = b.noticeLevel ∧ b.armed = true ∧ b.noticeLevel ≠ 0
    let arm := ((b.role = .capture ∨ b.role = .copy) ∧ up = false ∧ b.c < b.noticeLevel
      ∨ b.role = .emit ∧ up = true ∧ b.noticeLevel < b.c) ∧ b.armed = false
    (high → b.noticeTest up = ({ b with armed := false }, some .high))
    ∧ (low → b.noticeTest up = ({ b with armed := false }, some .low))
    ∧ (arm → b.noticeTest up = ({ b with armed := true }, none))
    ∧ (¬ high → ¬ low → ¬ arm → b.noticeTest up = (b, none)))
  ∧ (∀ (s : State) (b : Fin 4) (x : Band) (up : Bool),
      let y := (x.noticeTest up).1
      let v := s.withLines b y
      let waits := ∃ w ∈ s.reports.waiting, ∃ r, w.item = .notice b r
      ((x.noticeTest up).2 = none → s.withCount b x up = v)
      ∧ ∀ dir, (x.noticeTest up).2 = some dir →
        let notice : Report := ⟨.band, 1, [wordNat (b.val + if dir = .high then 0 else 256), wordNat y.c, wordNat y.f,
          wordNat y.d, wordNat (y.filling + y.draining * 256), 0, 0]⟩
        (waits ∨ s.hasReports = false → s.withCount b x up = v)
        ∧ (¬ waits → s.hasReports = true → s.reports.pending.length < 8 →
          s.withCount b x up = v.withReports { s.reports with pending := s.reports.pending ++ [notice] })
        ∧ (¬ waits → s.hasReports = true → 8 ≤ s.reports.pending.length → s.withCount b x up
          = v.withReports { s.reports with waiting := s.reports.waiting ++ [⟨.band, .notice b notice⟩] }))

/-! ### Reports -/

/-- A PASSAGE fault enters a pending queue with room and takes up the unposted-fault count; a full queue counts it, up to
255; with no report area it is accepted and discarded (R20, R44). -/
def Obligations.FaultsTakeUpTheCount : Prop :=
  ∀ (s : State) (f : PassageFault),
    (s.hasReports = true → s.reports.pending.length < 8 →
      s.raiseFault f = (s.withReports { s.reports with
        pending := s.reports.pending ++ [passageReport f s.passage.unposted] }).withPassage
          { s.passage with unposted := 0 })
    ∧ (s.hasReports = true → 8 ≤ s.reports.pending.length →
      s.raiseFault f = s.withPassage { s.passage with unposted := min 255 (s.passage.unposted + 1) })
    ∧ (s.hasReports = false → s.raiseFault f = s.withPassage { s.passage with unposted := 0 })

/-- An engine that ends its queue's running order fixes the result and the figures. With room in the pending queue the
COMPLETION report enters and the order's final write falls due; with 8 reports there, the report waits with the
engine's block and nothing else happens (R37, R45). -/
def Obligations.EndedOrdersReport : Prop :=
  ∀ (s : State) (q : QueueId) (block : Block) (r : Result) (figures : List Word) (ro : Running),
    s.running q = some ro → s.hasReports = true →
    let ended : Running := { ro with result := r, figures := figures }
    let t := s.endOrder q block r figures
    (s.reports.pending.length < 8 →
      t.running q = some { ended with stage := .entered }
      ∧ t.reports = { s.reports with pending := s.reports.pending ++ [completionReport ended] }
      ∧ t.intake.finalWrites = s.intake.finalWrites ++ [⟨.queue q, ro.order.slot, ro.order.kind, r⟩])
    ∧ (8 ≤ s.reports.pending.length →
      t.running q = some { ended with stage := .offered }
      ∧ t.reports = { s.reports with waiting := s.reports.waiting ++ [⟨block, .completion q⟩] }
      ∧ t.intake.finalWrites = s.intake.finalWrites)

/-- Admission takes the oldest waiting report of the block with the highest claim, and leaves the rest in their order; the
claims are, from the highest, Power Unit, Boot Unit, Band Unit, Motor Unit, Capture Engine, Emit Engine, Block Mover and
Order Intake (R46). -/
def Obligations.AdmissionFollowsClaims : Prop :=
  (∀ (ws : List Waiting), (admitNext ws = none ↔ ws = []) ∧
    ∀ (w : Waiting) (rest : List Waiting), admitNext ws = some (w, rest) →
      ∃ older newer, ws = older ++ w :: newer ∧ rest = older ++ newer
        ∧ (∀ x ∈ older, w.block.claim < x.block.claim) ∧ ∀ x ∈ newer, w.block.claim ≤ x.block.claim)
  ∧ ([Block.power, .boot, .band, .motor, .capture, .emit, .mover, .intake].map Block.claim).Pairwise (· < ·)

/-- REPORT_POST_END (R42): the oldest pending report is in slot P_r, with the sequence counter in its head; it leaves the
pending queue, its class is recorded, P_r, U and the sequence counter advance, and the attention line is recomputed.
With reports of blocks waiting, the one of highest claim enters the freed place. -/
def Obligations.PostingAdvancesTheArea : Prop :=
  ∀ (s : State) (x : Report) (rest : List Report), s.port.grant = some .report → s.reports.pending = x :: rest →
    let posted := (s.endGrant .report).withReports { s.reports with
      pending := rest
      unconsumed := s.reports.unconsumed ++ [x.cls]
      post := (s.reports.post + 1) % s.reports.count
      seq := if s.reports.seq = 15 then 1 else s.reports.seq + 1
      attention := (s.reports.unconsumed ++ [x.cls]).any fun c => s.reports.mask.getLsbD (classBit c) }
    (s.reports.waiting = [] → Leads .reportPostEnd s posted)
    ∧ (∀ block r others, admitNext s.reports.waiting = some (⟨block, .report r⟩, others) → s.hasReports = true →
      Leads .reportPostEnd s (posted.withReports { posted.reports with pending := rest ++ [r], waiting := others }))
    ∧ (∀ block q others ro, admitNext s.reports.waiting = some (⟨block, .completion q⟩, others) → s.hasReports = true →
      s.running q = some ro →
      ∃ t, exec .reportPostEnd s = .next t ∧ rest ++ [completionReport ro] <+: t.reports.pending
        ∧ t.port.grant = none)
    ∧ (Memory.wf s.dram → x.body.length = 7 → ∃ t, exec .reportPostEnd s = .next t
      ∧ t.dramWord (s.reportAddr s.reports.post) = reportHead x.cls x.code s.reports.seq
      ∧ t.dramWords (s.reportAddr s.reports.post + 2) 7 = x.body)

/-! ### The processor's accesses -/

/-- PROCESSOR_ACCESS: the drops of R1 before the window check. A redirected or ROM write is dropped with GUARD ROM WRITE,
an access at or above the installed size returns all ones or is dropped with NO_MEMORY, a write below the image length
of a guarded image is dropped with GUARD IMAGE (R2, R3, R5, R6). The even address in the last three for a word at an odd
address is the model's reading (log 29). -/
def Obligations.ChecksDropAccesses : Prop :=
  ∀ (s : State) (addr : Addr) (op : AccessOp), s.busFree = true → outsidePart addr.toNat = false →
    let a : Access := ⟨addr.toNat, op⟩
    let ones : Option Word := match op with
      | .readByte => some 0x00FF
      | .readWord => some 0xFFFF
      | .writeByte _ => none
      | .writeWord _ => none
    let dropped (data : Option Word) (code : PassageCode) (reason : GuardReason) (at' : Nat) : State :=
      (s.withPassage { s.passage with cpu := none, reply := some ⟨a, data⟩ }).raiseFault
        ⟨code, reason, .processor, op, at', 0⟩
    (s.Overlaid a → opIsWrite op = true →
      Leads (.processorAccess addr op) s (dropped none .guard .romWrite addr.toNat))
    ∧ (¬ s.Overlaid a → 0xE00000 ≤ a.at → opIsWrite op = true →
      Leads (.processorAccess addr op) s (dropped none .guard .romWrite a.at))
    ∧ (¬ s.Overlaid a → a.at < 0xE00000 → s.installed ≤ a.at →
      Leads (.processorAccess addr op) s (dropped ones .noMemory .noReason a.at))
    ∧ (¬ s.Overlaid a → a.at < 0xE00000 → a.at < s.installed → s.passage.mode = .shadow → s.passage.guard = true →
      opIsWrite op = true → a.at < s.passage.imageLength →
      Leads (.processorAccess addr op) s (dropped none .guard .image a.at))

/-- PROCESSOR_ACCESS: what passes without the Window Table. A read below the overlay length or in the ROM region goes to
ROM at its offset, an access outside every window goes plain to DRAM, a word read of the rest address is held while a
sleep is pending, and an access outside the part changes nothing (R1, R3, R5, R145, section 1.1). Whatever its treatment,
an access that is forwarded, or whose hold ends in a read, is asked at the Memory Port in the same event, and a held or a
dropped one is not; a wake word that is still to be written is asked in its place (R21). -/
def Obligations.ChecksForwardAccesses : Prop :=
  ∀ (s : State) (addr : Addr) (op : AccessOp),
    let a : Access := ⟨addr.toNat, op⟩
    let waiting (st : CpuStatus) : State := s.withPassage { s.passage with cpu := some ⟨a, st, .unused⟩ }
    (outsidePart addr.toNat = true → exec (.processorAccess addr op) s = .next s)
    ∧ (s.busFree = true → outsidePart addr.toNat = false →
      (s.Overlaid a → opIsWrite op = false →
        Leads (.processorAccess addr op) s (waiting (.passing (.rom (s.passage.overlayBase + a.at)))))
      ∧ (¬ s.Overlaid a → 0xE00000 ≤ a.at → opIsWrite op = false →
        Leads (.processorAccess addr op) s (waiting (.passing (.rom (a.at - 0xE00000)))))
      ∧ (s.ReachesWindows a → s.restAddress ≠ some a.at → s.windowAt a.at = none →
        Leads (.processorAccess addr op) s (waiting (.passing .plain)))
      ∧ (s.ReachesWindows a → s.restAddress = some a.at →
        Leads (.processorAccess addr op) s (waiting (if op = .readWord then .held .rest else .passing .plain)))
      ∧ (s.port.procReq = none → (∀ obs, s.port.grant ≠ some (.processor obs)) → s.port.grant ≠ some .wakeWord →
        ∃ t, exec (.processorAccess addr op) s = .next t
        ∧ (s.power.wakeWrites ≠ [] → t.port.procReq = some .wakeWord)
        ∧ (s.power.wakeWrites = [] → (t.passage.cpu = none → t.port.procReq = none)
          ∧ ∀ y, t.passage.cpu = some y → ((∃ why, y.status = .held why) → t.port.procReq = none)
            ∧ ((∀ why, y.status ≠ .held why) → t.port.procReq = some .access))))

/-- PROCESSOR_ACCESS in a window, by its kind: a GUARD window drops writes; an access to a FETCHING slot is held; a write
to an unconsumed report slot is dropped; in a band's lines the Band Unit passes the access, or it is held with the
band's hold limit, a limit of 0 expiring at once; anything else passes plain (R8 to R10, R15). A fault carries the even address of a word (log 29). -/
def Obligations.WindowsTreatAccesses : Prop :=
  ∀ (s : State) (addr : Addr) (op : AccessOp) (e : Fin 8), s.busFree = true → outsidePart addr.toNat = false →
    let a : Access := ⟨addr.toNat, op⟩
    let waiting (st : CpuStatus) (t : HoldTimer) : State := s.withPassage { s.passage with cpu := some ⟨a, st, t⟩ }
    let dropped (reason : GuardReason) : State :=
      (s.withPassage { s.passage with cpu := none, reply := some ⟨a, none⟩ }).raiseFault
        ⟨.guard, reason, .processor, op, a.at, 0⟩
    let slot := (a.at - s.windows[e].base) / 16
    s.ReachesWindows a → s.restAddress ≠ some a.at → s.windowAt a.at = some e →
    (s.windows[e].kind = .guard → Leads (.processorAccess addr op) s
      (if opIsWrite op = true then dropped .window else waiting (.passing .plain) .unused))
    ∧ (s.windows[e].kind = .orders → Leads (.processorAccess addr op) s
      (if slot < s.intake.slots.length ∧ (s.intake.slot slot).state = .fetching then waiting (.held (.slot slot)) .unused
        else waiting (.passing .plain) .unused))
    ∧ (s.windows[e].kind = .reports → Leads (.processorAccess addr op) s
      (if slot < s.reports.count ∧ opIsWrite op = true ∧ s.reports.unconsumedSlot slot = true then dropped .reportSlot
        else waiting (.passing .plain) .unused))
    ∧ (s.windows[e].kind = .band → s.bandPlace a.at = none →
      Leads (.processorAccess addr op) s (waiting (.passing .plain) .unused))
    ∧ (s.windows[e].kind = .band → ∀ b line offset, s.bandPlace a.at = some (b, line, offset) →
      (∀ obs, s.bands[b].judge b line offset op = .pass obs →
        Leads (.processorAccess addr op) s (waiting (.passing (.band b (some obs))) .unused))
      ∧ (s.bands[b].judge b line offset op = .hold → s.bands[b].holdLimit ≠ 0 →
        Leads (.processorAccess addr op) s (waiting (.held (.line b line)) (.running s.bands[b].holdLimit)))
      ∧ (s.bands[b].judge b line offset op = .hold → s.bands[b].holdLimit = 0 → opIsWrite op = true →
        Leads (.processorAccess addr op) s
          ((s.withPassage { s.passage with cpu := none, reply := some ⟨a, none⟩ }).raiseFault
            ⟨.holdExpired, .noReason, .processor, op, a.at, b.val⟩))
      ∧ (s.bands[b].judge b line offset op = .hold → s.bands[b].holdLimit = 0 → opIsWrite op = false →
        Leads (.processorAccess addr op) s
          ((waiting .completing .unused).raiseFault ⟨.holdExpired, .noReason, .processor, op, a.at, b.val⟩)))

/-- ACCESS_HOLD_EXPIRY (R17): a held write is discarded and completes; a held read goes on to complete with the current
contents of memory; HOLD_EXPIRED carries the address, the kind of access and the band number; the even address of a word (log 29). -/
def Obligations.HoldExpiryEndsTheHold : Prop :=
  ∀ (s : State) (x : CpuAccess) (b : Fin 4) (line limit : Nat), s.passage.cpu = some x →
    x.status = .held (.line b line) → x.timer = .running limit →
    (opIsWrite x.acc.op = true → Leads .accessHoldExpiry s
      ((s.withPassage { s.passage with cpu := none, reply := some ⟨x.acc, none⟩ }).raiseFault
        ⟨.holdExpired, .noReason, .processor, x.acc.op, x.acc.at, b.val⟩))
    ∧ (opIsWrite x.acc.op = false → Leads .accessHoldExpiry s
      ((s.withPassage { s.passage with cpu := some ⟨x.acc, .completing, .unused⟩ }).raiseFault
        ⟨.holdExpired, .noReason, .processor, x.acc.op, x.acc.at, b.val⟩))

/-- PROCESSOR_GRANT_END (R1): the access completes towards the processor. A read returns the byte or word of DRAM at its
address, or of ROM at the offset of its path; a write has reached memory, at its own bytes alone. An access given to the
Band Unit makes the observation of its grant (R65): a fill makes line F of an EMIT band FULL, a drain makes line D of a
CAPTURE band EMPTY, the notice test following, and out of turn BAND_ORDER is raised with the address, the access and the
band (R57, R58, R63, R64). A channel that is PAUSED on the band then resumes, which is stated with the pauses. A fill or
drain whose band no longer stands as judged is not made (log 20); the even address of a word is log 29. -/
def Obligations.GrantEndCompletesTheAccess : Prop :=
  ∀ (s : State) (obs : Obs) (x : CpuAccess), s.port.grant = some (.processor obs) → s.passage.cpu = some x →
    (∃ t, exec .processorGrantEnd s = .next t ∧ t.passage.cpu = none ∧ t.port.grant = none
      ∧ ((∀ offset, x.status ≠ .passing (.rom offset)) → t.passage.reply = some ⟨x.acc, match x.acc.op with
          | .readByte => some ((s.dramByte x.acc.at).setWidth 16)
          | .readWord => some (s.dramWord x.acc.at)
          | .writeByte _ => none
          | .writeWord _ => none⟩)
      ∧ (∀ offset, x.status = .passing (.rom offset) → t.passage.reply = some ⟨x.acc, match x.acc.op with
          | .readByte => some ((s.romByte offset).setWidth 16)
          | .readWord => some (s.romWord offset)
          | .writeByte _ => none
          | .writeWord _ => none⟩)
      ∧ t.dram = Memory.writeAll s.dram (match x.acc.op with
          | .readByte => []
          | .readWord => []
          | .writeByte v => [(x.acc.at, v)]
          | .writeWord w => [(x.acc.at, w.extractLsb' 8 8), (x.acc.at + 1, w.extractLsb' 0 8)]))
    ∧ ((∃ b judged, x.status = .passing (.band b judged)) →
      let data : Option Word := match x.acc.op with
        | .readByte => some ((s.dramByte x.acc.at).setWidth 16)
        | .readWord => some (s.dramWord x.acc.at)
        | .writeByte _ => none
        | .writeWord _ => none
      let stored : List Host.Cell := match x.acc.op with
        | .readByte => []
        | .readWord => []
        | .writeByte v => [(x.acc.at, v)]
        | .writeWord w => wordBytes x.acc.at w
      let v := ((s.withDram (Memory.writeAll s.dram stored)).withPort { s.port with grant := none }).withPassage
        { s.passage with cpu := none, reply := some ⟨x.acc, data⟩ }
      (obs = .nothing → Leads .processorGrantEnd s v)
      ∧ (∀ b line, obs = .fill b line → let y := s.bands[b]
        (y.role = .emit → line = y.f → y.c + y.filling < y.lines →
          (∀ p r, s.emitNow = some (p, r) → p.band = b → s.chanP.state ≠ .paused) → Leads .processorGrantEnd s
            (v.withCount b { y with c := y.c + 1, f := (y.f + 1) % y.lines } true))
        ∧ (y.role ≠ .emit ∨ line ≠ y.f ∨ y.lines ≤ y.c → Leads .processorGrantEnd s v))
      ∧ (∀ b line, obs = .drain b line → let y := s.bands[b]
        (y.role = .capture → line = y.d → y.draining < y.c →
          (∀ p r, s.captureNow = some (p, r) → p.band = b → s.chanD.state ≠ .paused) → Leads .processorGrantEnd s
            (v.withCount b { y with c := y.c - 1, d := (y.d + 1) % y.lines } false))
        ∧ (y.role ≠ .capture ∨ line ≠ y.d ∨ y.c = 0 → Leads .processorGrantEnd s v))
      ∧ (∀ b, obs = .bandOrder b → Leads .processorGrantEnd s
        (v.raiseFault ⟨.bandOrder, .noReason, .processor, x.acc.op, x.acc.at, b.val⟩)))

/-- PROCESSOR_GRANT_END of an access that passed plain. A word write to the head of order slot i with state POSTED posts a
FREE slot with the kind written, or raises SLOT_BUSY with the head address; a head of another state is not observed
(R27). With no order in hand the Intake begins to take the slot posted, if it waits and the slot is slot N, or if it is in
DISPATCH_WAIT and the kind is urgent. Its request free and no final write waiting, and none falling due from a mover that
goes on, the body fetch is requested and the slot is FETCHING; with its request in use or a final write waiting the slot
stays POSTED and the intake state stays (R29, R37, R38; log 35). A word read of the head of slot C_r with U above 0 consumes
it and the attention line is recomputed; elsewhere, or with U at 0, nothing is consumed (R43, R47). -/
def Obligations.HeadAccessesAreObserved : Prop :=
  (∀ (s : State) (x : CpuAccess) (i : Nat) (w : Word), s.port.grant = some (.processor .nothing) →
      s.passage.cpu = some x → x.status = .passing .plain → x.acc.op = .writeWord w → s.hasOrders = true →
      i < s.intake.slots.length → x.acc.at = s.slotAddr i →
      let v := (s.endGrant (.processor .nothing)).withPassage { s.passage with cpu := none, reply := some ⟨x.acc, none⟩ }
      (bits w 5 4 = 1 → (s.intake.slot i).state = .free → Leads .processorGrantEnd s
        (v.withIntake { s.intake with
          slots := s.intake.slots.set i { state := .posted, kind := some (w.extractLsb' 8 8), early := false } }))
      ∧ (bits w 5 4 = 1 → (s.intake.slot i).state ≠ .free → Leads .processorGrantEnd s
        (v.raiseFault ⟨.slotBusy, .noReason, .processor, .writeWord w, x.acc.at, 0⟩))
      ∧ (bits w 5 4 ≠ 1 → Leads .processorGrantEnd s v)
      ∧ (bits w 5 4 = 1 → (s.intake.slot i).state = .free → s.intake.inHand = none → ∃ t,
        exec .processorGrantEnd s = .next t
        ∧ (∀ urgent : Bool, (urgent = false ∧ s.intake.state = .waiting ∧ i = s.intake.next
            ∨ urgent = true ∧ s.intake.state = .dispatchWait ∧ i ≠ s.intake.next ∧ s.intake.next < s.intake.slots.length
              ∧ s.intake.urgentSlot = none ∧ (w.extractLsb' 8 8 = kindAbort ∨ w.extractLsb' 8 8 = kindEmitEnd)) →
          t.intake.inHand = some { slot := i, kind := w.extractLsb' 8 8, body := [], urgent := urgent, stage := .fetch }
          ∧ (s.port.intakeReq = none → s.intake.finalWrites = [] → s.moverFree = false →
            (t.intake.slot i).state = .fetching ∧ t.intake.state = .fetching ∧ t.port.intakeReq = some .fetch))
        ∧ (s.port.intakeReq ≠ none ∨ s.intake.finalWrites ≠ [] →
          (t.intake.slot i).state = .posted ∧ t.intake.state = s.intake.state)))
  ∧ (∀ (s : State) (x : CpuAccess), s.port.grant = some (.processor .nothing) → s.passage.cpu = some x →
      x.status = .passing .plain → x.acc.op = .readWord → s.hasReports = true →
      let v := s.freePort.withPassage
        { s.passage with cpu := none, reply := some ⟨x.acc, some (s.dramWord x.acc.at)⟩ }
      (s.reports.unconsumed ≠ [] → x.acc.at = s.reportAddr s.reports.consume → Leads .processorGrantEnd s
        (v.withReports { s.reports with
          consume := (s.reports.consume + 1) % s.reports.count
          unconsumed := s.reports.unconsumed.tail
          attention := s.reports.unconsumed.tail.any fun c => s.reports.mask.getLsbD (classBit c) }))
      ∧ (s.reports.unconsumed = [] ∨ x.acc.at ≠ s.reportAddr s.reports.consume → Leads .processorGrantEnd s v))

/-! ### The Memory Port -/

/-- ARBITER_GRANT (R21 to R23, R65). With DRAM active and no grant in progress, the waiting request of highest claim is
granted, in the order of Table 1-5; while self-refresh is asked only a due refresh is granted (log 24). An access given
to the Band Unit is granted with the observation of its first judgement, or, the state of its line having changed, is
judged again: it passes with the observation then judged, or it is held from this moment, its hold timer carrying on, and
no grant is made; a hold limit of 0 expires at once (R15), its HOLD_EXPIRED with the even address of a word (log 29). A
mover burst is cut before a word then held, and the mover is HELD on it (R65). An access judged again whose address lies
in no band line any more passes plain (log 23). With
DRAM UNSIZED or in SELF_REFRESH only ROM reads of the processor and of the Boot Unit are granted. With a grant in progress
nothing changes (log 2). Which EMPTY print store takes a line is log 28. REFRESH_DUE makes a refresh due when the refresh
timer runs out, and REFRESH_CYCLE_END frees the memory (R22). -/
def Obligations.GrantsFollowTheClaims : Prop :=
  (∀ s : State,
      (s.port.grant ≠ none → exec .arbiterGrant s = .next s)
      ∧ (s.port.grant = none → s.port.dram = .active →
        let none1 := s.port.refreshDue = false ∧ s.port.selfAsked = false
        let none2 := none1 ∧ s.fetchClaim = false
        let none3 := none2 ∧ s.port.captureReq = none
        let none4 := none3 ∧ s.port.procReq = none
        let none5 := none4 ∧ s.port.intakeReq = none
        let none6 := none5 ∧ s.reportClaim = false
        let none7 := none6 ∧ s.port.moverReq = none
        (s.port.refreshDue = true → Leads .arbiterGrant s
          (s.withPort { s.port with refreshDue := false, refreshTimer := true, grant := some .refresh }))
        ∧ (s.port.selfAsked = true → s.port.refreshDue = false → Leads .arbiterGrant s s)
        ∧ (none1 → ∀ p r i, s.port.fetchReq = true → s.emitNow = some (p, r) → s.emit.freeStore = some i →
          ∃ t, exec .arbiterGrant s = .next t ∧ t.port.grant = some (.fetch i)
            ∧ t.bands[p.band] = s.bands[p.band].fetch
            ∧ t.emit.store i = { state := .loading, line := s.bands[p.band].fetchLine, words := [] })
        ∧ (none2 → ∀ i, s.port.captureReq = some i → Leads .arbiterGrant s
          (s.withPort { s.port with captureReq := none, grant := some (.writeBack i) }))
        ∧ (none3 → s.port.procReq = some .wakeWord → Leads .arbiterGrant s
          (s.withPort { s.port with procReq := none, grant := some .wakeWord }))
        ∧ (none3 → ∀ x, s.port.procReq = some .access → s.passage.cpu = some x →
          let v := s.withPort { s.port with procReq := none }
          let granted (obs : Obs) : State := s.withPort { s.port with procReq := none, grant := some (.processor obs) }
          let limit (b : Fin 4) : Nat := match x.timer with
            | .unused => s.bands[b].holdLimit
            | .running l => l
            | .stopped l => l
          (x.status = .passing .plain ∨ (∃ offset, x.status = .passing (.rom offset)) ∨ x.status = .completing →
            Leads .arbiterGrant s (granted .nothing))
          ∧ (∀ b0 obs, x.status = .passing (.band b0 (some obs)) → Leads .arbiterGrant s (granted obs))
          ∧ (∀ b0, x.status = .passing (.band b0 none) →
            (s.bandPlace x.acc.at = none → Leads .arbiterGrant s (granted .nothing))
            ∧ ∀ b line offset, s.bandPlace x.acc.at = some (b, line, offset) →
              (∀ obs, s.bands[b].judge b line offset x.acc.op = .pass obs → Leads .arbiterGrant s (granted obs))
              ∧ (s.bands[b].judge b line offset x.acc.op = .hold → limit b ≠ 0 → Leads .arbiterGrant s (v.withPassage
                { s.passage with cpu := some ⟨x.acc, .held (.line b line), .running (limit b)⟩ }))
              ∧ (s.bands[b].judge b line offset x.acc.op = .hold → limit b = 0 → Leads .arbiterGrant s ((v.withPassage
                (if opIsWrite x.acc.op then { s.passage with cpu := none, reply := some ⟨x.acc, none⟩ }
                  else { s.passage with cpu := some ⟨x.acc, .completing, .unused⟩ })).raiseFault
                    ⟨.holdExpired, .noReason, .processor, x.acc.op, x.acc.at, b.val⟩))))
        ∧ (none4 → ∀ job, s.port.intakeReq = some job → Leads .arbiterGrant s
          (s.withPort { s.port with intakeReq := none, grant := some (.intake job) }))
        ∧ (none5 → s.reports.pending ≠ [] → s.hasReports = true → s.reports.unconsumed.length < s.reports.count →
          Leads .arbiterGrant s (s.withPort { s.port with grant := some .report }))
        ∧ (none6 → ∀ paths n obs, s.port.moverReq = some paths → s.moverCut paths s.mover.next = (n, obs) →
          let granted : State := s.withPort { s.port with
            moverReq := none, grant := if n = 0 then none else some (.mover n obs) }
          (n ≠ 0 → n = paths.length ∨ obs ≠ .nothing → Leads .arbiterGrant s granted)
          ∧ (∀ a b line offset, n < paths.length → obs = .nothing → s.mover.access (s.mover.next + n) = some a →
            s.bandPlace a.at = some (b, line, offset) → Leads .arbiterGrant s (granted.withMover { s.mover with
              state := .held, heldOn := some (b, line), heldWrite := decide (s.mover.state = .writing) })))
        ∧ (none7 → ∀ job, s.bootJob = some job →
          Leads .arbiterGrant s (s.withPort { s.port with grant := some (.boot job) })))
      ∧ (s.port.grant = none → s.port.dram ≠ .active →
        let romRead := ∃ x offset, s.port.procReq = some .access ∧ s.passage.cpu = some x ∧ x.status = .passing (.rom offset)
        let romBurst (job : BootJob) := (∃ offset, job = .header offset) ∨ ∃ offset n, job = .copyRead offset n
        (s.port.selfAsked = false → romRead → Leads .arbiterGrant s
          (s.withPort { s.port with procReq := none, grant := some (.processor .nothing) }))
        ∧ (s.port.selfAsked = false → ¬ romRead → ∀ job, s.bootJob = some job → romBurst job → Leads .arbiterGrant s
          (s.withPort { s.port with grant := some (.boot job) }))
        ∧ (¬ romRead → (∀ job, s.bootJob = some job → ¬ romBurst job) → Leads .arbiterGrant s s)))
  ∧ (∀ s : State,
      (s.port.refreshTimer = true →
        Leads .refreshDue s (s.withPort { s.port with refreshTimer := false, refreshDue := true }))
      ∧ (s.port.refreshTimer = false → exec .refreshDue s = .next s)
      ∧ (s.port.grant = some .refresh → Leads .refreshCycleEnd s (s.withPort { s.port with grant := none }))
      ∧ (s.port.grant ≠ some .refresh → exec .refreshCycleEnd s = .next s))

/-! ### Resets -/

/-- POWER_ON, SUPPLY_FALL, RESET_LINE_RELEASE and HOLD_DELAY_END (R157, R158): the rise of the supply gives every block its
reset values, with DRAM UNSIZED, fill owed and cause POWER-ON; the fall loses all state; DRAM reading as unwritten
afterwards is the model's choice (log 5), and so are the reset values kept while the supply is down (log 27) and that
each changes nothing where it cannot happen (log 2). The release of the reset line starts the delay of HOLD, and its end enters
HEADER; neither changes anything else. -/
def Obligations.SupplyAndLineMoveThePart : Prop :=
  (∀ s : State,
      (s.pins.supply = false → ∃ t, exec .powerOn s = .next t ∧ ResetValues t ∧ t.port.dram = .unsized
        ∧ t.pins = { supply := true, resetLine := s.pins.resetLine, procReset := true, clock := true }
        ∧ t.dram = [] ∧ t.boot.cause = .powerOn ∧ t.boot.fillOwed = true ∧ t.boot.holdDelay = !s.pins.resetLine
        ∧ ∀ x : Fin 6, t.sensors[x].input = s.sensors[x].input)
      ∧ (s.pins.supply = true → ∃ t, exec .supplyFall s = .next t ∧ ResetValues t ∧ t.dram = []
        ∧ t.pins.supply = false ∧ t.boot.holdDelay = false)
      ∧ (s.pins.supply = true → exec .powerOn s = .next s)
      ∧ (s.pins.supply = false → exec .supplyFall s = .next s))
  ∧ (∀ s : State,
      (s.pins.resetLine = true → s.pins.supply = true → s.boot.state = .hold → Leads .resetLineRelease s
        ((s.withPins { s.pins with resetLine := false }).withBoot { s.boot with holdDelay := true }))
      ∧ (s.pins.resetLine = false → exec .resetLineRelease s = .next s)
      ∧ (s.boot.state = .hold → s.boot.holdDelay = true → Leads .holdDelayEnd s
        (s.withBoot { s.boot with state := .header, holdDelay := false, headerWords := [] }))
      ∧ (s.boot.state ≠ .hold ∨ s.boot.holdDelay = false → exec .holdDelayEnd s = .next s))

/-- The reset line and the third lapse (R24, R157, R158, R165): every block takes its reset values; the grant in progress
keeps the word transfers it has made and DRAM, the installed size and fill owed are kept; DRAM in self-refresh is
brought out with a refresh due, else it and its refresh timer stay as they were (log 24); HOLD waits for the line's
release. A line asserted already changes nothing (log 2). -/
def Obligations.ResetsKeepTheDram : Prop :=
  ∀ (s : State) (words : Nat),
    let kept (cause : ResetKind) (t : State) : Prop :=
      ResetValues t ∧ t.pins.clock = true ∧ t.passage.installedMb = s.passage.installedMb ∧ t.boot.cause = cause
      ∧ t.boot.fillOwed = s.boot.fillOwed ∧ (∀ x : Fin 6, t.sensors[x].input = s.sensors[x].input)
      ∧ (s.port.grant = none → t.dram = s.dram)
      ∧ (∀ g, s.port.grant = some g → t.dram = Memory.writeAll s.dram ((s.grantTransfers g).take words).flatten)
      ∧ (s.port.dram ≠ .selfRefresh → t.port.dram = s.port.dram ∧ t.port.refreshTimer = s.port.refreshTimer)
      ∧ (s.port.dram = .selfRefresh → t.port.dram = .active ∧ t.port.refreshTimer = true ∧ t.port.refreshDue = true)
    (s.pins.resetLine = false → s.pins.supply = true → ∃ t, exec (.resetLineAssert words) s = .next t
      ∧ kept .resetLine t ∧ t.pins.resetLine = true ∧ t.boot.holdDelay = false)
    ∧ (s.pins.resetLine = true → exec (.resetLineAssert words) s = .next s)
    ∧ (s.power.state = .wakeConfirm → s.power.confirmTimer.isSome → 2 ≤ s.power.lapse →
      ∃ t, exec (.confirmTimerExpiry words) s = .next t ∧ kept .lapse t ∧ t.boot.holdDelay = !s.pins.resetLine)

/-- RESTART is executed without a check; its final write puts DONE with the result OK in its head and changes no other
byte, and then the part is reset with the cause RESTART, DRAM and the installed size kept (R32, R165). -/
def Obligations.RestartResetsAfterItsFinalWrite : Prop :=
  ∀ (s : State) (h : InHand),
    (s.orderInHand kindRestart = some h → Leads .restart s
      (s.withIntake { s.intake with inHand := some { h with stage := .ending .ok }, state := .executing }))
    ∧ (s.intake.inHand = some h → h.kind = kindRestart → s.port.grant = some (.intake (.own .ok)) → Memory.wf s.dram →
      ∃ t, exec .finalWriteEnd s = .next t ∧ ResetValues t ∧ t.boot.cause = .restart
        ∧ t.boot.fillOwed = s.boot.fillOwed ∧ t.passage.installedMb = s.passage.installedMb
        ∧ t.dramWord (s.slotAddr h.slot) = orderHead kindRestart .done .ok
        ∧ ∀ a, a ≠ s.slotAddr h.slot → a ≠ s.slotAddr h.slot + 1 → t.dramByte a = s.dramByte a)

/-! ### Boot -/

/-- HEADER_READ_END with a good and usable header (R7, R159, R161): the installed size, the image length, the slot counts
and the attention mask are taken; the Window Table is legal. In the order 0 to 7 an entry that the header does not give as
OFF, whose kind its number may have, whose slots fit and whose range keeps the limits of R7 against the image and the
entries loaded before it, is loaded with its kind, base, length and band number; every other entry is OFF, and those that
the header did not give as OFF are counted. DRAM becomes ACTIVE; FILL follows where it is owed, else COPY. The words that
a read may find changed are the model's operand (log 8). -/
def Obligations.GoodHeadersSetUpTheMachine : Prop :=
  ∀ (s : State) (offset : Nat) (m : Misread),
    let ws := s.boot.headerWords ++ misreadWords m (s.romWords offset 16)
    let h := headerOf ws
    s.port.grant = some (.boot (.header offset)) → s.boot.headerWords.length = 48 → headerGood ws = true →
    h.usable = true → s.passage.mode = .noOverlay → (∀ e : Fin 8, s.windows[e].kind = .off) → s.boot.outcome = none →
    ∃ t, exec (.headerReadEnd m) s = .next t ∧ WindowsLegal t ∧ t.passage.installedMb = h.dramMb
      ∧ t.passage.imageLength = h.imageLength ∧ t.reports.mask = h.mask ∧ t.boot.header = some h
      ∧ t.boot.headerAttempts = s.boot.headerAttempts + 1
      ∧ (∀ e : Fin 8, t.windows[e].kind ≠ .off →
        t.windows[e].base = h.entries[e].base ∧ t.windows[e].length = h.entries[e].length ∧ h.entries[e].kind ≠ 0)
      ∧ (∀ e : Fin 8,
        let x := h.entries[e]
        let suits := if e = 0 then x.kind = 3 ∧ 4 ≤ h.orderSlots ∧ h.orderSlots ≤ 64 ∧ 16 * h.orderSlots ≤ x.length
          else if e = 1 then x.kind = 4 ∧ 4 ≤ h.reportSlots ∧ h.reportSlots ≤ 128 ∧ 16 * h.reportSlots ≤ x.length
          else x.kind = 1 ∨ x.kind = 2
        let within := x.base % 256 = 0 ∧ x.length % 256 = 0 ∧ 256 ≤ x.length ∧ x.length ≤ 0x800000
          ∧ x.base + x.length ≤ h.dramMb * 0x100000 ∧ h.imageLength ≤ x.base
          ∧ ∀ j : Fin 8, j < e → t.windows[j].kind ≠ .off →
            x.base + x.length ≤ t.windows[j].base ∨ t.windows[j].base + t.windows[j].length ≤ x.base
        (suits → within → t.windows[e] =
          { kind := if x.kind = 1 then .guard else if x.kind = 2 then .band else if x.kind = 3 then .orders else .reports
            base := x.base, length := x.length, band := if x.kind = 2 then x.band else 0 })
        ∧ (¬ (suits ∧ within) → t.windows[e].kind = .off))
      ∧ t.boot.entriesOff = ((List.finRange 8).filter fun e => h.entries[e].kind ≠ 0 && t.windows[e].kind = .off).length
      ∧ (t.hasOrders = true → t.intake.slots = List.replicate h.orderSlots SlotRecord.reset
        ∧ 4 ≤ h.orderSlots ∧ h.orderSlots ≤ 64 ∧ 16 * h.orderSlots ≤ t.windows[0].length)
      ∧ (t.hasReports = true → t.reports.count = h.reportSlots
        ∧ 4 ≤ h.reportSlots ∧ h.reportSlots ≤ 128 ∧ 16 * h.reportSlots ≤ t.windows[1].length)
      ∧ (s.port.dram = .unsized → t.port.dram = .active ∧ t.port.refreshDue = true ∧ t.port.refreshTimer = true)
      ∧ (s.boot.fillOwed = true → t.boot.state = .fill ∧ t.boot.pos = 0)
      ∧ (s.boot.fillOwed = false → t.boot.state = .copy ∧ t.boot.pos = 0 ∧ t.boot.crc = 0xFFFF)

/-- HEADER_READ_END with a header that is not good is read again from its first word; after the eighth such read, or with
a good header whose memory values are out of range, the defaults of NO_HEADER are applied (R159, R161). The words that a
read may find changed are the model's operand (log 8). A header is good with the signature 3140h in word 0 and the CRC of
words 0 to 61 in word 62; the CRC takes each byte, the more significant of a word first, into the upper eight bits and
shifts eight times (R160). It is usable with a size of 1 to 8 MB, an even image length, not 0, that leaves the last 16
bytes of DRAM free, and an even image ROM offset from which the image ends within 2 MB (R161). -/
def Obligations.BadHeadersGiveTheDefaults : Prop :=
  (∀ (s : State) (offset : Nat) (m : Misread),
    let ws := s.boot.headerWords ++ misreadWords m (s.romWords offset 16)
    s.port.grant = some (.boot (.header offset)) → 48 ≤ s.boot.headerWords.length →
    (headerGood ws = false → s.boot.headerAttempts + 1 < 8 → Leads (.headerReadEnd m) s
      (s.freePort.withBoot { s.boot with headerAttempts := s.boot.headerAttempts + 1, headerWords := [] }))
    ∧ (headerGood ws = false ∧ 8 ≤ s.boot.headerAttempts + 1 ∨ headerGood ws = true ∧ (headerOf ws).usable = false →
      ∃ t, exec (.headerReadEnd m) s = .next t ∧ t.boot.outcome = some .noHeader ∧ t.boot.header = none
        ∧ t.boot.headerAttempts = s.boot.headerAttempts + 1 ∧ t.boot.entriesOff = 0 ∧ t.passage.installedMb = 1
        ∧ (∀ e : Fin 8, t.windows[e].kind = .off) ∧ t.reports.mask = BitVec.allOnes 6
        ∧ (s.port.dram = .unsized → t.port.dram = .active ∧ t.port.refreshDue = true ∧ t.port.refreshTimer = true)
        ∧ t.boot.state = if s.boot.fillOwed then .fill else .release))
  ∧ (∀ ws : List Word,
      (headerGood ws = true ↔ ws.getD 0 0 = 0x3140 ∧ crcWords 0xFFFF (ws.take 62) = ws.getD 62 0)
      ∧ (let h := headerOf ws
        h.usable = true ↔ (1 ≤ h.dramMb ∧ h.dramMb ≤ 8) ∧ (h.imageLength % 2 = 0 ∧ h.imageLength ≠ 0
          ∧ h.imageLength + 16 ≤ h.dramMb * 0x100000) ∧ h.imageOffset % 2 = 0
          ∧ h.imageOffset + h.imageLength ≤ 0x200000))
  ∧ (∀ (c w : Word) (b : Byte) (rest : List Word),
      crcWords c [] = c ∧ crcWords c (w :: rest)
        = crcWords (crcByte (crcByte c (w.extractLsb' 8 8)) (w.extractLsb' 0 8)) rest
      ∧ crcByte c b = (List.range 8).foldl (fun r _ => if r.getLsbD 15 then (r <<< 1) ^^^ 0x1021 else r <<< 1)
        (c ^^^ (b.setWidth 16 <<< 8)))

/-- BOOT_BURST_END, FILL_END and COPY_ATTEMPT_END (R159, R162, R163): a header burst adds its words to those in hand; a fill
burst writes 16 words of 0000h; a copy read takes its words into the running CRC and the burst buffer; a copy write puts
them in DRAM. After the last word of the fill, fill owed is cleared and COPY or, for NO_HEADER, RELEASE follows; after
the last write of an attempt the CRC decides: SHADOW, a fresh attempt, or CHECK_FAILED at the eighth. The burst asked is,
in HEADER, the next 16 words from ROM offset 1FFF80h on; in FILL the next words of DRAM from 000000h on; in COPY a read of
at most 16 words at the image ROM offset plus the place reached, then their write at that place from 000000h on; in
RELEASE the boot record (R159, R162 to R164). -/
def Obligations.BootBurstsReadAndWrite : Prop :=
  (∀ s : State, let b := s.boot
      (b.state = .header → s.bootJob = some (.header (0x1FFF80 + 2 * b.headerWords.length)))
      ∧ (b.state = .fill → s.bootJob = some (.fill b.pos))
      ∧ (∀ h, b.state = .copy → b.header = some h →
        (b.buffer = [] → s.bootJob = some (.copyRead (h.imageOffset + b.pos) (min 16 ((h.imageLength - b.pos) / 2))))
        ∧ (b.buffer ≠ [] → s.bootJob = some (.copyWrite b.pos b.buffer)))
      ∧ (b.state = .release → s.bootJob = some .record)
      ∧ (b.state = .hold ∨ b.state = .config ∨ b.state = .done → s.bootJob = none))
  ∧ (∀ (s : State) (m : Misread),
      (∀ offset, s.port.grant = some (.boot (.header offset)) → s.boot.headerWords.length < 48 → Leads (.bootBurstEnd m) s
        ((s.withPort { s.port with grant := none }).withBoot
          { s.boot with headerWords := s.boot.headerWords ++ misreadWords m (s.romWords offset 16) }))
      ∧ (∀ a, s.port.grant = some (.boot (.fill a)) → s.boot.pos + 32 < s.installed → Leads (.bootBurstEnd m) s
        (((s.store (wordTransfers a (List.replicate 16 0)).flatten).withPort { s.port with grant := none }).withBoot
          { s.boot with pos := s.boot.pos + 32 }))
      ∧ (∀ offset n, s.port.grant = some (.boot (.copyRead offset n)) →
        let ws := misreadWords m (s.romWords offset n)
        Leads (.bootBurstEnd m) s ((s.withPort { s.port with grant := none }).withBoot
          { s.boot with buffer := ws, crc := crcWords s.boot.crc ws }))
      ∧ (∀ a ws h, s.port.grant = some (.boot (.copyWrite a ws)) → s.boot.header = some h →
        s.boot.pos + 2 * s.boot.buffer.length < h.imageLength → Leads (.bootBurstEnd m) s
          (((s.store (wordTransfers a ws).flatten).withPort { s.port with grant := none }).withBoot
            { s.boot with pos := s.boot.pos + 2 * ws.length, buffer := [] })))
  ∧ (∀ s : State,
      (∀ a, s.port.grant = some (.boot (.fill a)) → s.installed ≤ s.boot.pos + 32 →
        let v := (s.store (wordTransfers a (List.replicate 16 0)).flatten).withPort { s.port with grant := none }
        Leads .fillEnd s (v.withBoot (if s.boot.outcome = some .noHeader
          then { s.boot with fillOwed := false, state := .release, pos := 0, buffer := [] }
          else { s.boot with fillOwed := false, state := .copy, pos := 0, buffer := [], crc := 0xFFFF })))
      ∧ (∀ a ws h, s.port.grant = some (.boot (.copyWrite a ws)) → s.boot.header = some h →
        h.imageLength ≤ s.boot.pos + 2 * s.boot.buffer.length →
        let v := (s.store (wordTransfers a ws).flatten).withPort { s.port with grant := none }
        let b := { s.boot with copyAttempts := s.boot.copyAttempts + 1, pos := 0, buffer := [] }
        (s.boot.crc = h.imageCrc →
          Leads .copyAttemptEnd s (v.withBoot { b with outcome := some .shadow, state := .release }))
        ∧ (s.boot.crc ≠ h.imageCrc → s.boot.copyAttempts + 1 < 8 →
          Leads .copyAttemptEnd s (v.withBoot { b with state := .copy, crc := 0xFFFF }))
        ∧ (s.boot.crc ≠ h.imageCrc → 8 ≤ s.boot.copyAttempts + 1 →
          Leads .copyAttemptEnd s (v.withBoot { b with outcome := some .checkFailed, state := .release }))))

/-- BOOT_RELEASE (R4, R164): the boot record stands in the last 16 bytes of installed DRAM, the overlay is set from the
outcome, the BOOT RECORD report enters an empty pending queue, and the processor is released. -/
def Obligations.ReleaseSetsTheOverlay : Prop :=
  ∀ (s : State) (length : Nat), s.port.grant = some (.boot .record) →
    ((s.boot.outcome = some .shadow ∨ s.boot.outcome = some .checkFailed)
        ∧ s.boot.header.map (·.imageLength) = some length
      ∨ s.boot.outcome = some .noHeader ∧ length = 0x10000) →
    let b := s.boot
    let record : List Word :=
      [wordNat (b.cause.code + (b.outcome.map BootOutcome.code).getD 0 * 256),
       wordNat (b.headerAttempts + b.copyAttempts * 256), wordNat b.entriesOff, wordNat (length / 65536 % 32),
       wordNat length, 0, 0, 0]
    ∃ t, exec .bootRelease s = .next t ∧ t.pins.procReset = false ∧ t.boot = { b with state := .done }
      ∧ (∀ h, b.outcome = some .shadow → b.header = some h →
        t.passage.mode = .shadow ∧ t.passage.imageLength = h.imageLength ∧ t.passage.guard = h.guard)
      ∧ (∀ h, b.outcome = some .checkFailed → b.header = some h → t.passage.mode = .romDirect
        ∧ t.passage.overlayLength = h.imageLength ∧ t.passage.overlayBase = h.imageOffset ∧ t.passage.guard = false)
      ∧ (b.outcome = some .noHeader → t.passage.mode = .romDirect ∧ t.passage.overlayLength = 0x10000
        ∧ t.passage.overlayBase = 0 ∧ t.passage.guard = false)
      ∧ t.dram = Memory.writeAll s.dram (wordTransfers (s.installed - 16) record).flatten
      ∧ (s.hasReports = true → s.reports.pending = [] →
        [⟨.boot, 1, record.take 5 ++ [0, 0]⟩] <+: t.reports.pending)

/-! ### The Order Intake -/

/-- BODY_FETCH_END and TAKEN_WRITE_END (R30): the seven body words are in hand; then the head reads TAKEN, and the order
awaits its own checks, or ends REFUSED_KIND where its kind names no order. Notice goes to the Power Unit: a sleep that
is pending ends CANCELLED, its rest read released and its final write owed (R147); a wake that awaits its confirmation
is confirmed (R151); a return to sleep is given up (R152); a notice during the wake steps is kept (R149). That a notice
ends a sleep also while its entry is under way, the ask for self-refresh withdrawn, is the model's reading (log 16). -/
def Obligations.TakenOrdersAreInHand : Prop :=
  (∀ (s : State) (h : InHand), s.intake.inHand = some h →
      (s.port.grant = some (.intake .fetch) → Leads .bodyFetchEnd s
        ((s.withPort { s.port with grant := none }).withIntake { s.intake with
          inHand := some { h with body := s.dramWords (s.slotAddr h.slot + 2) 7, stage := .taken } }))
      ∧ (s.port.grant = some (.intake .taken) → s.power.state = .running → Leads .takenWriteEnd s
        (((s.store (wordBytes (s.slotAddr h.slot) (orderHead h.kind .taken .ok))).withPort
          { s.port with grant := none }).withIntake { s.intake with
            inHand := some { h with stage := if h.kind ∈ knownKinds then .validate else .ending .refusedKind } })))
  ∧ (∀ (s : State) (h : InHand), s.intake.inHand = some h → s.port.grant = some (.intake .taken) →
      let awake := { Power.reset with wakeWrites := s.power.wakeWrites }
      (∀ w, s.power.state = .sleepPending → s.power.settings = some w → ∃ t, exec .takenWriteEnd s = .next t
        ∧ t.power = awake ∧ t.port.selfAsked = false
        ∧ (⟨.sleep, w.slot, kindSleep, .cancelled⟩ ∈ t.intake.finalWrites
          ∨ t.port.intakeReq = some (.final ⟨.sleep, w.slot, kindSleep, .cancelled⟩))
        ∧ ∀ x, t.passage.cpu = some x → x.status ≠ .held .rest)
      ∧ (s.power.state = .wakeConfirm → s.power.stage = .confirming → ∃ t, exec .takenWriteEnd s = .next t
        ∧ t.power = awake)
      ∧ (s.power.state = .wakeConfirm →
        s.power.stage = .stopClock ∨ s.power.stage = .postReports ∨ s.power.stage = .awaitRefresh →
        ∃ t, exec .takenWriteEnd s = .next t ∧ t.power = awake ∧ t.pins.clock = true ∧ t.port.selfAsked = false
          ∧ (s.port.dram = .selfRefresh → t.port.dram = .active ∧ t.port.refreshDue = true))
      ∧ (s.power.state = .wakeConfirm → s.power.stage = .waking → ∃ t, exec .takenWriteEnd s = .next t
        ∧ t.power = { s.power with noticeKept := true }))

/-- FINAL_WRITE_END (R31, R32, R35 to R38, R147, R149): the head reads DONE with the result and the slot is FREE. After
an order taken in turn N moves on by one; after one taken out of turn its slot has the early mark and N stays. An ended
queued order leaves its queue, and the oldest waiting order becomes the running one; a marked one ends ABORTED at once
with figures of 0 and does not start (R36, R39; an EMIT's end reason among them is log 22). Room being made so, the
order in the dispatch place bound for that queue enters it, N advances, and the Intake is WAITING, or takes slot N if
that is POSTED; it completes an urgent order in hand first. One bound for another queue that is full stays (R33, R38).
With an empty dispatch place the Intake takes slot N, if it is POSTED, after an order taken in turn, and asks its body
fetch, its request free and no final write waiting or falling due from a mover that goes on (R29, R37); a processor
access held on the slot that becomes FREE is released and judged again (R16). The queues are legal, as O3 has every step
keep them. -/
def Obligations.FinalWritesFreeTheSlot : Prop :=
  (∀ (s : State) (h : InHand) (r : Result), s.intake.inHand = some h → s.port.grant = some (.intake (.own r)) →
      (h.kind ≠ kindRestart ∨ r ≠ .ok) → (∀ i, (s.intake.slot i).early = false) →
      (∀ x, s.passage.cpu = some x → x.status ≠ .held (.slot h.slot)) →
      let v := (s.store (wordBytes (s.slotAddr h.slot) (orderHead h.kind .done r))).withPort { s.port with grant := none }
      let freed (early : Bool) (next : Nat) : Intake := { s.intake with
        slots := s.intake.slots.set h.slot { s.intake.slot h.slot with state := .free, early := early }
        inHand := none
        state := if s.intake.dispatch.isSome then .dispatchWait else .waiting
        next := next }
      (h.urgent = false → Leads .finalWriteEnd s (v.withIntake (freed false ((s.intake.next + 1) % s.intake.slots.length))))
      ∧ (h.urgent = true → s.intake.next ≠ h.slot → Leads .finalWriteEnd s (v.withIntake (freed true s.intake.next)))
      ∧ (∀ k, let n := (s.intake.next + 1) % s.intake.slots.length
        h.urgent = false → s.hasOrders = true → s.intake.dispatch = none → s.intake.finalWrites = [] →
        s.port.intakeReq = none → s.moverFree = false → n ≠ h.slot → n < s.intake.slots.length → (s.intake.slot n).state = .posted →
        (s.intake.slot n).kind = some k → ∃ t, exec .finalWriteEnd s = .next t
          ∧ t.intake.inHand = some { slot := n, kind := k, body := [], urgent := false, stage := .fetch }
          ∧ (t.intake.slot n).state = .fetching ∧ t.intake.state = .fetching ∧ t.port.intakeReq = some .fetch))
  ∧ (∀ (s : State) (h : InHand) (r : Result) (x : CpuAccess), s.intake.inHand = some h →
      s.port.grant = some (.intake (.own r)) → (h.kind ≠ kindRestart ∨ r ≠ .ok) → h.slot < s.intake.slots.length →
      s.passage.cpu = some x → x.status = .held (.slot h.slot) → s.classify .processor x.acc = .hold (.slot h.slot) →
      ∃ t, exec .finalWriteEnd s = .next t
        ∧ t.passage.cpu.map (fun y => (y.acc, y.status)) = some (x.acc, .passing .plain))
  ∧ (∀ (s : State) (w : FinalWrite), s.port.grant = some (.intake (.final w)) →
      (w.owner = .sleep → Leads .finalWriteEnd s
        (((s.store (wordBytes (s.slotAddr w.slot) (orderHead w.kind .done w.result))).withPort
          { s.port with grant := none }).withIntake
            { s.intake with slots := s.intake.slots.set w.slot { s.intake.slot w.slot with state := .free } }))
      ∧ (∀ q ro, w.owner = .queue q → s.running q = some ro → ro.stage = .entered → ∃ t,
        exec .finalWriteEnd s = .next t
          ∧ t.dram = Memory.writeAll s.dram (wordBytes (s.slotAddr w.slot) (orderHead w.kind .done w.result))
          ∧ (t.intake.slot ro.order.slot).state = .free
          ∧ ((s.intake.queue q).waiting = [] → s.intake.dispatch = none → t.running q = none)
          ∧ ∀ o rest, (s.intake.queue q).waiting = o :: rest →
            ((t.running q).map (·.order) = some o ∧ rest <+: (t.intake.queue q).waiting)
            ∧ (o.marked = true → QueuesLegal s →
              (t.running q).map (fun y => (y.result, y.figures)) = some (.aborted, [])
              ∧ (s.hasReports = true → s.reports.pending.length < 8 →
                (∀ p r, s.emitNow = some (p, r) → s.chanP.state ≠ .paused) →
                s.reports.pending ++ [⟨.order, 1, [wordNat (o.slot + o.kind.toNat * 256), 1, 0, 0, 0, 0, 0]⟩]
                  <+: t.reports.pending))
            ∧ (∀ x, s.intake.dispatch = some x → QueuesLegal s → (∀ i, (s.intake.slot i).early = false) →
              let n := (s.intake.next + 1) % s.intake.slots.length
              (x.work.queue = q → rest.length < 4 → (t.intake.queue q).waiting = rest ++ [x]
                ∧ t.intake.dispatch = none ∧ t.intake.next = n
                ∧ (s.intake.inHand = none → (s.intake.slot n).state ≠ .posted →
                  t.intake.state = .waiting ∧ t.intake.inHand = none)
                ∧ (s.intake.inHand = none → s.hasOrders = true → n ≠ ro.order.slot → (s.intake.slot n).state = .posted →
                  t.intake.inHand.map (fun h => (h.slot, h.stage)) = some (n, .fetch))
                ∧ (∀ h, s.intake.inHand = some h → t.intake.inHand = some h
                  ∧ (h.stage ≠ .fetch → t.intake.state = s.intake.state)))
              ∧ (x.work.queue ≠ q → 4 ≤ (s.intake.queue x.work.queue).waiting.length →
                t.intake.dispatch = some x ∧ t.intake.next = s.intake.next ∧ (t.intake.queue q).waiting = rest))))

/-- The pointer N (R35): it moves on by one, and past each slot with the early mark, whose mark is cleared, to the first
slot without one. -/
def Obligations.PointerPassesMarkedSlots : Prop :=
  ∀ (i : Intake) (k : Nat), let n := i.slots.length
    i.next < n → k < n → (∀ j, j < k → (i.slot ((i.next + 1 + j) % n)).early = true) →
    (i.slot ((i.next + 1 + k) % n)).early = false →
    i.advanceN.next = (i.next + 1 + k) % n
      ∧ ∀ m, i.advanceN.slot m = if ∃ j, j < k ∧ m = (i.next + 1 + j) % n then { i.slot m with early := false }
        else i.slot m

/-! ### Immediate orders -/

/-- SET_WINDOW and CLEAR_WINDOW (R7, R11, R12): an entry below 2 or above 7, an unknown kind, a range beyond the four limits
of R7 or a band number above 3 is refused with REFUSED_PARAM, an entry whose band is in use with REFUSED_STATE; else the
entry takes its new value. The band that it served is unmapped: its role is OFF, the processor's access and the mover's
word held on it are cancelled, each with its HOLD_CANCELLED, and its waiting BAND NOTICE is discarded (R18, R68); an
access that waits for its grant is to be judged again (log 23). Where it served none, nothing else changes. -/
def Obligations.WindowOrdersAreJudged : Prop :=
  (∀ (s : State) (h : InHand) (c : Instr) (k : Byte), (c = .setWindow ∧ k = kindSetWindow ∨ c = .clearWindow ∧ k = kindClearWindow) →
      s.orderInHand k = some h →
      let w1 := bodyWord h.body 1
      let kind := if c = .setWindow then bits w1 11 8 else 0
      let base := (bodyWord h.body 2).toNat * 256
      let length := (bodyWord h.body 3).toNat * 256
      let ended (r : Result) : State := s.withIntake { s.intake with inHand := some { h with stage := .ending r } }
      (bits w1 7 0 < 2 ∨ 7 < bits w1 7 0 ∨ 2 < kind → Leads c s (ended .refusedParam))
      ∧ (∀ e : Fin 8, 2 ≤ e.val → bits w1 7 0 = e.val →
        (kind = 1 ∨ kind = 2 → s.rangeOk e base length = false → Leads c s (ended .refusedParam))
        ∧ (kind = 2 → 3 < bits w1 15 12 → Leads c s (ended .refusedParam))
        ∧ (kind = 0 ∨ (kind = 1 ∨ kind = 2 ∧ bits w1 15 12 ≤ 3) ∧ s.rangeOk e base length = true →
          let new : Window :=
            if kind = 0 then Window.none
            else if kind = 1 then { kind := .guard, base := base, length := length, band := 0 }
            else { kind := .band, base := base, length := length, band := Fin.ofNat 4 (bits w1 15 12) }
          (∀ b, s.entryBand e = some b → s.bandInUse b = true → Leads c s (ended .refusedState))
          ∧ (s.entryBand e = none → Leads c s
            (((ended .ok).withWindows (s.windows.set e new)).withIntake { (ended .ok).intake with state := .executing }))
          ∧ (∀ b, s.entryBand e = some b → s.bandInUse b = false → ∃ t, exec c s = .next t
            ∧ t.windows = s.windows.set e new ∧ t.bands = s.bands.set b { s.bands[b] with role := .off }
            ∧ ¬ t.HeldOn b ∧ t.intake.inHand = some { h with stage := .ending .ok })
          ∧ (∀ b, s.entryBand e = some b → s.bandInUse b = false →
            let v := ((((s.withWindows (s.windows.set e new)).withNewBand b { s.bands[b] with role := .off }).cancelHolds
              b).dropNotice b)
            Leads c s
              (v.withIntake { v.intake with inHand := some { h with stage := .ending .ok }, state := .executing })
            ∧ v.noticeWaits b = false ∧ ¬ v.HeldOn b ∧ ∀ line, v.mover.state = .held → v.mover.heldOn ≠ some (b, line)))))
  ∧ (∀ (s : State) (e : Fin 8) (base length : Nat), s.rangeOk e base length = true ↔
      (base % 256 = 0 ∧ length % 256 = 0) ∧ (256 ≤ length ∧ length ≤ 0x800000) ∧ base + length ≤ s.installed
        ∧ (∀ j : Fin 8, j ≠ e → s.windows[j].kind ≠ .off →
          base + length ≤ s.windows[j].base ∨ s.windows[j].base + s.windows[j].length ≤ base)
        ∧ (match s.passage.mode with
          | .romDirect => s.passage.overlayLength
          | .shadow => s.passage.imageLength
          | .noOverlay => s.passage.imageLength) ≤ base)

/-- The ends of the holds on a band. A cancellation (R18): a held write is discarded and completes, a held read goes on to
complete with the current contents of memory, a held mover word is passed over, at the end of the mover's own grant where
one is in progress (R65, R139); each raises one HOLD_CANCELLED, the processor's first (log 12) and with the even address
of a word (log 29); an access not held on the band is not touched. A release (R16, R66): the mover goes on at its word,
and the processor's access is judged again and passes, or is held anew with its timer carrying on. -/
def Obligations.CancellationsEndHolds : Prop :=
  ∀ (s : State) (b : Fin 4),
    let fault (who : Requester) (op : AccessOp) (a : Nat) : PassageFault := ⟨.holdCancelled, .noReason, who, op, a, b.val⟩
    let m := s.mover
    (∀ x line, s.passage.cpu = some x → x.status = .held (.line b line) →
      s.cancelCpu b = (s.withPassage (if opIsWrite x.acc.op
          then { s.passage with cpu := none, reply := some ⟨x.acc, none⟩ }
          else { s.passage with cpu := some ⟨x.acc, .completing, .unused⟩ })).raiseFault
        (fault .processor x.acc.op x.acc.at))
    ∧ (¬ s.HeldOn b → s.cancelCpu b = s)
    ∧ (∀ line, m.state = .held → m.heldOn = some (b, line) → (∀ n obs, s.port.grant ≠ some (.mover n obs)) →
      s.cancelMover b = (if m.heldWrite
        then (s.withMover { m with state := .writing, heldOn := none, next := m.next + 1 }).raiseFault
          (fault .mover (.writeWord 0) (m.destAddr m.next))
        else (s.withMover { m with state := .reading, heldOn := none, next := m.next + 1,
                                   buffer := m.buffer ++ [none] }).raiseFault
          (fault .mover .readWord (m.sourceAddr m.next))))
    ∧ (∀ line n obs, m.state = .held → m.heldOn = some (b, line) → s.port.grant = some (.mover n obs) →
      s.cancelMover b = (s.withMover { m with
        state := if m.heldWrite then .writing else .reading, heldOn := none, passOver := true }).raiseFault
          (if m.heldWrite then fault .mover (.writeWord 0) (m.destAddr (m.next + n))
            else fault .mover .readWord (m.sourceAddr (m.next + n))))
    ∧ ((m.state = .held → ∀ line, m.heldOn ≠ some (b, line)) → s.cancelMover b = s)
    ∧ s.cancelHolds b = (s.cancelCpu b).cancelMover b
    ∧ (∀ line, m.state = .held → m.heldOn = some (b, line) → (s.releaseLine b line).mover
      = { m with state := if m.heldWrite then .writing else .reading, heldOn := none })
    ∧ (∀ line, (m.state = .held → m.heldOn ≠ some (b, line)) → (s.releaseLine b line).mover = m)
    ∧ (∀ x line limit, s.passage.cpu = some x → x.status = .held (.line b line) → x.timer = .running limit →
      (∀ path, s.classify .processor x.acc = .pass path →
        (s.releaseLine b line).passage.cpu = some ⟨x.acc, .passing path, .stopped limit⟩)
      ∧ (∀ b' line', s.classify .processor x.acc = .hold (.line b' line') → limit ≠ 0 →
        (s.releaseLine b line).passage.cpu = some ⟨x.acc, .held (.line b' line'), .running limit⟩))
    ∧ (∀ line, (∀ x, s.passage.cpu = some x → x.status ≠ .held (.line b line)) →
      (s.releaseLine b line).passage = s.passage)

/-- SET_BAND (R69): a band above 3, a role that does not exist or a field out of its range is refused with REFUSED_PARAM, a
band in use with REFUSED_STATE; else the accesses held on the band are cancelled, its waiting notice is discarded, and
the record takes the fields with its marks and counts at 0 and the notice armed. An access of the band that waits for its
grant is to be judged again (log 23). -/
def Obligations.SetBandMakesTheRecord : Prop :=
  ∀ (s : State) (h : InHand), s.orderInHand kindSetBand = some h →
    let w := bodyWord h.body
    let role := bits (w 1) 11 8
    let e := bits (w 1) 15 12
    let ended (r : Result) : State := s.withIntake { s.intake with inHand := some { h with stage := .ending r } }
    (3 < bits (w 1) 7 0 ∨ 3 < role → Leads .setBand s (ended .refusedParam))
    ∧ (∀ b : Fin 4, bits (w 1) 7 0 = b.val → role ≤ 3 →
      let fits := ∃ x : Fin 8, 2 ≤ x.val ∧ x.val = e ∧ s.windows[x].kind = .band ∧ s.windows[x].band = b
        ∧ ((w 2).toNat % 2 = 0 ∧ 32 ≤ (w 2).toNat ∧ (w 2).toNat ≤ 512)
        ∧ ((w 3).toNat % 2 = 0 ∧ 16 ≤ (w 3).toNat ∧ (w 3).toNat ≤ 256 ∧ (w 3).toNat ≤ (w 2).toNat)
        ∧ (2 ≤ (w 4).toNat ∧ (w 4).toNat ≤ 1024 ∧ (w 4).toNat * (w 2).toNat ≤ s.windows[x].length)
        ∧ (w 6).toNat ≤ (w 4).toNat
      let done (x : Band) : State :=
        let v := ((s.cancelHolds b).dropNotice b).withNewBand b x
        v.withIntake { v.intake with inHand := some { h with stage := .ending .ok }, state := .executing }
      (role ≠ 0 → ¬ fits → Leads .setBand s (ended .refusedParam))
      ∧ (role = 0 ∨ fits → s.bandInUse b = true → Leads .setBand s (ended .refusedState))
      ∧ (role = 0 → s.bandInUse b = false → Leads .setBand s (done Band.reset))
      ∧ (role ≠ 0 → fits → s.bandInUse b = false → Leads .setBand s (done
        { Band.reset with
          role := if role = 1 then .capture else if role = 2 then .emit else .copy
          entry := some (Fin.ofNat 8 e), pitch := (w 2).toNat, width := (w 3).toNat, lines := (w 4).toNat
          holdLimit := bits (w 5) 7 0, noticeLevel := (w 6).toNat })))

/-- RESET_BAND (R70): a band above 3 is refused with REFUSED_PARAM, a band in use with REFUSED_STATE. Else, whatever the
band's role, the accesses held on the band are cancelled, its waiting notice is discarded, F, D, C and the two counts
become 0 and the notice is armed; role, window entry and geometry are kept, every line is EMPTY, and the result is
OK. That an access of the band that waits for its grant is to be judged again is the model's reading (log 23). -/
def Obligations.ResetBandBeginsAPage : Prop :=
  ∀ (s : State) (h : InHand), s.orderInHand kindResetBand = some h →
    let n := bits (bodyWord h.body 1) 7 0
    let ended (r : Result) : State := s.withIntake { s.intake with inHand := some { h with stage := .ending r } }
    (3 < n → Leads .resetBand s (ended .refusedParam))
    ∧ ∀ b : Fin 4, n = b.val →
      (s.bandInUse b = true → Leads .resetBand s (ended .refusedState))
      ∧ (s.bandInUse b = false →
        let fresh : Band :=
          { s.bands[b] with f := 0, d := 0, c := 0, filling := 0, draining := 0, armed := true }
        let v := ((s.cancelHolds b).dropNotice b).withNewBand b fresh
        Leads .resetBand s
          (v.withIntake { v.intake with inHand := some { h with stage := .ending .ok }, state := .executing })
        ∧ (∀ i, fresh.lineState i = .empty) ∧ v.noticeWaits b = false ∧ ¬ v.HeldOn b
        ∧ ∀ line, v.mover.state = .held → v.mover.heldOn ≠ some (b, line))

/-- SET_PROFILE and PROFILE_RECORD_READ_END (R80, R81): a number above 7, an odd address or 66 bytes beyond installed DRAM
is refused with REFUSED_PARAM, a profile of a running order with REFUSED_STATE; else the header word is read, then its
levels, in grants of at most 7 words, and the profile is replaced whole where every field is in range, or left as it
was. What a channel reads whose order started during the read is not stated here (log 41). -/
def Obligations.ProfilesAreReadWhole : Prop :=
  ∀ (s : State) (h : InHand),
    let n := bits (bodyWord h.body 1) 7 0
    let a := addressPair (bodyWord h.body 2) (bodyWord h.body 3)
    let at' (v : State) (st : Stage) : State := v.withIntake { v.intake with inHand := some { h with stage := st } }
    let executing (v : State) : State := v.withIntake { v.intake with state := .executing }
    (s.orderInHand kindSetProfile = some h →
      (7 < n ∨ a % 2 = 1 ∨ s.installed < a + 66 → Leads .setProfile s (at' s (.ending .refusedParam)))
      ∧ (∀ p : Fin 8, n = p.val → a % 2 = 0 → a + 66 ≤ s.installed →
        (s.profileRuns .d p = true ∨ s.profileRuns .p p = true → Leads .setProfile s (at' s (.ending .refusedState)))
        ∧ (s.profileRuns .d p = false → s.profileRuns .p p = false →
          Leads .setProfile s (executing (at' s (.reading a [] 1))))))
    ∧ (∀ ws total g k, s.intake.inHand = some h → h.kind = kindSetProfile → h.stage = .reading a ws total →
      s.port.grant = some (.intake (.read g k)) →
      let v := s.withPort { s.port with grant := none }
      let got := ws ++ s.dramWords g k
      let count := (got.getD 0 0).toNat
      let levels := profileLevels (got.drop 1)
      (total = 1 → count < 1 ∨ 16 < count → Leads .profileRecordReadEnd s (at' v (.ending .refusedParam)))
      ∧ (total = 1 → 1 ≤ count → count ≤ 16 → Leads .profileRecordReadEnd s (at' v (.reading a got (1 + 2 * count))))
      ∧ (total ≠ 1 → got.length < total → Leads .profileRecordReadEnd s (at' v (.reading a got total)))
      ∧ (total ≠ 1 → total ≤ got.length → (∃ l ∈ levels, l.inRange = false) →
        Leads .profileRecordReadEnd s (at' v (.ending .refusedParam)))
      ∧ (total ≠ 1 → total ≤ got.length → (∀ l ∈ levels, 16 ≤ l.interval ∧ l.interval ≤ 4095 ∧ 1 ≤ l.dwell ∧ l.dwell ≤ 255) →
        Leads .profileRecordReadEnd s
          (executing (at' (v.withProfiles (s.profiles.set (Fin.ofNat 8 n) levels)) (.ending .ok)))))
    ∧ (∀ ws total, s.intake.inHand = some h → h.stage = .reading a ws total → s.intake.finalWrites = [] →
      s.intake.nextJob = some (.read (a + 2 * ws.length) (min 7 (total - ws.length))))

/-- SET_CHANNEL and SET_ATTENTION (R47, R48, R78): a field out of range is refused with REFUSED_PARAM, and a channel whose
queue has a running order with REFUSED_STATE. Else the four settings are replaced, in HOLDING with the new hold level
asked and the hold timer restarted; or both masks are replaced and the attention line is recomputed. -/
def Obligations.SettingsAreReplaced : Prop :=
  ∀ (s : State) (h : InHand),
    let w := bodyWord h.body
    let ended (v : State) (r : Result) : State := v.withIntake { v.intake with inHand := some { h with stage := .ending r } }
    let done (v : State) : State :=
      v.withIntake { v.intake with inHand := some { h with stage := .ending .ok }, state := .executing }
    let run := bits (w 2) 7 0
    let hold := bits (w 2) 15 8
    let time := bits (w 3) 7 0
    (s.orderInHand kindSetChannel = some h →
      (1 < bits (w 1) 7 0 ∨ 1 < bits (w 1) 15 8 ∨ 16 < run ∨ 16 < hold →
        Leads .setChannel s (ended s .refusedParam))
      ∧ ∀ c, bits (w 1) 7 0 = (match c with | .d => 0 | .p => 1) → bits (w 1) 15 8 ≤ 1 → run ≤ 16 → hold ≤ 16 →
        (s.running (chanQueue c) ≠ none → Leads .setChannel s (ended s .refusedState))
        ∧ (s.running (chanQueue c) = none →
          let mode : StepMode := if bits (w 1) 15 8 = 0 then .full else .half
          let set : Channel := { s.chan c with mode := mode, runLevel := run, holdLevel := hold, holdTime := time }
          ((s.chan c).state ≠ .holding → Leads .setChannel s (done (s.withChan c set)))
          ∧ ((s.chan c).state = .holding → time = 0 → Leads .setChannel s (done (s.withChan c
            { set with state := .off, asked := 0, holdTimer := none, stepTimer := none, pauseTimer := none })))
          ∧ ((s.chan c).state = .holding → time ≠ 0 → Leads .setChannel s (done (s.withChan c
            { set with asked := hold, holdTimer := if time = 255 then none else some time })))))
    ∧ (s.orderInHand kindSetAttention = some h →
      (64 ≤ (w 1).toNat ∨ 64 ≤ (w 2).toNat → Leads .setAttention s (ended s .refusedParam))
      ∧ ((w 1).toNat < 64 → (w 2).toNat < 64 → Leads .setAttention s (done (s.withReports { s.reports with
        mask := (w 1).setWidth 6
        sensorMask := (w 2).setWidth 6
        attention := s.reports.unconsumed.any fun c => (w 1).getLsbD (classBit c) }))))

/-- SET_RINGING (R156): a setting outside its range, or a minimum above its maximum, is refused with REFUSED_PARAM. Else
the settings are replaced with the result OK, the counts become 0, the window timer stops, the qualifier is not muted
and the burst in progress is abandoned, so that the next rising edge begins a new one, however soon; a POWER MUTED
report held for the wake is kept. A reset has the same effect with the default settings and discards that report. -/
def Obligations.SetRingingStartsAfresh : Prop :=
  ∀ (s : State) (h : InHand), s.orderInHand kindSetRinging = some h →
    let w := bodyWord h.body
    let x : RingSettings :=
      { periodMin := (w 1).toNat, periodMax := (w 2).toNat, lengthMin := bits (w 3) 7 0, lengthMax := bits (w 3) 15 8,
        needed := bits (w 4) 7 0, window := bits (w 4) 15 8, noiseLimit := (w 5).toNat }
    let good := (10 ≤ x.periodMin ∧ x.periodMin ≤ 100) ∧ (10 ≤ x.periodMax ∧ x.periodMax ≤ 100)
      ∧ (1 ≤ x.lengthMin ∧ x.lengthMin ≤ 60) ∧ (1 ≤ x.lengthMax ∧ x.lengthMax ≤ 60) ∧ (1 ≤ x.needed ∧ x.needed ≤ 15)
      ∧ (1 ≤ x.window ∧ x.window ≤ 60) ∧ (1 ≤ x.noiseLimit ∧ x.noiseLimit ≤ 255)
      ∧ x.periodMin ≤ x.periodMax ∧ x.lengthMin ≤ x.lengthMax
    let fresh (set : RingSettings) (held : Option Report) : Ringing :=
      { settings := set, burst := none, qualified := 0, window := false, noise := 0, muted := false, heldMuted := held }
    (¬ good → Leads .setRinging s (s.withIntake { s.intake with inHand := some { h with stage := .ending .refusedParam } }))
    ∧ (good → Leads .setRinging s ((s.withRing (fresh x s.ring.heldMuted)).withIntake
      { s.intake with inHand := some { h with stage := .ending .ok }, state := .executing }))
    ∧ (∀ (t : State) (gap : Nat), t.ring = fresh x s.ring.heldMuted → t.boot.state = .done →
      Leads (.ringingPulse gap) t (t.withRing { t.ring with burst := some [] }))
    ∧ (∀ cause words, (s.resetPart cause words).ring = fresh
      { periodMin := 14, periodMax := 67, lengthMin := 2, lengthMax := 25, needed := 2, window := 12, noiseLimit := 31 }
      none)
    ∧ s.risePower.ring = fresh
      { periodMin := 14, periodMax := 67, lengthMin := 2, lengthMax := 25, needed := 2, window := 12, noiseLimit := 31 }
      none

/-- SLEEP and PATTERN_TABLE_READ_END (R144, R145): the four checks give REFUSED_PARAM, NO_WAKE, MUTED and REFUSED_STATE
in this order; then, with a pattern enabled, the pattern table is read and its enabled entries are judged. An accepted
sleep is SLEEP_PENDING with its settings, the sleep limit running and the enabled patterns that match timed; its slot is
HANDED, N moves on and the Intake waits. The intake state during the read is the model's choice (log 43). -/
def Obligations.SleepIsJudgedAndAccepted : Prop :=
  (∀ (s : State) (h : InHand), s.orderInHand kindSleep = some h →
      let w := wakeSettingsOf h.body h.slot
      let table := patternTableOf h.body
      let params := (w.rest % 2 = 0 ∧ w.rest + 16 < s.installed ∧ s.windowAt w.rest = none ∧ s.imageRange ≤ w.rest)
        ∧ w.confirm ≠ 0 ∧ (w.timerOn = true → w.timer ≠ 0)
        ∧ (w.patternOn ≠ 0 → table % 2 = 0 ∧ table + 16 ≤ s.installed)
      let source := w.ringing = true ∨ w.timerOn = true ∨ w.patternOn ≠ 0
      let muted := w.ringing = true ∧ s.ring.muted = true
      let quiet := (∀ q, s.running q = none ∧ (s.intake.queue q).waiting = []) ∧ s.intake.dispatch = none
        ∧ s.power.state = .running
      let at' (st : Stage) : State := s.withIntake { s.intake with inHand := some { h with stage := st } }
      (¬ params → Leads .sleep s (at' (.ending .refusedParam)))
      ∧ (params → ¬ source → Leads .sleep s (at' (.ending .noWake)))
      ∧ (params → source → muted → Leads .sleep s (at' (.ending .muted)))
      ∧ (params → source → ¬ muted → ¬ quiet → Leads .sleep s (at' (.ending .refusedState)))
      ∧ (params → source → ¬ muted → quiet → w.patternOn ≠ 0 → Leads .sleep s (at' (.reading table [] 8)))
      ∧ (params → source → ¬ muted → quiet → w.patternOn = 0 → Leads .sleep s (s.acceptSleep h w)))
  ∧ (∀ (s : State) (h : InHand),
      (∀ w : WakeSettings, (∀ i, (s.intake.slot i).early = false) →
        (∀ x, s.passage.cpu = some x → x.status ≠ .held (.slot h.slot)) →
        s.acceptSleep h w = (s.withPower { Power.reset with
          state := .sleepPending
          settings := some w
          sleepLimit := true
          patternTimers := Vector.ofFn fun p => w.patternOn.getLsbD p.val && s.matches w.patterns[p]
          wakeWrites := s.power.wakeWrites }).withIntake { s.intake with
            slots := s.intake.slots.set h.slot { s.intake.slot h.slot with state := .handed }
            inHand := none
            state := .waiting
            next := (s.intake.next + 1) % s.intake.slots.length })
      ∧ (∀ a ws total g k, s.intake.inHand = some h → h.kind = kindSleep → h.stage = .reading a ws total →
        s.port.grant = some (.intake (.read g k)) →
        let v := s.withPort { s.port with grant := none }
        let got := ws ++ s.dramWords g k
        let w := { wakeSettingsOf h.body h.slot with patterns := Vector.ofFn fun p : Fin 4 =>
          { mask := (got.getD (2 * p.val) 0).extractLsb' 0 8, levels := (got.getD (2 * p.val) 0).extractLsb' 8 8,
            hold := bits (got.getD (2 * p.val + 1) 0) 7 0 } }
        let valid := ∀ p : Fin 4, w.patternOn.getLsbD p.val = true → w.patterns[p].mask ≠ 0
          ∧ w.patterns[p].mask.toNat < 64 ∧ w.patterns[p].levels.toNat < 64 ∧ w.patterns[p].hold ≠ 0
        (got.length < total → Leads .patternTableReadEnd s
          (v.withIntake { s.intake with inHand := some { h with stage := .reading a got total } }))
        ∧ (total ≤ got.length → valid → Leads .patternTableReadEnd s (v.acceptSleep h w))
        ∧ (total ≤ got.length → ¬ valid → Leads .patternTableReadEnd s
          (v.withIntake { s.intake with inHand := some { h with stage := .ending .refusedParam } }))))

/-- ABORT and EMIT_END (R39, R40). ABORT of a queue ends with the result OK and marks its waiting orders and the order
in the dispatch place bound for it; an unmarked running order is marked: a MOVE being carried out stops hard with its
figures. A CAPTURE is stopped at once: the line being clocked is withdrawn, lines in write-back stay, channel D stops
hard; in DONE only its result becomes ABORTED (R105, R106). An EMIT has stop asked: with a line under heat nothing else
changes yet, else its lines are given back, channel P stops hard and it ends ABORTED (R114, R120). A TRANSFER ends
ABORTED with its request withdrawn and its chunk buffer discarded (log 44), or, its grant running, ends with that grant,
a held word being abandoned (R142). An order whose report waits ends ABORTED, in the record that its engine keeps too
(R105, R117), and a TRANSFER found in ENDING takes ABORTED into the final write that waits (log 21). Any other queue is
refused with REFUSED_PARAM. EMIT_END closes the open EMIT on an EMIT band that the P queue runs, and is refused with
REFUSED_STATE for any other; where channel P is PAUSED and no line is ready, the emit leaves the pause for its tail at
level 0, or ends OK with the end reason CLOSED where it has none (R116, R117). -/
def Obligations.UrgentOrdersAct : Prop :=
  ∀ (s : State) (h : InHand),
    let n := bits (bodyWord h.body 1) 7 0
    let ended (r : Result) : State := s.withIntake { s.intake with inHand := some { h with stage := .ending r } }
    let mark (o : Order) : Order := { o with marked := true }
    let reported (t : State) (q : QueueId) : Option (Result × List Word) :=
      (t.running q).map fun x => (x.result, x.figures)
    (s.orderInHand kindAbort = some h →
      (2 < n → Leads .abort s (ended .refusedParam))
      ∧ ∀ q, n = (match q with | .d => 0 | .p => 1 | .mover => 2) → ∃ t, exec .abort s = .next t
        ∧ t.intake.inHand = some { h with stage := .ending .ok } ∧ t.intake.state = .executing
        ∧ (t.intake.queue q).waiting = (s.intake.queue q).waiting.map mark
        ∧ (∀ o, s.intake.dispatch = some o → t.intake.dispatch = some (if o.work.queue = q then mark o else o))
        ∧ (∀ q', q' ≠ q → (t.intake.queue q').waiting = (s.intake.queue q').waiting)
        ∧ (∀ ro, s.running q = some ro → (t.running q).map (·.order) = some (mark ro.order))
        ∧ (∀ ro, s.running q = some ro → ro.order.marked = false → ro.stage = .offered → q ≠ .mover →
          t.running q = some { ro with order := mark ro.order, result := .aborted }
          ∧ (∀ p r, q = .d → ro.order.work = .capture p → s.capture.record = some r →
            t.capture.record = some { r with result := .aborted })
          ∧ (∀ p r, q = .p → ro.order.work = .emit p → s.emit.record = some r →
            t.emit.record = some { r with result := .aborted }))
        ∧ (∀ ro c p, s.running q = some ro → ro.order.marked = false → ro.stage = .active → ro.order.work = .move p →
          p.chan = c → chanQueue c = q → (s.chan c).state = .moving → s.power.state ≠ .wakeConfirm →
          (t.chan c).state = (if (s.chan c).holdTime = 0 then .off else .holding) ∧ (t.chan c).phase = (s.chan c).phase
            ∧ (t.running q).map (fun x => (x.result, x.figures)) = some (.aborted, (s.chan c).moveFigures))
        ∧ (∀ ro p r, q = .d → s.running .d = some ro → ro.order.marked = false → s.captureNow = some (p, r) →
          (r.phase = .done → t.capture.record = some { r with result := .aborted })
          ∧ (r.phase ≠ .done →
            t.capture.record = some
              { r with phase := .done, stepsInPhase := 0, endPhase := r.phase, result := .aborted }
            ∧ (∀ i line words, s.capture.store i = .writing line words → t.capture.store i = .writing line words)
            ∧ (∀ i, s.capture.clocking = some i → t.capture.store i = .empty
              ∧ t.bands = s.bands.set p.band { s.bands[p.band] with filling := s.bands[p.band].filling - 1 })
            ∧ (s.capture.clocking = none → t.bands = s.bands)
            ∧ (s.chanD.state = .moving ∨ s.chanD.state = .paused → s.chanD.Stopped t.chanD)
            ∧ (s.capture.storeA = .empty → s.capture.storeB = .empty →
              reported t .d = some (.aborted, [wordNat r.captured, wordNat r.overruns, r.sum, wordNat r.phase.code]))))
        ∧ (∀ ro p r, q = .p → s.running .p = some ro → ro.order.marked = false → s.emitNow = some (p, r) →
          r.phase ≠ .done →
          (s.emit.strobing ≠ none → t.emit = { s.emit with record := some { r with stopAsked := true } }
            ∧ t.bands = s.bands ∧ (s.chanP.state = .boundaryWait → t.chanP = s.chanP))
          ∧ (s.emit.strobing = none →
            t.emit.record = some
              { r with phase := .done, stopAsked := true, result := .aborted, endReason := some .abort }
            ∧ t.emit.storeA = PrintStore.none ∧ t.emit.storeB = PrintStore.none ∧ t.port.fetchReq = false
            ∧ t.bands = s.bands.set p.band { s.bands[p.band] with draining := 0 }
            ∧ (s.chanP.state = .moving ∨ s.chanP.state = .paused ∨ s.chanP.state = .boundaryWait →
              s.chanP.Stopped t.chanP)
            ∧ reported t .p = some (.aborted, [wordNat r.printed, 5])))
        ∧ (∀ ro p, q = .mover → s.running .mover = some ro → ro.order.marked = false → ro.order.work = .transfer p →
          let m := s.mover
          let going := m.state = .reading ∨ m.state = .writing ∨ m.state = .held
          (ro.stage = .active → going → (∀ k obs, s.port.grant ≠ some (.mover k obs)) →
            t.mover.state = .ending ∧ t.mover.heldOn = none ∧ t.port.moverReq = none ∧ t.dram = s.dram
              ∧ t.passage = s.passage ∧ t.mover.buffer = []
              ∧ reported t .mover = some (.aborted, [wordNat (m.moved / 65536), wordNat m.moved, m.sum]))
          ∧ (∀ k obs, ro.stage = .active → going → s.port.grant = some (.mover k obs) →
            t.port.grant = s.port.grant ∧ (t.running .mover).map (·.stage) = some .active ∧ t.passage = s.passage
              ∧ t.mover = { m with heldOn := none, aborting := true, state := if m.state = .held
                then (if m.heldWrite then .writing else .reading) else m.state })
          ∧ (ro.stage = .offered ∨ ro.stage = .entered → m.state = .ending →
            (t.running .mover).map (·.result) = some .aborted)
          ∧ (ro.stage = .entered → ∀ w, w.owner = .queue .mover →
            w ∈ t.intake.finalWrites ∨ t.port.intakeReq = some (.final w) → m.state = .ending → w.result = .aborted)))
    ∧ (s.orderInHand kindEmitEnd = some h →
      let open' := ∃ ro p, s.running .p = some ro ∧ ro.order.work = .emit p ∧ p.lineCount = 0
        ∧ s.bands[p.band].role = .emit
      (¬ open' → Leads .emitEnd s (ended .refusedState))
      ∧ (open' → ∃ t, exec .emitEnd s = .next t ∧ t.intake.inHand = some { h with stage := .ending .ok }
        ∧ (∀ r, s.emit.record = some r → t.emit.record.map (·.closed) = some true)
        ∧ ∀ p r, s.emitNow = some (p, r) →
          (s.chanP.state ≠ .paused ∨ s.bands[p.band].c ≠ 0 → t.emit.record = some { r with closed := true }
            ∧ (s.power.state ≠ .wakeConfirm → t.chanP = s.chanP))
          ∧ (s.chanP.state = .paused → s.bands[p.band].c = 0 →
            (p.tailFeed = 0 → s.chanP.Stopped t.chanP ∧ reported t .p = some (.ok, [wordNat r.printed, 1]))
            ∧ (p.tailFeed ≠ 0 → t.emit.record = some { r with closed := true, phase := .tail }
              ∧ t.chanP = { s.chanP with
                k := 0, r := p.tailFeed, atLevel := 0, paced := none, state := .moving, asked := s.chanP.runLevel
                holdTimer := none, pauseTimer := none, stepTimer := some (intervalAt s.profiles[p.profile] 0) }))))

/-! ### Queued orders -/

/-- MOVE, CAPTURE and EMIT (R33, R83, R98, R113): an order that its checks pass is handed over: its slot is HANDED and
it stands in the dispatch place, which it leaves at once for a queue with room. An order that they do not pass ends
REFUSED_PARAM. An order that enters an empty queue starts at once (R36). With the cover open it ends COVER_OPEN, its
channel untouched (R93; the end reason of an EMIT is log 22). Else a MOVE enters MOVING at level 0 with its counters set
(R84); a CAPTURE ends DOC_OUT without a document, or enters APPROACH, or with a document at the line SKIP, or for skip
lines of 0 its first boundary, which pauses it or begins its first line (R100, R101, R122); an EMIT ends PAPER_OUT
without paper, or takes its first boundary, where it pauses without supply or proceeds (R115, R122). A CAPTURE and an
EMIT turn their channels FORWARD (log 13); of two EMPTY stores A takes the first line (log 28). -/
def Obligations.QueuedOrdersAreHandedOrRefused : Prop :=
  ∀ (s : State) (h : InHand) (c : Instr) (k : Byte) (x : Except Result Work),
    (c = .move ∧ k = kindMove ∧ x = s.moveOf h.body ∨ c = .capture ∧ k = kindCapture ∧ x = s.captureOf h.body
      ∨ c = .emit ∧ k = kindEmit ∧ x = s.emitOf h.body) → s.orderInHand k = some h →
    (∀ r, x = .error r → r = .refusedParam ∧ Leads c s
      (s.withIntake { s.intake with inHand := some { h with stage := .ending .refusedParam } }))
    ∧ (∀ w, x = .ok w →
      let o : Order := { slot := h.slot, kind := h.kind, work := w, marked := false }
      (4 ≤ (s.intake.queue w.queue).waiting.length →
        (∀ y, s.passage.cpu = some y → y.status ≠ .held (.slot h.slot)) → Leads c s (s.withIntake { s.intake with
          slots := s.intake.slots.set h.slot { s.intake.slot h.slot with state := .handed }
          inHand := none
          state := .dispatchWait
          dispatch := some o }))
      ∧ ((s.intake.queue w.queue).waiting.length < 4 → s.running w.queue = none → (s.intake.queue w.queue).waiting = [] →
        ∃ t, exec c s = .next t ∧ t.intake.dispatch = none ∧ (t.running w.queue).map (·.order) = some o)
      ∧ ((s.intake.queue w.queue).waiting.length < 4 → s.running w.queue ≠ none → ∃ t, exec c s = .next t
        ∧ t.intake.dispatch = none ∧ (t.intake.queue w.queue).waiting = (s.intake.queue w.queue).waiting ++ [o])
      ∧ (s.running w.queue = none → (s.intake.queue w.queue).waiting = [] → ∃ t, exec c s = .next t
        ∧ (let high (x : Sensor) : Bool := s.sensors[sensorNumber x].level
          let ends (r : Result) (figures : List Word) : Prop :=
            (t.running w.queue).map (fun y => (y.result, y.figures)) = some (r, figures)
          let started (x : Channel) (d : Direction) (r interval : Nat) : Channel := { x with
            dir := d, k := 0, r := r, atLevel := 0, made := 0, before := 0, edge := false
            state := .moving, asked := x.runLevel, holdTimer := none, pauseTimer := none, stepTimer := some interval }
          (∀ p, w = .move p → let ch := s.chan p.chan
            (high .coverClosed = false → ends .coverOpen [0, 0, wordNat (ch.phase.toNat * 256)]
              ∧ (s.power.state ≠ .wakeConfirm → t.chan p.chan = ch))
            ∧ (high .coverClosed = true → t.chan p.chan = started ch p.dir
              (p.count + (p.edge.map (·.extra)).getD 0) (intervalAt s.profiles[p.profile] 0)))
          ∧ (∀ p, w = .capture p → s.capture.storeA = .empty → s.capture.storeB = .empty →
            (high .coverClosed = false → ends .coverOpen [0, 0, 0, 0] ∧ (s.power.state ≠ .wakeConfirm → t.chanD = s.chanD))
            ∧ (high .coverClosed = true → high .docPresent = false → ends .docOut [0, 0, 0, 0]
              ∧ (s.power.state ≠ .wakeConfirm → t.chanD = s.chanD))
            ∧ (high .coverClosed = true → high .docPresent = true → high .docAtLine = false →
              t.capture.record = some { CaptureRecord.start with phase := .approach }
              ∧ t.chanD = started s.chanD .forward 0 (intervalAt s.profiles[p.profile] 0))
            ∧ (high .coverClosed = true → high .docPresent = true → high .docAtLine = true → p.skipLines ≠ 0 →
              t.capture.record = some { CaptureRecord.start with phase := .skip }
              ∧ t.chanD = started s.chanD .forward (p.skipLines * p.stepsPerLine)
                (intervalAt s.profiles[p.profile] 0))
            ∧ (high .coverClosed = true → high .docPresent = true → high .docAtLine = true → p.skipLines = 0 →
              let b := s.bands[p.band]
              let supply := if s.noticeWaits p.band = true then 0 else b.lines - b.c - b.filling
              let level := min (min 1 (topLevel s.profiles[p.profile])) (supply - 1)
              let x := { started s.chanD .forward 0 0 with paced := some (p.band, .capture) }
              (supply = 0 → t.capture.record = some { CaptureRecord.start with phase := .scanning }
                ∧ t.chanD = { x with state := .paused, asked := x.holdLevel, stepTimer := none
                                     pauseTimer := if p.pauseLimit = 0 then none else some p.pauseLimit })
              ∧ (supply ≠ 0 → t.chanD = { x with
                  k := level, stepTimer := some (intervalAt s.profiles[p.profile] level) }
                ∧ t.bands = s.bands.set p.band b.claim ∧ t.capture.storeA = .clocking b.claimLine
                ∧ t.capture.record = some { CaptureRecord.start with phase := .scanning, scanLines := 1 })))
          ∧ (∀ p, w = .emit p → s.emit.shifted = none →
            (high .coverClosed = false → ends .coverOpen [0, 6] ∧ (s.power.state ≠ .wakeConfirm → t.chanP = s.chanP))
            ∧ (high .coverClosed = true → high .paperPresent = false → ends .paperOut [0, 3]
              ∧ (s.power.state ≠ .wakeConfirm → t.chanP = s.chanP))
            ∧ (high .coverClosed = true → high .paperPresent = true →
              let x := { s.chanP with
                holdTimer := none, stepTimer := none, dir := .forward, paced := some (p.band, .emit) }
              let printing := { EmitRecord.start with phase := .printing }
              (s.bands[p.band].c = 0 → p.lineCount ≠ 0 ∨ s.bands[p.band].role = .emit →
                t.emit.record = some printing ∧ t.chanP = { x with
                  k := 0, state := .paused, asked := x.holdLevel
                  pauseTimer := if p.pauseLimit = 0 then none else some p.pauseLimit })
              ∧ (s.bands[p.band].c ≠ 0 → t.emit.record = some printing ∧ t.chanP = { x with
                k := min (min 1 (topLevel s.profiles[p.profile])) (s.bands[p.band].c - 1)
                state := .boundaryWait, asked := x.runLevel, pauseTimer := none }))))))

/-- The checks of MOVE, CAPTURE and EMIT (R83, R98, R113, Table 11-3): the fields that pass them and the order they make;
with any of them out of range the order is refused. -/
def Obligations.QueuedOrdersAreChecked : Prop :=
  ∀ (s : State) (body : List Word), let w := bodyWord body
    let f (n hi lo : Nat) := bits (w n) hi lo
    (∀ wk, s.moveOf body = .ok wk ↔ ∃ p : MoveParams, wk = .move p
      ∧ f 1 7 0 = (match p.chan with | .d => 0 | .p => 1) ∧ f 1 15 8 = p.profile.val ∧ s.profiles[p.profile] ≠ []
      ∧ f 2 7 0 = (match p.dir with | .forward => 0 | .reverse => 1) ∧ p.count = (w 3).toNat ∧ p.count ≠ 0
      ∧ (match p.edge with
        | none => f 2 15 8 = 0
        | some e => f 2 15 8 = 1 ∧ f 4 7 0 = (sensorNumber e.sensor).val ∧ e.sensor ≠ .coverClosed
          ∧ f 4 15 8 = (if e.rising then 0 else 1) ∧ e.extra = (w 5).toNat ∧ e.jam = (w 6).toNat ∧ e.jam ≠ 0))
    ∧ (∀ wk, s.captureOf body = .ok wk ↔ ∃ p : CaptureParams, wk = .capture p
      ∧ f 1 3 0 = p.band.val ∧ (s.bands[p.band].role = .capture ∨ s.bands[p.band].role = .copy)
      ∧ f 1 7 4 = p.profile.val ∧ s.profiles[p.profile] ≠ [] ∧ f 1 11 8 = p.stepsPerLine
      ∧ 1 ≤ p.stepsPerLine ∧ p.stepsPerLine ≤ 8 ∧ f 1 15 12 = p.rate ∧ p.rate ≤ 3
      ∧ p.skipLines = f 2 7 0 ∧ p.tailLines = f 2 15 8 ∧ p.lineLimit = (w 3).toNat ∧ p.jam = (w 4).toNat ∧ p.jam ≠ 0
      ∧ p.maxLength = (w 5).toNat ∧ p.maxLength ≠ 0 ∧ p.ejectSteps = (w 6).toNat ∧ p.pauseLimit = f 7 7 0)
    ∧ (∀ wk, s.emitOf body = .ok wk ↔ ∃ p : EmitParams, wk = .emit p
      ∧ f 1 3 0 = p.band.val ∧ (s.bands[p.band].role = .emit ∨ s.bands[p.band].role = .copy)
      ∧ f 1 7 4 = p.profile.val ∧ s.profiles[p.profile] ≠ [] ∧ f 1 11 8 = p.stepsPerLine
      ∧ 1 ≤ p.stepsPerLine ∧ p.stepsPerLine ≤ 8 ∧ f 1 15 12 = p.groups ∧ (p.groups = 1 ∨ p.groups = 2 ∨ p.groups = 4)
      ∧ p.heat = f 2 7 0 ∧ p.heat ≠ 0 ∧ p.pauseLimit = f 2 15 8 ∧ p.lineCount = (w 3).toNat ∧ p.tailFeed = (w 4).toNat)

/-- TRANSFER and SEGMENT_RECORD_READ_END (R134, R167): an unknown mode, an odd record address or 24 bytes beyond
installed DRAM is refused with REFUSED_PARAM, else the record is read; the segments as read are judged, and the order is
refused with REFUSED_PARAM or handed over: to its queue, or to the dispatch place with the queue full. In an empty queue
it starts at once, with nothing moved, at the first chunk of segment 1; where its first word passes, it asks a burst
(R135 to R137). The intake state during the read is the model's choice (log 43), and so is that the first word of a FILL
segment is ignored (log 40). -/
def Obligations.TransfersAreReadAndJudged : Prop :=
  ∀ (s : State) (h : InHand),
    let mode := bits (bodyWord h.body 1) 7 0
    let a := addressPair (bodyWord h.body 2) (bodyWord h.body 3)
    let at' (v : State) (st : Stage) : State := v.withIntake { v.intake with inHand := some { h with stage := st } }
    (s.orderInHand kindTransfer = some h →
      (1 < mode ∨ a % 2 = 1 ∨ s.installed < a + 24 → Leads .transfer s (at' s (.ending .refusedParam)))
      ∧ (mode ≤ 1 → a % 2 = 0 → a + 24 ≤ s.installed → Leads .transfer s (at' s (.reading a [] 12))))
    ∧ (∀ ws total g k, s.intake.inHand = some h → h.kind = kindTransfer → h.stage = .reading a ws total →
      s.port.grant = some (.intake (.read g k)) → mode ≤ 1 →
      let v := s.withPort { s.port with grant := none }
      let got := ws ++ s.dramWords g k
      let m : MoverMode := if mode = 0 then .copy else .fill
      let x := segmentAt m got 0
      let y := segmentAt m got 6
      let dest (z : Segment) := z.dest % 2 = 0 ∧ z.dest + z.length ≤ s.installed
        ∧ (∀ j : Fin 8, s.windows[j].kind = .guard →
          z.dest + z.length ≤ s.windows[j].base ∨ s.windows[j].base + s.windows[j].length ≤ z.dest)
        ∧ (s.passage.mode = .shadow → s.passage.guard = true → s.imageRange ≤ z.dest)
      let source (z : Segment) := m = .copy → z.source % 2 = 0
        ∧ (z.source + z.length ≤ s.installed ∨ 0xE00000 ≤ z.source ∧ z.source + z.length ≤ 0x1000000)
      let long (z : Segment) := z.length % 2 = 0 ∧ z.length ≤ 0x100000
      let good := x.length ≠ 0 ∧ long x ∧ dest x ∧ source x ∧ long y ∧ (y.length ≠ 0 → dest y ∧ source y)
      (got.length < total → Leads .segmentRecordReadEnd s (at' v (.reading a got total)))
      ∧ (total ≤ got.length → ¬ good → Leads .segmentRecordReadEnd s (at' v (.ending .refusedParam)))
      ∧ (total ≤ got.length → good → s.running .mover ≠ none → s.intake.mQueue.waiting.length < 4 → ∃ t,
        exec .segmentRecordReadEnd s = .next t ∧ t.intake.dispatch = none ∧ t.intake.mQueue.waiting
          = s.intake.mQueue.waiting ++ [⟨h.slot, h.kind, .transfer { mode := m, seg1 := x, seg2 := y }, false⟩])
      ∧ (total ≤ got.length → good → s.intake.mQueue = Queue.empty → ∃ t, exec .segmentRecordReadEnd s = .next t
        ∧ t.intake.dispatch = none ∧ t.intake.mQueue.running.map (·.order)
          = some ⟨h.slot, h.kind, .transfer { mode := m, seg1 := x, seg2 := y }, false⟩
        ∧ t.mover.params = { mode := m, seg1 := x, seg2 := y } ∧ t.mover.moved = 0 ∧ t.mover.sum = 0
        ∧ (∀ path, s.port.moverReq = none → s.classify .mover (if mode = 0 then ⟨x.source, .readWord⟩
            else ⟨x.dest, .writeWord (wordNat x.source)⟩) = .pass path →
          t.mover = { Mover.reset with
            params := { mode := m, seg1 := x, seg2 := y }, state := if mode = 0 then .reading else .writing
            chunkSize := min 16 (x.length / 2) }
          ∧ t.port.moverReq ≠ none))
      ∧ (total ≤ got.length → good → 4 ≤ s.intake.mQueue.waiting.length →
        (∀ z, s.passage.cpu = some z → z.status ≠ .held (.slot h.slot)) → Leads .segmentRecordReadEnd s
          (v.withIntake { s.intake with
            slots := s.intake.slots.set h.slot { s.intake.slot h.slot with state := .handed }
            inHand := none
            state := .dispatchWait
            dispatch := some ⟨h.slot, h.kind, .transfer { mode := m, seg1 := x, seg2 := y }, false⟩ })))

/-! ### Motor channels -/

/-- CHOP_PERIOD_START and HOLD_TIMER_EXPIRY (R72, R74, R76): at a period start the level in effect takes the asked level,
and the outputs show the phase index as Table 4-1 gives, an energised winding chopped at that level, or are low in OFF; a
HOLDING channel whose hold timer expires enters OFF, and its phase index is kept. That an expiry without a running hold
timer changes nothing is the model's choice (log 2). -/
def Obligations.ChannelsChopAndHold : Prop :=
  ∀ s : State,
    let chopped (c : Channel) : Channel :=
      { c with inEffect := c.asked, driven := if c.state = .off then none else some c.phase }
    exec .chopPeriodStart s = .next ((s.withChanD (chopped s.chanD)).withChanP (chopped s.chanP))
    ∧ (∀ (c : Chan) (part : Nat),
      ((s.chan c).state = .off → (chopped (s.chan c)).phaseOutputs = (false, false, false, false)
        ∧ (chopped (s.chan c)).chopOutputs part = (false, false))
      ∧ ((s.chan c).state ≠ .off →
        (chopped (s.chan c)).phaseOutputs = ([(true, false, false, false), (true, false, true, false),
          (false, false, true, false), (false, true, true, false), (false, true, false, false),
          (false, true, false, true), (false, false, false, true), (true, false, false, true)].getD
            (s.chan c).phase.toNat (false, false, false, false))
        ∧ (chopped (s.chan c)).chopOutputs part
          = (decide ((s.chan c).phase.toNat % 4 ≠ 2 ∧ part < (s.chan c).asked),
            decide ((s.chan c).phase.toNat % 4 ≠ 0 ∧ part < (s.chan c).asked))))
    ∧ ∀ c, ((s.chan c).state = .holding → (s.chan c).holdTimer.isSome → exec (.holdTimerExpiry c) s = .next
        (s.withChan c { s.chan c with
          state := .off, asked := 0, holdTimer := none, stepTimer := none, pauseTimer := none }))
      ∧ ((s.chan c).state ≠ .holding ∨ (s.chan c).holdTimer = none → exec (.holdTimerExpiry c) s = .next s)

/-- The ramp rule (R79, R84): with C the highest level whose descent length is not greater than R - 1, the next level is
the lesser of the candidate and C, or the floor if that is greater; the descent length of a level is the sum of the
dwells below it. -/
def Obligations.RampRuleChoosesTheLevel : Prop :=
  ∀ (p : List Level) (k atLevel r ceiling : Nat), p ≠ [] → k ≤ topLevel p → ceiling ≤ topLevel p →
    ((p.take ceiling).map (·.dwell)).sum ≤ r - 1 →
    (∀ j, ceiling < j → j ≤ topLevel p → r - 1 < ((p.take j).map (·.dwell)).sum) →
    let candidate := if dwellAt p k ≤ atLevel ∧ k < topLevel p then k + 1 else k
    rampLevel p k atLevel r = max (min candidate ceiling) (k - 1) ∧ rampLevel p k atLevel r ≤ topLevel p

/-- A step timer expires in a MOVE (R73, R82, R84 to R88): the phase index moves by the step size in the direction of the
move and the outputs with it; the counters move, and the next level is loaded by the ramp rule. A COUNT move ends at
its count and an EDGE move at its extra steps, OK; without its edge it jams at the jam distance in place of a step. A
channel that ends is in HOLDING, or OFF for a hold time of 0, with its figures in the report. -/
def Obligations.MovesStepAndEnd : Prop :=
  ∀ (s : State) (c : Chan) (ro : Running) (p : MoveParams), s.running (chanQueue c) = some ro → ro.stage = .active →
    ro.order.work = .move p → (s.chan c).state = .moving → (s.chan c).stepTimer.isSome →
    let ch := s.chan c
    let size : BitVec 3 := match ch.mode with | .half => 1 | .full => 2
    let phase := match ch.dir with | .forward => ch.phase + size | .reverse => ch.phase - size
    let stepped (r : Nat) : Channel := { ch with
      phase := phase, driven := ch.driven.map fun _ => phase, made := ch.made + 1, atLevel := ch.atLevel + 1, r := r }
    let profile := s.profiles[p.profile]
    let goesOn (x : Channel) : State := s.withChan c { x with
      k := rampLevel profile x.k x.atLevel x.r
      atLevel := if rampLevel profile x.k x.atLevel x.r = x.k then x.atLevel else 0
      stepTimer := some (intervalAt profile (rampLevel profile x.k x.atLevel x.r)) }
    let held (x : Channel) : Channel :=
      let y := { x with state := .holding, asked := x.holdLevel, stepTimer := none, pauseTimer := none, paced := none }
      if x.holdTime = 0 then { y with state := .off, asked := 0, holdTimer := none }
      else { y with holdTimer := if x.holdTime = 255 then none else some x.holdTime }
    let ends (x : Channel) (r : Result) (figures : List Word) : State :=
      (s.withChan c (held x)).endOrder (chanQueue c) .motor r figures
    (p.edge = none →
      (ch.made + 1 ≠ p.count → Leads (.stepTimerExpiry c) s (goesOn (stepped (ch.r - 1))))
      ∧ (ch.made + 1 = p.count → ch.edge = false → Leads (.stepTimerExpiry c) s
        (ends (stepped (ch.r - 1)) .ok [wordNat p.count, 0, wordNat (phase.toNat * 256)])))
    ∧ ∀ e, p.edge = some e →
      (ch.edge = false → e.jam ≤ ch.made → Leads (.stepTimerExpiry c) s
        (ends ch .jam [wordNat ch.made, 0, wordNat (ch.phase.toNat * 256)]))
      ∧ (ch.edge = false → ch.made < e.jam → Leads (.stepTimerExpiry c) s (goesOn (stepped (max 1 (ch.r - 1)))))
      ∧ (ch.edge = true → ch.made + 1 ≠ ch.before + e.extra →
        Leads (.stepTimerExpiry c) s (goesOn (stepped (ch.r - 1))))
      ∧ (ch.edge = true → ch.made + 1 = ch.before + e.extra → Leads (.stepTimerExpiry c) s
        (ends (stepped (ch.r - 1)) .ok [wordNat ch.before, wordNat e.extra, wordNat (1 + phase.toNat * 256)]))

/-- SENSOR_INPUT_CHANGE and DEBOUNCED_CHANGE (R49, R85, R89, R92, R101, R102, R115): the stability timer runs while the
input differs from the debounced level; at its expiry the level takes the input's, and an enabled sensor is reported. Its
SENSOR report enters with room in the pending queue; with the queue full it waits, and while one waits a further change
is merged into it, its sensor added and the levels replaced, in its place (R45, R49). A pending or entered sleep watches
its patterns by the new levels (R148). The order that the sensor's channel carries out takes the change: a MOVE its edge;
a CAPTURE in APPROACH enters SKIP, or for skip lines of 0 its first boundary, where no supply pauses it and it else begins
a line or counts an overrun (R101, R122), one in SKIP or SCANNING takes the trailing edge; an EMIT that prints loses its
paper, which stops it at once where channel P is PAUSED or waits before the latch (R115, R118, R127). The cover's fall
stops a MOVE, a CAPTURE and an EMIT, the line being clocked withdrawn and the lines in print stores given back; in DONE it
changes nothing (R92, R107, R119). That an EMIT told to stop with a line under heat ends COVER_OPEN too is the model's
choice (log 36), and so is that an expiry of a stopped timer changes nothing (log 2); which EMPTY store takes a line is
log 28. -/
def Obligations.SensorsAreDebouncedAndDelivered : Prop :=
  ∀ (s : State) (x : Sensor) (level reportLast pFirst : Bool),
    let cell := s.sensors[sensorNumber x]
    let expiry : Instr := .debouncedChange x reportLast pFirst
    exec (.sensorInputChange x level) s = .next (s.withSensors (s.sensors.set (sensorNumber x)
      { input := level, level := cell.level, timer := s.pins.supply && level != cell.level }))
    ∧ (cell.timer = false ∨ cell.input = cell.level → exec expiry s = .next s)
    ∧ (cell.timer = true → cell.input = level → level ≠ cell.level →
      let v := s.withSensors (s.sensors.set (sensorNumber x) { input := level, level := level, timer := false })
      let masked := s.reports.sensorMask.getLsbD (sensorNumber x).val
      let idle (c : Chan) := s.activeWork (chanQueue c) = none
      (idle .d → idle .p → s.power.state = .running → masked = false → Leads expiry s v)
      ∧ (idle .d → idle .p → s.power.state = .running → masked = true → s.hasReports = true →
        s.reports.pending.length < 8 → s.sensorWaits = false →
        Leads expiry s (v.withReports { s.reports with pending := s.reports.pending ++ [⟨.sensor, 1,
          [BitVec.setWidth 16 (sensorBit x), BitVec.setWidth 16 v.levels, 0, 0, 0, 0, 0]⟩] }))
      ∧ (idle .d → idle .p → s.power.state = .running → masked = true → s.hasReports = true →
        8 ≤ s.reports.pending.length → s.sensorWaits = false → Leads expiry s (v.withReports { s.reports with
          waiting := s.reports.waiting ++ [⟨.motor, .sensor (sensorBit x) v.levels⟩] }))
      ∧ (∀ older newer block changed levels, idle .d → idle .p → s.power.state = .running → masked = true →
        s.reports.waiting = older ++ ⟨block, .sensor changed levels⟩ :: newer →
        (∀ w ∈ older ++ newer, ∀ c l, w.item ≠ .sensor c l) → Leads expiry s (v.withReports { s.reports with
          waiting := older ++ ⟨block, .sensor (changed ||| sensorBit x) v.levels⟩ :: newer }))
      ∧ (∀ w, s.power.state = .sleepPending ∨ s.power.state = .sleeping → s.power.settings = some w → ∃ t,
        exec expiry s = .next t ∧ t.power = { s.power with patternTimers := t.power.patternTimers }
        ∧ ∀ p : Fin 4, t.power.patternTimers[p] = true ↔ w.patternOn.getLsbD p.val = true
          ∧ ∀ y : Sensor, w.patterns[p].mask.getLsbD (sensorNumber y).val = true →
            w.patterns[p].levels.getLsbD (sensorNumber y).val
              = if y = x then level else s.sensors[sensorNumber y].level)
      ∧ (∀ c p, s.activeWork (chanQueue c) = some (.move p) → x = .coverClosed → level = false → ∃ t, exec expiry s = .next t
        ∧ (t.running (chanQueue c)).map (·.result) = some .coverOpen ∧ (t.chan c).phase = (s.chan c).phase
        ∧ (t.chan c).state ≠ .moving)
      ∧ (∀ c p e, s.activeWork (chanQueue c) = some (.move p) → p.edge = some e → e.sensor = x → e.rising = level →
        x ≠ .coverClosed → (s.chan c).state = .moving → (s.chan c).edge = false → ∃ t, exec expiry s = .next t
        ∧ (t.chan c).edge = true ∧ (t.chan c).before = (s.chan c).made ∧ (t.chan c).r = e.extra
        ∧ (e.extra = 0 → (t.running (chanQueue c)).map (·.result) = some .ok)
        ∧ (e.extra ≠ 0 → (t.chan c).state = .moving ∧ (t.chan c).stepTimer = (s.chan c).stepTimer))
      ∧ (∀ p r, s.captureNow = some (p, r) → x = .docAtLine → level = true → r.phase = .approach → p.skipLines ≠ 0 →
        s.chanD.state = .moving → ∃ t, exec expiry s = .next t ∧ t.capture.record = some { r with
          phase := .skip, docLines := 0, stepsInPhase := 0, stepsInLine := 0 }
          ∧ t.chanD = { s.chanD with r := p.skipLines * p.stepsPerLine, atLevel := 0 })
      ∧ (∀ p r, s.captureNow = some (p, r) → x = .docAtLine → level = true → r.phase = .approach → r.trailing = false →
        p.skipLines = 0 → p.lineLimit = 0 ∨ r.scanLines < p.lineLimit → p.maxLength ≠ 0 → s.chanD.state = .moving →
        let b := s.bands[p.band]
        let supply := if s.noticeWaits p.band = true then 0 else b.lines - b.c - b.filling
        let at' := min (min (s.chanD.k + 1) (topLevel s.profiles[p.profile])) (supply - 1)
        let q := { r with phase := .scanning, docLines := 0, stepsInPhase := 0, stepsInLine := 0 }
        let more (n : Nat) : Nat := if 65535 ≤ n + 1 then 65535 else n + 1
        let d := { s.chanD with paced := some (p.band, .capture), holdTimer := none }
        (supply = 0 → ∃ t, exec expiry s = .next t ∧ t.capture.record = some q
          ∧ t.chanD = { d with state := .paused, asked := d.holdLevel, stepTimer := none
                               pauseTimer := if p.pauseLimit = 0 then none else some p.pauseLimit })
        ∧ (supply ≠ 0 → ∃ t, exec expiry s = .next t
          ∧ t.chanD = { d with k := at', asked := d.runLevel, pauseTimer := none
                               stepTimer := some (intervalAt s.profiles[p.profile] at') }
          ∧ (∀ i, s.capture.freeStore = some i → s.capture.clocking = none →
            t.bands = s.bands.set p.band b.claim ∧ t.capture.store i = .clocking b.claimLine
            ∧ t.capture.record = some { q with scanLines := more r.scanLines })
          ∧ (s.capture.freeStore = none ∨ s.capture.clocking ≠ none → t.bands = s.bands
            ∧ t.capture.record = some { q with scanLines := more r.scanLines, overruns := more r.overruns })))
      ∧ (∀ p r, s.captureNow = some (p, r) → x = .docAtLine → level = false → r.phase = .skip ∨ r.phase = .scanning →
        ∃ t, exec expiry s = .next t ∧ t.capture.record = some { r with trailing := true })
      ∧ (∀ p r, s.emitNow = some (p, r) → x = .paperPresent → level = false → r.phase = .printing →
        s.chanP.state = .moving ∨ s.chanP.state = .boundaryWait ∧ s.emit.strobing ≠ none →
        ∃ t, exec expiry s = .next t ∧ t.emit.record = some { r with paperLost := true })
      ∧ (∀ p r, s.emitNow = some (p, r) → x = .paperPresent → level = false → r.phase = .printing →
        s.chanP.state = .paused ∨ s.chanP.state = .boundaryWait ∧ s.emit.strobing = none →
        ∃ t, exec expiry s = .next t ∧ s.chanP.Stopped t.chanP
          ∧ t.bands = s.bands.set p.band { s.bands[p.band] with draining := 0 }
          ∧ t.emit.storeA = PrintStore.none ∧ t.emit.storeB = PrintStore.none
          ∧ t.emit.record = some { r with
            paperLost := true, phase := .done, result := .paperOut, endReason := some .paperOut }
          ∧ (t.running .p).map (fun y => (y.result, y.figures)) = some (.paperOut, [wordNat r.printed, 3]))
      ∧ (∀ p r, s.captureNow = some (p, r) → x = .coverClosed → level = false → ∃ t, exec expiry s = .next t
        ∧ (r.phase = .done → t.capture.record = some r)
        ∧ (r.phase ≠ .done → t.capture.record = some { r with
            phase := .done, stepsInPhase := 0, endPhase := r.phase, result := .coverOpen }
          ∧ (s.chanD.state = .moving ∨ s.chanD.state = .paused → s.chanD.Stopped t.chanD)
          ∧ (∀ i, s.capture.clocking = some i → t.capture.store i = .empty
            ∧ t.bands[p.band].filling = s.bands[p.band].filling - 1)
          ∧ (s.capture.clocking = none → t.bands[p.band].filling = s.bands[p.band].filling)
          ∧ (∀ i line words, s.capture.store i = .writing line words → t.capture.store i = .writing line words)))
      ∧ (∀ p r, s.emitNow = some (p, r) → x = .coverClosed → level = false → ∃ t, exec expiry s = .next t
        ∧ (r.phase = .done → t.emit.record = some r)
        ∧ (r.phase ≠ .done → t.emit.record = some
            { r with phase := .done, result := .coverOpen, endReason := some .cover }
          ∧ (s.chanP.state = .moving ∨ s.chanP.state = .paused ∨ s.chanP.state = .boundaryWait →
            s.chanP.Stopped t.chanP)
          ∧ t.emit.storeA = PrintStore.none ∧ t.emit.storeB = PrintStore.none ∧ t.port.fetchReq = false
          ∧ t.bands[p.band].draining = 0 ∧ t.bands[p.band].c = s.bands[p.band].c
          ∧ t.bands[p.band].d = s.bands[p.band].d
          ∧ (t.running .p).map (fun y => (y.result, y.figures)) = some (.coverOpen, [wordNat r.printed, 6]))))

/-- The ends of a pause. PAUSE_TIMER_EXPIRY (R126): a paused capture ends STARVED with its lines counted and its claim in
clocking, if any, withdrawn; a paused emit ends STARVED with its lines given back. The channel stops hard. A channel whose
pause timer is stopped changes nothing (log 2). The events of Table 7-1, a drain, a fill, a strobe end and a write-back
end on the paced band, resume the channel with its pause timer stopped: k is 0, channel D enters MOVING at the interval of
level 0, counts the scan line and begins it or counts an overrun, and channel P enters BOUNDARY_WAIT (R125). While a BAND
NOTICE of the band waits, channel D stays PAUSED, and the admission of that notice resumes it (R128). -/
def Obligations.PauseLimitsStarve : Prop :=
  ∀ s : State,
    let held (x : Channel) : Channel :=
      let y := { x with state := .holding, asked := x.holdLevel, stepTimer := none, pauseTimer := none, paced := none }
      if x.holdTime = 0 then { y with state := .off, asked := 0, holdTimer := none }
      else { y with holdTimer := if x.holdTime = 255 then none else some x.holdTime }
    (∀ c, (s.chan c).state ≠ .paused ∨ (s.chan c).pauseTimer = none → exec (.pauseTimerExpiry c) s = .next s)
    ∧ (∀ p r, s.captureNow = some (p, r) → s.chanD.state = .paused → s.chanD.pauseTimer.isSome → r.phase ≠ .done →
      let v := (s.withChanD (held s.chanD)).withCapture
        { s.capture with record := some { r with
          phase := .done, stepsInPhase := 0, endPhase := r.phase, result := .starved } }
      (s.capture.storeA = .empty → s.capture.storeB = .empty → Leads (.pauseTimerExpiry .d) s
        (v.endOrder .d .capture .starved [wordNat r.captured, wordNat r.overruns, r.sum, wordNat r.phase.code]))
      ∧ (s.capture.clocking = none → ¬ (s.capture.storeA = .empty ∧ s.capture.storeB = .empty) →
        Leads (.pauseTimerExpiry .d) s v)
      ∧ (∀ i, s.capture.clocking = some i → ∃ t, exec (.pauseTimerExpiry .d) s = .next t
        ∧ t.capture.store i = .empty ∧ t.bands[p.band].filling = s.bands[p.band].filling - 1
        ∧ t.capture.record.map (·.result) = some .starved))
    ∧ (∀ p r, s.emitNow = some (p, r) → s.chanP.state = .paused → s.chanP.pauseTimer.isSome →
      Leads (.pauseTimerExpiry .p) s ((((((s.withPort { s.port with fetchReq := false }).withEmit
        { s.emit with
          storeA := PrintStore.none, storeB := PrintStore.none
          shiftReg := if s.emit.shifting.isSome then none else s.emit.shiftReg
          record := some { r with phase := .done, result := .starved, endReason := some .pauseLimit } }).withLines
            p.band { s.bands[p.band] with draining := 0 }).withChanP (held s.chanP))).endOrder .p .emit
              .starved [wordNat r.printed, 4]))
    ∧ (∀ p r, s.captureNow = some (p, r) → s.chanD.state = .paused →
      let b := s.bands[p.band]
      let ready := b.c + b.filling ≤ b.lines ∧ 0 < b.c
      let resumed (t : State) : Prop := t.chanD = { s.chanD with
          k := 0, state := .moving, asked := s.chanD.runLevel, holdTimer := none, pauseTimer := none
          stepTimer := some (intervalAt s.profiles[p.profile] 0) }
        ∧ ∃ r', t.capture.record = some r' ∧ r'.scanLines = (if 65535 ≤ r.scanLines + 1 then 65535 else r.scanLines + 1)
          ∧ (∀ i, s.capture.freeStore = some i → s.capture.clocking = none → (t.capture.store i ≠ .empty)
            ∧ r'.overruns = r.overruns)
          ∧ (s.capture.freeStore = none ∨ s.capture.clocking ≠ none →
            r'.overruns = if 65535 ≤ r.overruns + 1 then 65535 else r.overruns + 1)
      (∀ x, s.port.grant = some (.processor (.drain p.band b.d)) → s.passage.cpu = some x → b.role = .capture → ready →
        b.draining = 0 → ∃ t, exec .processorGrantEnd s = .next t
          ∧ (s.noticeWaits p.band = false → resumed t) ∧ (s.noticeWaits p.band = true → t.chanD = s.chanD))
      ∧ (∀ n a, s.port.grant = some (.mover n (.drain p.band b.d)) → s.mover.access (s.mover.next + n - 1) = some a →
        b.role = .capture → ready → b.draining = 0 → ∃ t, exec .moverGrantEnd s = .next t
          ∧ (s.noticeWaits p.band = false → resumed t) ∧ (s.noticeWaits p.band = true → t.chanD = s.chanD))
      ∧ (∀ pe re i, s.emitNow = some (pe, re) → s.emit.strobing = some i → pe.groups ≤ s.emit.group + 1 →
        pe.band = p.band → b.role = .copy → ready → 0 < b.draining → ∃ t, exec .strobeGroupEnd s = .next t
          ∧ (s.noticeWaits p.band = false → resumed t) ∧ (s.noticeWaits p.band = true → t.chanD = s.chanD))
      ∧ (∀ x rest note others, s.port.grant = some .report → s.reports.pending = x :: rest →
        admitNext s.reports.waiting = some (⟨.band, .notice p.band note⟩, others) →
        (∀ w ∈ others, ∀ other, w.item ≠ .notice p.band other) → b.c + b.filling < b.lines →
        ∃ t, exec .reportPostEnd s = .next t ∧ resumed t))
    ∧ (∀ p r, s.emitNow = some (p, r) → s.chanP.state = .paused → s.emit.shifted = none →
      let b := s.bands[p.band]
      let resumed : Channel := { s.chanP with
        k := 0, state := .boundaryWait, asked := s.chanP.runLevel, holdTimer := none, stepTimer := none
        pauseTimer := none }
      (∀ x, s.port.grant = some (.processor (.fill p.band b.f)) → s.passage.cpu = some x → b.role = .emit →
        b.c + b.filling < b.lines → ∃ t, exec .processorGrantEnd s = .next t ∧ t.chanP = resumed)
      ∧ (∀ n a, s.port.grant = some (.mover n (.fill p.band b.f)) → s.mover.access (s.mover.next + n - 1) = some a →
        b.role = .emit → b.c + b.filling < b.lines → ∃ t, exec .moverGrantEnd s = .next t ∧ t.chanP = resumed)
      ∧ (∀ pc rc i line words, s.captureNow = some (pc, rc) → s.port.grant = some (.writeBack i) →
        s.capture.store i = .writing line words → pc.band = p.band → 0 < b.filling →
        ∃ t, exec .writeBackEnd s = .next t ∧ t.chanP = resumed))

/-! ### The engines -/

/-- A step timer expires in a CAPTURE (R99 to R104, R122 to R124): a jam in APPROACH in place of a step, or a step at
level 0; in SKIP and EJECT a step by the ramp rule, the document lines of SKIP jamming at the maximum length (log 15);
in SCANNING and TAIL a step inside a line at the line's interval. A line boundary of SCANNING, and the end of SKIP,
enters TAIL if the trailing edge was taken, EJECT at the line limit, jams at the maximum document length, and else is
paced; one of TAIL enters EJECT with no tail left or at the line limit, and else is paced. A paced boundary counts the
capture supply L - C - filling count, 0 while a BAND NOTICE of the band waits (R71, R128): none pauses, and else channel
D proceeds at the least of k + 1, the top level and S - 1, counts a scan line, in TAIL lowers the tail left, and begins
a line in an EMPTY store, with its line-start pulse (R94), or counts an overrun without one. EJECT of no steps, and its
last step, end the order OK. The first interval of EJECT is by the ramp rule (log 14), the steps of APPROACH and EJECT
leave the steps in line (log 42), and which EMPTY store takes a line is log 28. -/
def Obligations.CapturesStepAndPace : Prop :=
  ∀ (s : State) (p : CaptureParams) (r : CaptureRecord), s.captureNow = some (p, r) → s.chanD.state = .moving →
    s.chanD.stepTimer.isSome →
    let d := s.chanD
    let c : Instr := .stepTimerExpiry .d
    let size : BitVec 3 := match d.mode with | .half => 1 | .full => 2
    let phase := match d.dir with | .forward => d.phase + size | .reverse => d.phase - size
    let stepped : Channel := { d with phase := phase, driven := d.driven.map fun _ => phase }
    let profile := s.profiles[p.profile]
    let b := s.bands[p.band]
    let supply := if s.noticeWaits p.band = true then 0 else b.lines - b.c - b.filling
    let more (n : Nat) : Nat := if 65535 ≤ n + 1 then 65535 else n + 1
    let doc := more r.docLines
    let limited := p.lineLimit ≠ 0 ∧ p.lineLimit ≤ r.scanLines
    let ramped (x : Channel) : Channel := { x with
      k := rampLevel profile x.k x.atLevel x.r
      atLevel := if rampLevel profile x.k x.atLevel x.r = x.k then x.atLevel else 0
      stepTimer := some (intervalAt profile (rampLevel profile x.k x.atLevel x.r)) }
    let counted : Channel := { stepped with atLevel := d.atLevel + 1, r := d.r - 1 }
    let stands (x : Channel) (q : CaptureRecord) : Prop :=
      Leads c s ((s.withChanD x).withCapture { s.capture with record := some q })
    let stops (q : CaptureRecord) (at' : CapturePhase) (result : Result) : Prop := ∃ t, exec c s = .next t
      ∧ t.chanD.phase = phase ∧ t.chanD.state ≠ .moving
      ∧ t.capture.record = some { q with phase := .done, stepsInPhase := 0, endPhase := at', result := result }
    let paced (x : Channel) (q : CaptureRecord) : Prop :=
      (supply = 0 → stands { x with
        state := .paused, asked := d.holdLevel, holdTimer := none, stepTimer := none
        pauseTimer := if p.pauseLimit = 0 then none else some p.pauseLimit } q)
      ∧ (supply ≠ 0 →
        let level := min (min (d.k + 1) (topLevel profile)) (supply - 1)
        let lined := { q with
          scanLines := more q.scanLines, tailLeft := if q.phase = .tail then q.tailLeft - 1 else q.tailLeft }
        ∃ t, exec c s = .next t ∧ t.chanD = { x with
            k := level, asked := d.runLevel, holdTimer := none, pauseTimer := none
            stepTimer := some (intervalAt profile level) }
          ∧ (∀ i, s.capture.freeStore = some i → s.capture.clocking = none →
            t.bands = s.bands.set p.band b.claim ∧ t.capture.store i = .clocking b.claimLine
            ∧ t.capture.record = some lined ∧ s.capture.lineStartPulse t.capture = true)
          ∧ (s.capture.freeStore = none ∨ s.capture.clocking ≠ none → t.bands = s.bands
            ∧ t.capture.record = some { lined with overruns := more q.overruns }
            ∧ s.capture.lineStartPulse t.capture = false))
    let ejects (x : Channel) (q : CaptureRecord) : Prop :=
      (p.ejectSteps = 0 → stops { q with stepsInPhase := 0 } .eject .ok)
      ∧ (p.ejectSteps ≠ 0 → stands (ramped { x with r := p.ejectSteps, atLevel := 0, paced := none })
        { q with phase := .eject, stepsInPhase := 0 })
    let tail (x : Channel) (q : CaptureRecord) : Prop :=
      (q.tailLeft = 0 ∨ limited → ejects x q) ∧ (q.tailLeft ≠ 0 → ¬ limited → paced x q)
    let scanning (x : Channel) (q : CaptureRecord) : Prop :=
      (r.trailing = true → tail x { q with phase := .tail, stepsInPhase := 0, tailLeft := p.tailLines })
      ∧ (r.trailing = false → limited → ejects x q)
      ∧ (r.trailing = false → ¬ limited → p.maxLength ≤ q.docLines → stops q .scanning .jam)
      ∧ (r.trailing = false → ¬ limited → q.docLines < p.maxLength → paced x q)
    let boundary := r.stepsInLine + 1 = p.stepsPerLine
    let lined := if boundary then { r with stepsInLine := 0, docLines := doc }
      else { r with stepsInLine := r.stepsInLine + 1 }
    let skipped := { lined with stepsInPhase := r.stepsInPhase + 1 }
    let scanned := { lined with stepsInPhase := more r.stepsInPhase }
    (r.phase = .approach →
      (p.jam ≤ r.stepsInPhase → ∃ t, exec c s = .next t ∧ t.chanD.phase = d.phase ∧ t.chanD.state ≠ .moving
        ∧ t.capture.record = some { r with
          phase := .done, stepsInPhase := 0, endPhase := .approach, result := .jam })
      ∧ (r.stepsInPhase < p.jam → Leads c s
        ((s.withChanD { stepped with stepTimer := some (intervalAt profile 0) }).withCapture
          { s.capture with record := some { r with stepsInPhase := r.stepsInPhase + 1 } })))
    ∧ (r.phase = .skip →
      let last := r.stepsInPhase + 1 = p.skipLines * p.stepsPerLine
      let long := p.maxLength ≤ skipped.docLines ∧ r.trailing = false
      (last → scanning { counted with paced := some (p.band, .capture) } { skipped with phase := .scanning, stepsInPhase := 0 })
      ∧ (¬ last → long → stops skipped .skip .jam)
      ∧ (¬ last → ¬ long → stands (ramped counted) skipped))
    ∧ (r.phase = .scanning ∨ r.phase = .tail → ¬ boundary →
      stands { stepped with stepTimer := some (intervalAt profile d.k) } scanned)
    ∧ (r.phase = .scanning → boundary → scanning stepped scanned)
    ∧ (r.phase = .tail → boundary → tail stepped scanned)
    ∧ (r.phase = .eject →
      (r.stepsInPhase + 1 = p.ejectSteps → stops { r with stepsInPhase := p.ejectSteps } .eject .ok)
      ∧ (r.stepsInPhase + 1 ≠ p.ejectSteps → stands (ramped counted) { r with stepsInPhase := r.stepsInPhase + 1 }))

/-- CLOCKING_END and WRITE_BACK_END (R55, R94, R97): the pixels of the line stand in the store, pixel n at bit 15 - (n mod
16) of word n / 16, and the store is WRITING; at the end of the write-back the words stand in DRAM and are summed, the
line is counted and is FULL, and the store is EMPTY. In a CAPTURE band a processor access held on the line is released and
judged again against the new state, and passes (R16, R66). The write-back of a line is asked at the Memory Port in the
event that ends its clocking, and that of a newer WRITING line in the event that ends the write-back before it (R97). A
pixel that the command does not bring is a free value (log 10). -/
def Obligations.LinesAreCaptured : Prop :=
  ∀ (s : State) (p : CaptureParams) (r : CaptureRecord) (i : StoreId), s.captureNow = some (p, r) →
    (∀ line (pixels : List Bool), s.capture.clocking = some i → s.capture.store i = .clocking line →
      ∃ words, Leads (.clockingEnd pixels) s (s.withCapture (s.capture.withStore i (.writing line words)))
        ∧ words.length = s.bands[p.band].width / 2
        ∧ ∀ n, n < 16 * words.length → (words.getD (n / 16) 0).getLsbD (15 - n % 16)
            = if n < pixels.length then pixels.getD n false else Config.unsampledPixel n)
    ∧ (∀ line (pixels : List Bool), s.capture.clocking = some i → s.capture.store i = .clocking line →
      s.port.captureReq = none → (∀ j, s.port.grant ≠ some (.writeBack j)) →
      (∀ l words, s.capture.store i.other ≠ .writing l words) → ∃ t, exec (.clockingEnd pixels) s = .next t
        ∧ t.port.captureReq = some i)
    ∧ (∀ line words, s.port.grant = some (.writeBack i) → s.capture.store i = .writing line words →
      s.port.captureReq = none → (∀ l ws, s.capture.store i.other = .writing l ws → ∃ t,
        exec .writeBackEnd s = .next t ∧ t.port.captureReq = some i.other)
      ∧ ((∀ l ws, s.capture.store i.other ≠ .writing l ws) → ∃ t,
        exec .writeBackEnd s = .next t ∧ t.port.captureReq = none))
    ∧ (∀ line words, s.port.grant = some (.writeBack i) → s.capture.store i = .writing line words →
      ∃ t, exec .writeBackEnd s = .next t
        ∧ t.dram = Memory.writeAll s.dram (wordTransfers (s.lineAddr p.band line) words).flatten
        ∧ t.capture.store i = .empty
        ∧ t.capture.record.map (fun x => (x.sum, x.captured))
          = some (words.foldl (· + ·) r.sum, if 65535 ≤ r.captured + 1 then 65535 else r.captured + 1)
        ∧ ∀ b : Fin 4, let x := if b = p.band then s.bands[b].writeBackEnd else s.bands[b]
          t.bands[b].c = x.c ∧ t.bands[b].f = x.f ∧ t.bands[b].d = x.d ∧ t.bands[b].filling = x.filling
            ∧ t.bands[b].draining = x.draining)
    ∧ (∀ line words x e offset, s.port.grant = some (.writeBack i) → s.capture.store i = .writing line words →
      let b := s.bands[p.band]
      b.Legal → b.role = .capture → 0 < b.filling → s.passage.cpu = some x → x.status = .held (.line p.band b.f) →
      s.ReachesWindows x.acc → s.restAddress ≠ some x.acc.at → s.windowAt x.acc.at = some e →
      s.windows[e].kind = .band → s.bandPlace x.acc.at = some (p.band, b.f, offset) →
      ∃ t obs, exec .writeBackEnd s = .next t ∧ b.writeBackEnd.judge p.band b.f offset x.acc.op = .pass obs
        ∧ t.passage.cpu.map (fun y => (y.acc, y.status)) = some (x.acc, .passing (.band p.band (some obs))))

/-- A step timer expires in an EMIT (R115 to R117, R122, R123): a step inside a line at the line's interval; at a line
boundary lost paper ends PAPER_OUT with the lines given back, the end enters TAIL from the present level, or for no tail
feed ends OK, no supply pauses, and else channel P waits at the boundary with the level of R122, and line D is latched
and strobed if its store is SHIFTED. The end is a count that is reached, COUNT DONE; for an open emit C of 0 with closed
set in an EMIT band, CLOSED, or in a COPY band with no CAPTURE of the band running or waiting in the D queue, CAPTURE
DONE (R116). The steps of TAIL go by the ramp rule, and its last ends the order OK with its lines printed and its end
reason. That the ramp rule gives the first interval of a TAIL entered in motion, at the boundary itself, is the model's
reading (log 14), and that the steps of TAIL leave the steps in line its choice (log 42). When a CAPTURE leaves the D
queue, with MOVEs of channel D and CAPTUREs of other bands behind it at most, an open emit of a COPY band PAUSED with C
at 0 enters TAIL at level 0, or ends OK for no tail feed (R116), the queues being legal, as O3 has them stay. -/
def Obligations.EmitsStepAndPace : Prop :=
  (∀ (s : State) (p : EmitParams) (r : EmitRecord), s.emitNow = some (p, r) → s.chanP.state = .moving →
    s.chanP.stepTimer.isSome →
    let d := s.chanP
    let c : Instr := .stepTimerExpiry .p
    let size : BitVec 3 := match d.mode with | .half => 1 | .full => 2
    let phase := match d.dir with | .forward => d.phase + size | .reverse => d.phase - size
    let stepped : Channel := { d with phase := phase, driven := d.driven.map fun _ => phase }
    let profile := s.profiles[p.profile]
    let supply := s.bands[p.band].c
    let level := min (min (d.k + 1) (topLevel profile)) (supply - 1)
    let boundary := r.phase = .printing ∧ r.stepsInLine + 1 = p.stepsPerLine
    let gone := ∀ o, (s.running .d).map (·.order) = some o ∨ o ∈ s.intake.dQueue.waiting →
      ∀ y, o.work = .capture y → y.band ≠ p.band
    let role := s.bands[p.band].role
    let ends := p.lineCount ≠ 0 ∧ p.lineCount ≤ r.printed
      ∨ p.lineCount = 0 ∧ supply = 0 ∧ (role = .emit ∧ r.closed = true ∨ role = .copy ∧ gone)
    let figures : List Word := [wordNat r.printed, if p.lineCount ≠ 0 then 0 else if role = .copy then 2 else 1]
    let ramped (x : Channel) : Channel := { x with
      k := rampLevel profile x.k x.atLevel x.r
      atLevel := if rampLevel profile x.k x.atLevel x.r = x.k then x.atLevel else 0
      stepTimer := some (intervalAt profile (rampLevel profile x.k x.atLevel x.r)) }
    let running := r.paperLost = false ∧ ¬ ends
    (r.phase = .printing → r.stepsInLine + 1 ≠ p.stepsPerLine → Leads c s
      ((s.withChanP { stepped with stepTimer := some (intervalAt profile d.k) }).withEmit
        { s.emit with record := some { r with stepsInLine := r.stepsInLine + 1 } }))
    ∧ (boundary → r.paperLost = true → ∃ t, exec c s = .next t ∧ t.chanP.phase = phase ∧ t.chanP.state ≠ .moving
      ∧ t.bands = s.bands.set p.band { s.bands[p.band] with draining := 0 }
      ∧ t.emit.storeA = PrintStore.none ∧ t.emit.storeB = PrintStore.none
      ∧ (t.running .p).map (fun x => (x.result, x.figures)) = some (.paperOut, [wordNat r.printed, 3]))
    ∧ (boundary → r.paperLost = false → ends →
      (p.tailFeed = 0 → ∃ t, exec c s = .next t ∧ t.chanP.phase = phase ∧ t.chanP.state ≠ .moving
        ∧ (t.running .p).map (fun x => (x.result, x.figures)) = some (.ok, figures))
      ∧ (p.tailFeed ≠ 0 → Leads c s
        ((s.withChanP (ramped { stepped with r := p.tailFeed, atLevel := 0, paced := none })).withEmit
          { s.emit with record := some { r with stepsInLine := 0, phase := .tail } })))
    ∧ (boundary → running → supply = 0 → Leads c s ((s.withChanP { stepped with
        state := .paused, asked := d.holdLevel, holdTimer := none, stepTimer := none
        pauseTimer := if p.pauseLimit = 0 then none else some p.pauseLimit }).withEmit
          { s.emit with record := some { r with stepsInLine := 0 } }))
    ∧ (boundary → running → supply ≠ 0 → ∃ t, exec c s = .next t ∧ t.chanP = { stepped with
        k := level, state := .boundaryWait, asked := d.runLevel, holdTimer := none, stepTimer := none
        pauseTimer := none }
      ∧ t.emit.record = some { r with stepsInLine := 0 }
      ∧ ∀ i, s.emit.strobing = none → s.emit.shifted = some i →
        (t.emit.store i).state = .strobing ∧ t.emit.group = 0 ∧ t.emit.latch = s.emit.shiftReg
          ∧ s.emit.latchPulse t.emit = true)
    ∧ (r.phase = .tail → 2 ≤ d.r →
      Leads c s (s.withChanP (ramped { stepped with atLevel := d.atLevel + 1, r := d.r - 1 })))
    ∧ (r.phase = .tail → d.r ≤ 1 → ∃ t, exec c s = .next t ∧ t.chanP.phase = phase ∧ t.chanP.state ≠ .moving
      ∧ (t.running .p).map (fun x => (x.result, x.figures)) = some (.ok, figures)))
  ∧ (∀ (s : State) (p : EmitParams) (r : EmitRecord) (ro : Running) (pc : CaptureParams) (w : FinalWrite),
      QueuesLegal s → s.emitNow = some (p, r) → s.chanP.state = .paused → p.lineCount = 0 →
      s.bands[p.band].role = .copy → s.bands[p.band].c = 0 → s.port.grant = some (.intake (.final w)) → w.owner = .queue .d →
      s.running .d = some ro → ro.stage = .entered → ro.order.work = .capture pc →
      (∀ o ∈ s.intake.dQueue.waiting,
        (∃ y, o.work = .move y ∧ y.chan = .d) ∨ ∃ y, o.work = .capture y ∧ y.band ≠ p.band) →
      (p.tailFeed = 0 → ∃ t, exec .finalWriteEnd s = .next t ∧ s.chanP.Stopped t.chanP
        ∧ (t.running .p).map (fun x => (x.result, x.figures)) = some (.ok, [wordNat r.printed, 2]))
      ∧ (p.tailFeed ≠ 0 → ∃ t, exec .finalWriteEnd s = .next t ∧ t.emit.record = some { r with phase := .tail }
        ∧ t.chanP = { s.chanP with
          k := 0, r := p.tailFeed, atLevel := 0, paced := none, state := .moving, asked := s.chanP.runLevel
          holdTimer := none, pauseTimer := none, stepTimer := some (intervalAt s.profiles[p.profile] 0) }))

/-- FETCH_GRANT_END, SHIFT_END and STROBE_GROUP_END (R60, R108, R110 to R112): the words of the line are in the store
and the shift begins where the register is free, be the other store EMPTY or STROBING, the older of two lines going
first; the line shifted stands in the register; the next group is strobed, and after the last the line is EMPTY, printed
and counted, its store EMPTY, and channel P makes the steps of the line, or, the emit having been told to stop, its
other lines are given back, channel P stops hard and it ends ABORTED (R120). In these events, and where a grant of the
processor, the mover or a write-back ends, a fetch is asked at the Memory Port exactly where PRINTING, an EMPTY store, a
ready line not DRAINING, paper, no stop and a count not reached give it, and one that waits stays (R110). While a line
is under heat the strobe output of its group is on and no other, and the black dots of that group, of equal groups
counted from dot 0, are heated (R108). The serial data output presents pixel n of the SHIFTING line at shift clock n,
from bit 15 of word 0 on, and the latch output gives its pulse in the event that brings a line under heat and in no
event that does not (R108; log 33). The register holds only whole lines (log 26). -/
def Obligations.LinesArePrinted : Prop :=
  ∀ (s : State) (p : EmitParams) (r : EmitRecord) (i : StoreId), s.emitNow = some (p, r) →
    (s.port.grant = some (.fetch i) → (s.emit.store i).state = .loading →
      let words := s.dramWords (s.lineAddr p.band (s.emit.store i).line) (s.bands[p.band].width / 2)
      ∃ t, exec .fetchGrantEnd s = .next t ∧ (t.emit.store i).words = words ∧ t.port.grant = none
        ∧ t.dram = s.dram
        ∧ (s.emit.shifting = none → s.emit.shifted = none → (s.emit.store i.other).state ≠ .fetched →
          (t.emit.store i).state = .shifting)
        ∧ (s.emit.shifting = none → s.emit.shifted = none → (s.emit.store i.other).state = .fetched →
          (t.emit.store s.emit.older).state = .shifting ∧ (t.emit.store s.emit.older.other).state = .fetched)
        ∧ (s.emit.shifting.isSome ∨ s.emit.shifted.isSome → (t.emit.store i).state = .fetched))
    ∧ (s.emit.shifting = some i → s.chanP.state ≠ .boundaryWait → Leads .shiftEnd s (s.withEmit
      { s.emit.withStore i { s.emit.store i with state := .shifted } with
        shiftReg := some (s.emit.store i).words }))
    ∧ (s.emit.shifting = some i → s.chanP.state = .boundaryWait → s.emit.strobing = none → s.emit.shifted = none → ∃ t,
      exec .shiftEnd s = .next t ∧ (t.emit.store i).state = .strobing ∧ t.emit.group = 0
        ∧ t.emit.latch = some (s.emit.store i).words ∧ s.emit.latchPulse t.emit = true)
    ∧ (s.emit.shifting = some i → ∀ n, n < 16 * (s.emit.store i).words.length →
      s.emit.serialData n = some (((s.emit.store i).words.getD (n / 16) 0).getLsbD (15 - n % 16)))
    ∧ (∀ t, s.emit.strobing = none → exec .shiftEnd s = .next t → t.emit.strobing = none →
      s.emit.latchPulse t.emit = false)
    ∧ (s.emit.strobing = some i → s.emit.group + 1 < p.groups → exec .strobeGroupEnd s = .next
      (s.withEmit { s.emit with group := s.emit.group + 1 }))
    ∧ (s.emit.strobing = some i → p.groups ≤ s.emit.group + 1 → r.stopAsked = false → ∃ t,
      exec .strobeGroupEnd s = .next t ∧ (t.emit.store i) = PrintStore.none
        ∧ t.emit.record.map (·.printed) = some (if 65535 ≤ r.printed + 1 then 65535 else r.printed + 1)
        ∧ t.chanP = { s.chanP with
          state := .moving, asked := s.chanP.runLevel, holdTimer := none, pauseTimer := none
          stepTimer := some (intervalAt s.profiles[p.profile] s.chanP.k) }
        ∧ t.bands[p.band].c = s.bands[p.band].strobeEnd.c ∧ t.bands[p.band].d = s.bands[p.band].strobeEnd.d
        ∧ t.bands[p.band].f = s.bands[p.band].f ∧ t.bands[p.band].draining = s.bands[p.band].strobeEnd.draining)
    ∧ (s.emit.strobing = some i → p.groups ≤ s.emit.group + 1 → r.stopAsked = true →
      let printed := if 65535 ≤ r.printed + 1 then 65535 else r.printed + 1
      ∃ t, exec .strobeGroupEnd s = .next t
        ∧ t.emit.storeA = PrintStore.none ∧ t.emit.storeB = PrintStore.none ∧ t.port.fetchReq = false
        ∧ t.emit.record = some
          { r with printed := printed, phase := .done, result := .aborted, endReason := some .abort }
        ∧ t.bands[p.band].c = s.bands[p.band].strobeEnd.c ∧ t.bands[p.band].d = s.bands[p.band].strobeEnd.d
        ∧ t.bands[p.band].f = s.bands[p.band].f ∧ t.bands[p.band].draining = 0
        ∧ (s.chanP.state = .boundaryWait → s.chanP.Stopped t.chanP)
        ∧ (t.running .p).map (fun x => (x.result, x.figures)) = some (.aborted, [wordNat printed, 5]))
    ∧ (∀ c t, exec c s = .next t →
      c = .fetchGrantEnd ∧ s.port.grant = some (.fetch i) ∨ c = .shiftEnd ∧ s.emit.shifting = some i
        ∨ c = .strobeGroupEnd ∧ s.emit.strobing = some i ∧ p.groups ≤ s.emit.group + 1 ∧ r.stopAsked = false
        ∨ c = .processorGrantEnd ∧ (∃ obs, s.port.grant = some (.processor obs)) ∧ s.passage.cpu ≠ none
        ∨ c = .moverGrantEnd ∧ (∃ n obs, s.port.grant = some (.mover n obs))
        ∨ c = .writeBackEnd ∧ (∃ j l ws, s.port.grant = some (.writeBack j) ∧ s.capture.store j = .writing l ws)
          ∧ s.captureNow ≠ none →
      (t.port.fetchReq = true ↔ s.port.fetchReq = true ∨ ∃ q, t.emitNow = some (p, q) ∧ q.phase = .printing
        ∧ (t.emit.storeA.state = .empty ∨ t.emit.storeB.state = .empty)
        ∧ t.bands[p.band].draining < t.bands[p.band].c ∧ t.bands[p.band].draining < 2
        ∧ q.paperLost = false ∧ q.stopAsked = false
        ∧ (p.lineCount = 0 ∨ q.printed + t.bands[p.band].draining < p.lineCount)))
    ∧ (∀ j, s.emit.strobeOutput j = true ↔ s.emit.strobing ≠ none ∧ j = s.emit.group)
    ∧ (∀ groups dot, s.emit.heats groups dot = true ↔ ∃ ws, s.emit.latch = some ws
      ∧ (ws.getD (dot / 16) 0).getLsbD (15 - dot % 16) = true ∧ s.emit.strobing ≠ none
      ∧ dot / (16 * ws.length / groups) = s.emit.group)

/-- MOVER_GRANT_END (R137, R138, R142): the words read are in the buffer, marked valid, and the words written stand in
DRAM, are counted and are summed; a word held at the grant and cancelled since is passed over (R18, R65); an ABORT that
waited for the grant ends the transfer ABORTED and discards the chunk buffer (log 44). The last word makes the
observation of its grant (R65): a fill or a drain moves the marks of its band, the notice test following, and out of
turn BAND_ORDER is raised with the mover as requester (R57, R58, R63, R64); a channel PAUSED on the band resumes, as
stated with the pauses; a band that no longer stands as judged is left (log 20). The next word of the chunk then goes
on: passing, a burst is asked for it; held by the Band Unit, the mover is HELD on it and asks nothing (R139); dropped,
it is not moved and its fault is raised with the mover as requester (R138). A chunk that has been read is written from
its first word, a chunk that has been written is followed by the next one of at most 16 words, by segment 2 if it has a
length, or by the end OK with the words moved and the sum (R136, R141). -/
def Obligations.MoverGrantsDoTheirWords : Prop :=
  ∀ (s : State) (n : Nat) (obs : Obs), s.port.grant = some (.mover n obs) →
    let m := s.mover
    let v := s.withPort { s.port with grant := none }
    let source (i : Nat) : Word :=
      if 0xE00000 ≤ m.sourceAddr i then s.romWord (m.sourceAddr i - 0xE00000) else s.dramWord (m.sourceAddr i)
    let written := (List.range n).map fun j => (m.wordToWrite (m.next + j)).getD 0
    let read := { m with
      buffer := m.buffer ++ (List.range n).map fun j => some (source (m.next + j)), next := m.next + n }
    let wrote := { m with moved := m.moved + n, sum := written.foldl (· + ·) m.sum, next := m.next + n }
    let stored := Memory.writeAll s.dram (wordTransfers (m.destAddr m.next) written).flatten
    let reads := m.state = .reading ∨ m.state = .held ∧ m.heldWrite = false
    let writes := m.state = .writing ∨ m.state = .held ∧ m.heldWrite = true
    let words := (if m.segment = 1 then m.params.seg1 else m.params.seg2).length / 2
    let ended (m' : Mover) (r : Result) : Prop := ∀ ro, s.running .mover = some ro → ∃ t,
      exec .moverGrantEnd s = .next t ∧ t.mover.state = .ending ∧ t.port.moverReq = none
        ∧ (r = .aborted → t.mover.buffer = [])
        ∧ t.dram = (if m.state = .writing then stored else s.dram)
        ∧ (t.running .mover).map (fun x => (x.result, x.figures))
          = some (r, [wordNat (m'.moved / 65536), wordNat m'.moved, m'.sum])
    (obs = .nothing →
      (reads → m.aborting = false → m.passOver = false → Leads .moverGrantEnd s (v.withMover read))
      ∧ (writes → m.aborting = false → m.passOver = false →
        Leads .moverGrantEnd s ((v.withDram stored).withMover wrote))
      ∧ (m.state = .reading → m.aborting = false → m.passOver = true → Leads .moverGrantEnd s
        (v.withMover { read with next := read.next + 1, buffer := read.buffer ++ [none], passOver := false }))
      ∧ (m.state = .writing → m.aborting = false → m.passOver = true → Leads .moverGrantEnd s
        ((v.withDram stored).withMover { wrote with next := wrote.next + 1, passOver := false }))
      ∧ (∀ m' a, m.aborting = false → m.passOver = false → s.port.moverReq = none →
        (m.state = .reading ∧ m' = read ∨ m.state = .writing ∧ m' = wrote) → m'.next < m'.chunkFirst + m'.chunkSize →
        m'.access m'.next = some a → ∃ t, exec .moverGrantEnd s = .next t
          ∧ (∀ path, s.classify .mover a = .pass path → t.mover = m' ∧ t.port.moverReq ≠ none)
          ∧ (∀ b line, s.classify .mover a = .hold (.line b line) → t.port.moverReq = none ∧ t.mover = { m' with
            state := .held, heldOn := some (b, line), heldWrite := decide (m.state = .writing) })
          ∧ (∀ code reason addr data, s.classify .mover a = .drop code reason addr data → s.hasReports = true →
            s.reports.pending.length < 8 → t.mover.moved = m'.moved ∧ t.mover.sum = m'.sum
              ∧ s.reports.pending ++ [passageReport ⟨code, reason, .mover, a.op, addr, 0⟩ s.passage.unposted]
                <+: t.reports.pending))
      ∧ (m.aborting = false → m.passOver = false → s.port.moverReq = none → 0 < m.chunkSize →
        m.next + n = m.chunkFirst + m.chunkSize →
        let begins (m' : Mover) : Prop := ∀ a path, m'.access m'.next = some a → s.classify .mover a = .pass path →
          ∃ t, exec .moverGrantEnd s = .next t ∧ t.mover = m' ∧ t.port.moverReq ≠ none
        let chunk (y : Mover) (first words : Nat) : Mover := { y with
          chunkFirst := first, chunkSize := min 16 (words - first), next := first, buffer := []
          state := if y.params.mode = .copy then .reading else .writing }
        (m.state = .reading → begins { read with state := .writing, next := m.chunkFirst })
        ∧ (m.state = .writing → m.next + n < words → begins (chunk wrote (m.next + n) words))
        ∧ (m.state = .writing → words ≤ m.next + n → m.segment = 1 → 2 ≤ m.params.seg2.length →
          begins (chunk { wrote with segment := 2 } 0 (m.params.seg2.length / 2)))))
    ∧ (m.state = .writing → m.aborting = false → m.passOver = false → s.port.moverReq = none →
      m.next + n = m.chunkFirst + m.chunkSize → words ≤ m.next + n → m.segment ≠ 1 ∨ m.params.seg2.length = 0 →
      ended wrote .ok)
    ∧ (m.state = .reading → m.aborting = true → ended read .aborted)
    ∧ (m.state = .writing → m.aborting = true → ended wrote .aborted)
    ∧ (∀ a m' d, m.aborting = false → m.passOver = false → m.access (m.next + n - 1) = some a →
      (m.state = .reading ∧ m' = read ∧ d = s.dram ∨ m.state = .writing ∧ m' = wrote ∧ d = stored) →
      let u := (v.withDram d).withMover m'
      (∀ b line, obs = .fill b line → let y := s.bands[b]
        (y.role = .emit → line = y.f → y.c + y.filling < y.lines →
          (∀ p r, s.emitNow = some (p, r) → p.band = b → s.chanP.state ≠ .paused) → Leads .moverGrantEnd s
            (u.withCount b { y with c := y.c + 1, f := (y.f + 1) % y.lines } true))
        ∧ (y.role ≠ .emit ∨ line ≠ y.f ∨ y.lines ≤ y.c → Leads .moverGrantEnd s u))
      ∧ (∀ b line, obs = .drain b line → let y := s.bands[b]
        (y.role = .capture → line = y.d → y.draining < y.c →
          (∀ p r, s.captureNow = some (p, r) → p.band = b → s.chanD.state ≠ .paused) → Leads .moverGrantEnd s
            (u.withCount b { y with c := y.c - 1, d := (y.d + 1) % y.lines } false))
        ∧ (y.role ≠ .capture ∨ line ≠ y.d ∨ y.c = 0 → Leads .moverGrantEnd s u))
      ∧ (∀ b, obs = .bandOrder b → Leads .moverGrantEnd s
        (u.raiseFault ⟨.bandOrder, .noReason, .mover, a.op, a.addr, b.val⟩)))

/-! ### The Power Unit -/

/-- SLEEP_ENTRY, SELF_REFRESH_ENTRY and SLEEP_LIMIT_EXPIRY (R23, R76, R146, R147): with a rest read held and nothing to
report, the sleep limit stops, the motors are de-energised and self-refresh is asked; with DRAM in self-refresh the
clock stops and the machine is SLEEPING with its watches afresh; a sleep not entered at its limit ends ABANDONED. Between
the two events the state is still SLEEP_PENDING, and a sleep is entered only with no wake word of an earlier sleep still to
be written: both are the model's (log 16). -/
def Obligations.SleepIsEnteredOrAbandoned : Prop :=
  ∀ (s : State) (w : WakeSettings), s.power.settings = some w →
    let off (c : Channel) : Channel := if c.state = .holding then
      { c with state := .off, asked := 0, holdTimer := none, stepTimer := none, pauseTimer := none } else c
    (∀ x, s.power.state = .sleepPending → s.power.entering = false → s.passage.cpu = some x → x.status = .held .rest →
      s.reports.pending = [] → s.reports.waiting = [] → s.power.wakeWrites = [] → Leads .sleepEntry s
        ((((s.withChanD (off s.chanD)).withChanP (off s.chanP)).withPort { s.port with selfAsked := true }).withPower
          { s.power with sleepLimit := false, entering := true }))
    ∧ (s.port.selfAsked = true → s.port.grant = none → s.port.refreshDue = false → s.port.dram = .active →
      Leads .selfRefreshEntry s
        ((((s.withPort { s.port with dram := .selfRefresh, refreshTimer := false, selfAsked := false }).withPins
          { s.pins with clock := false }).withRing { s.ring with qualified := 0, window := false }).withPower
            { s.power with
              state := .sleeping, entering := false, sleepLimit := false, confirmTimer := none
              wakeTimer := if w.timerOn then some w.timer else none
              patternTimers := Vector.ofFn fun p => w.patternOn.getLsbD p.val && s.matches w.patterns[p] }))
    ∧ (s.power.state = .sleepPending → s.power.sleepLimit = true → ∃ t, exec .sleepLimitExpiry s = .next t
      ∧ t.power = { Power.reset with wakeWrites := s.power.wakeWrites } ∧ t.port.selfAsked = false
      ∧ (⟨.sleep, w.slot, kindSleep, .abandoned⟩ ∈ t.intake.finalWrites
        ∨ t.port.intakeReq = some (.final ⟨.sleep, w.slot, kindSleep, .abandoned⟩))
      ∧ ∀ x, t.passage.cpu = some x → x.status ≠ .held .rest)
    ∧ (s.power.state ≠ .sleepPending ∨ s.power.sleepLimit = false → exec .sleepLimitExpiry s = .next s)

/-- PATTERN_TIMER_EXPIRY and WAKE_TIMER_EXPIRY (R147 to R150): in SLEEPING the cause starts the wake: WAKE_CONFIRM with the
watches stopped, DRAM ACTIVE with a refresh due, and the wake word, with cause, lapse count and muted flag, to be
written at the rest address; its write is asked at the Memory Port in the same event, or after the processor request in
hand (R21). In SLEEP_PENDING a pattern ends the sleep WOKEN_EARLY and raises a POWER WAKE report of
kind EARLY, which the model offers with the event (log 17). That it ends so also while the entry is under way, the ask for
self-refresh withdrawn, is log 16, and that the muted flag is taken with the cause log 38. The cause RINGING is stated
with the bursts. -/
def Obligations.WakeCausesAreTaken : Prop :=
  ∀ (s : State) (w : WakeSettings), s.power.settings = some w →
    let word (cause : Nat) : Word := wordNat (cause + s.power.lapse * 16 + if s.ring.muted then 256 else 0)
    let woken (cause : Nat) : State :=
      (s.withPort (if s.port.dram = .selfRefresh
        then { s.port with dram := .active, refreshTimer := true, refreshDue := true } else s.port)).withPower
          { s.power with
            state := .wakeConfirm, stage := .waking, wakeTimer := none, patternTimers := Vector.replicate 4 false
            wakeWrites := s.power.wakeWrites ++ [(w.rest, word cause)] }
    (∀ p : Fin 4, s.power.patternTimers[p] = true → s.power.state = .sleeping →
      Leads (.patternTimerExpiry p) s (woken (p.val + 1)))
    ∧ (∀ c : Instr, (∃ p : Fin 4, c = .patternTimerExpiry p ∧ s.power.patternTimers[p] = true
        ∧ (s.power.state = .sleeping ∨ s.power.state = .sleepPending))
        ∨ c = .wakeTimerExpiry ∧ s.power.state = .sleeping ∧ s.power.wakeTimer.isSome → ∃ t, exec c s = .next t
      ∧ (s.port.procReq = none → (∀ obs, s.port.grant ≠ some (.processor obs)) → s.port.grant ≠ some .wakeWord →
        t.port.procReq = some .wakeWord)
      ∧ (s.port.procReq ≠ none → t.port.procReq = s.port.procReq))
    ∧ (∀ obs x, s.port.grant = some (.processor obs) → s.passage.cpu = some x → s.port.procReq = none →
      s.power.wakeWrites ≠ [] → ∃ t, exec .processorGrantEnd s = .next t ∧ t.port.procReq = some .wakeWord)
    ∧ (s.power.state = .sleeping → s.power.wakeTimer.isSome → Leads .wakeTimerExpiry s (woken 5))
    ∧ (∀ p : Fin 4, s.power.patternTimers[p] = true → s.power.state = .sleepPending → s.hasReports = true →
      s.reports.pending.length < 8 → s.powerWaits 1 = false → Leads (.patternTimerExpiry p) s
        ((((s.withPower { Power.reset with wakeWrites := s.power.wakeWrites ++ [(w.rest, word (p.val + 1))] }).withPort
          { s.port with selfAsked := false }).withIntake { s.intake with
            finalWrites := s.intake.finalWrites ++ [⟨.sleep, w.slot, kindSleep, .wokenEarly⟩] }).withReports
              { s.reports with
                pending := s.reports.pending ++ [⟨.power, 1, [word (p.val + 1), 2, 0, 0, 0, 0, 0]⟩] }))
    ∧ (∀ p : Fin 4, s.power.patternTimers[p] = false → exec (.patternTimerExpiry p) s = .next s)

/-- WAKE_WORD_WRITTEN and CONFIRM_TIMER_EXPIRY (R149, R150, R152): the wake word stands at the rest address, the clock
runs and the rest read is released, the SLEEP slot's final write with the result OK falls due at the first wake, a POWER
WAKE report enters, of kind FIRST at the first wake and AFTER LAPSE later, then a POWER MUTED report held through the
sleep (R155), and the confirm timer starts, or a notice kept confirms the wake. The first and the second lapse begin a
return to sleep with the lapse count raised (R152): the clock stops when no processor access is outstanding, at the end
of its grant where one is; then reports are posted until the pending queue is empty or the report area is full; then
both channels are de-energised and self-refresh is asked. That the wake goes on while the slot's final write is only
owed is the model's reading (log 32). After a sleep that ended WOKEN_EARLY the machine is RUNNING: the wake word then
stands at the rest address, a held rest read is released and judged again, and nothing else follows, the report of kind
EARLY and the slot's final write having been made due at the end of the sleep (R147). -/
def Obligations.WakesAreWrittenAndConfirmed : Prop :=
  (∀ (s : State) (a : Nat) (word : Word) (rest : List (Nat × Word)), s.port.grant = some .wakeWord →
      s.power.wakeWrites = (a, word) :: rest → s.power.state = .running →
      let u := (((s.withDram
          (Memory.writeAll s.dram [(a, word.extractLsb' 8 8), (a + 1, word.extractLsb' 0 8)])).withPort
        { s.port with grant := none }).withPower { s.power with wakeWrites := rest })
      ((∀ x, s.passage.cpu = some x → x.status ≠ .held .rest) → Leads .wakeWordWritten s u)
      ∧ (∀ x path, s.passage.cpu = some x → x.status = .held .rest → s.classify .processor x.acc = .pass path →
        Leads .wakeWordWritten s (u.withCpu (some ⟨x.acc, .passing path, x.timer.stop⟩))))
  ∧ ∀ (s : State) (w : WakeSettings) (a : Nat) (word : Word) (rest : List (Nat × Word)), s.power.settings = some w →
    (s.port.grant = some .wakeWord → s.power.wakeWrites = (a, word) :: rest → s.power.state = .wakeConfirm →
      s.power.stage = .waking → ∃ t, exec .wakeWordWritten s = .next t
        ∧ t.dram = Memory.writeAll s.dram [(a, word.extractLsb' 8 8), (a + 1, word.extractLsb' 0 8)]
        ∧ t.pins.clock = true ∧ t.power.wakeWrites = rest
        ∧ (∀ x, t.passage.cpu = some x → x.status ≠ .held .rest)
        ∧ (w.ended = false → ⟨.sleep, w.slot, kindSleep, .ok⟩ ∈ t.intake.finalWrites
          ∨ t.port.intakeReq = some (.final ⟨.sleep, w.slot, kindSleep, .ok⟩))
        ∧ (∀ x path, s.passage.cpu = some x → x.status = .held .rest → s.classify .processor x.acc = .pass path →
          t.passage.cpu.map (fun y => (y.acc, y.status)) = some (x.acc, .passing path))
        ∧ (s.hasReports = true → s.reports.pending = [] → s.powerWaits 1 = false →
          (∀ x, s.passage.cpu = some x → x.status = .held .rest → ∃ path, s.classify .processor x.acc = .pass path) →
          let wake : Report := ⟨.power, 1, [word, if s.power.lapse = 0 then 0 else 1, 0, 0, 0, 0, 0]⟩
          [wake] <+: t.reports.pending
            ∧ ∀ m, s.ring.heldMuted = some m → s.powerWaits m.code = false → [wake, m] <+: t.reports.pending)
        ∧ t.ring.heldMuted = none
        ∧ (s.power.noticeKept = false → t.power.state = .wakeConfirm ∧ t.power.stage = .confirming
          ∧ t.power.confirmTimer = some w.confirm)
        ∧ (s.power.noticeKept = true → t.power.state = .running ∧ t.power.settings = none))
    ∧ (s.power.state = .wakeConfirm → s.power.confirmTimer.isSome → s.power.lapse ≤ 1 →
      ∀ words, Leads (.confirmTimerExpiry words) s
        (s.withPower { s.power with lapse := s.power.lapse + 1, confirmTimer := none, stage := .stopClock }))
    ∧ (let off (c : Channel) : Channel := if c.state = .holding then
        { c with state := .off, asked := 0, holdTimer := none, stepTimer := none, pauseTimer := none } else c
      let stays (t : State) : Prop := t.chanD = s.chanD ∧ t.chanP = s.chanP ∧ t.port.selfAsked = s.port.selfAsked
      let asked (t : State) : Prop := t.power.stage = .awaitRefresh ∧ t.port.selfAsked = true
        ∧ t.chanD = off s.chanD ∧ t.chanP = off s.chanP
      let full := s.reports.count ≤ s.reports.unconsumed.length
      s.power.state = .wakeConfirm → s.moverFree = false →
      (∀ words, s.power.confirmTimer.isSome → s.power.lapse ≤ 1 → ∃ t, exec (.confirmTimerExpiry words) s = .next t
        ∧ (s.passage.cpu ≠ none → t.power.stage = .stopClock ∧ t.pins.clock = s.pins.clock ∧ stays t)
        ∧ (s.passage.cpu = none → t.pins.clock = false
          ∧ (s.reports.pending ≠ [] → ¬ full → t.power.stage = .postReports ∧ stays t)
          ∧ (s.reports.pending = [] ∨ full → asked t)))
      ∧ (∀ obs x, s.power.stage = .stopClock → s.port.grant = some (.processor obs) → s.passage.cpu = some x → ∃ t,
        exec .processorGrantEnd s = .next t ∧ t.pins.clock = false ∧ t.power.stage ≠ .stopClock)
      ∧ (∀ x rest, s.power.stage = .postReports → s.port.grant = some .report → s.reports.pending = x :: rest →
        s.reports.waiting = [] → ∃ t, exec .reportPostEnd s = .next t
        ∧ (rest ≠ [] → s.reports.unconsumed.length + 1 < s.reports.count → t.power.stage = .postReports ∧ stays t)
        ∧ (rest = [] ∨ s.reports.count ≤ s.reports.unconsumed.length + 1 → asked t)))
    ∧ (s.power.state ≠ .wakeConfirm ∨ s.power.confirmTimer = none →
      ∀ words, exec (.confirmTimerExpiry words) s = .next s)

/-- RINGING_PULSE, BURST_END and WINDOW_TIMER_EXPIRY (R154, R155). An edge with no burst in progress begins one; an edge
within 100 ms adds its period; one after more than 100 ms finds the burst ended, which is judged, and begins a new one
(log 11). A burst with a period, whose periods and length lie within the settings, qualifies: the noise falls, the count
rises, the window starts with the first, and the count needed makes a call: a POWER CALL report, or with RINGING enabled
the wake cause RINGING, which in SLEEPING starts the wake (R149) and in SLEEP_PENDING ends the sleep WOKEN_EARLY (R147;
logs 16, 17, 38). Any other raises the noise count, and above the limit mutes the qualifier with a POWER MUTED report,
held through SLEEPING. A muted qualifier judges none. At the window timer's expiry the qualified count becomes 0. The
ends of no burst and of a stopped window change nothing (log 2). -/
def Obligations.BurstsAreJudged : Prop :=
  (∀ s : State,
      (s.boot.state = .done → s.ring.burst = none → ∀ gap, Leads (.ringingPulse gap) s
        (s.withRing { s.ring with burst := some [] }))
      ∧ (s.ring.burst = none → exec .burstEnd s = .next s)
      ∧ (s.ring.window = true → exec .windowTimerExpiry s = .next
        (s.withRing { s.ring with qualified := 0, window := false }))
      ∧ (s.ring.window = false → exec .windowTimerExpiry s = .next s))
  ∧ (∀ (s : State) (periods : List Nat), s.ring.burst = some periods →
      let g := s.ring.settings
      let good := periods ≠ [] ∧ (∀ p ∈ periods, g.periodMin * 1000 ≤ p ∧ p ≤ g.periodMax * 1000)
        ∧ g.lengthMin * 100000 ≤ periods.sum ∧ periods.sum ≤ g.lengthMax * 100000
      let noise := if 255 ≤ s.ring.noise + 1 then 255 else s.ring.noise + 1
      let room := s.hasReports = true ∧ s.reports.pending.length < 8
      let entered (v : State) (r : Report) : State :=
        v.withReports { s.reports with pending := s.reports.pending ++ [r] }
      let judged (v : State) : Prop := Leads .burstEnd s v
        ∧ (s.boot.state = .done → ∀ gap, 100000 < gap → Leads (.ringingPulse gap) s
          (v.withRing { v.ring with burst := some [] }))
      let called := s.withRing { s.ring with burst := none, noise := s.ring.noise - 1, qualified := 0, window := false }
      (s.boot.state = .done → ∀ gap, gap ≤ 100000 → Leads (.ringingPulse gap) s
        (s.withRing { s.ring with burst := some (periods ++ [gap]) }))
      ∧ (s.ring.muted = true → judged (s.withRing { s.ring with burst := none }))
      ∧ (s.ring.muted = false → good → s.ring.qualified + 1 < g.needed → judged (s.withRing { s.ring with
          burst := none, noise := s.ring.noise - 1, qualified := s.ring.qualified + 1
          window := if s.ring.qualified = 0 then true else s.ring.window }))
      ∧ (s.ring.muted = false → good → g.needed ≤ s.ring.qualified + 1 → s.ringingEnabled = false → room →
        s.powerWaits 2 = false → judged (entered called
          ⟨.power, 2, [wordNat g.needed, wordNat (s.ring.noise - 1), 0, 0, 0, 0, 0]⟩))
      ∧ (∀ w, s.ring.muted = false → good → g.needed ≤ s.ring.qualified + 1 → s.power.settings = some w →
        w.ringing = true →
        let word := wordNat (s.power.lapse * 16)
        (s.power.state = .sleeping → judged ((called.withPort (if s.port.dram = .selfRefresh
            then { s.port with dram := .active, refreshTimer := true, refreshDue := true } else s.port)).withPower
              { s.power with
                state := .wakeConfirm, stage := .waking, wakeTimer := none, patternTimers := Vector.replicate 4 false
                wakeWrites := s.power.wakeWrites ++ [(w.rest, word)] }))
        ∧ (s.power.state = .sleepPending → room → s.powerWaits 1 = false → judged
          (entered (((called.withPower { Power.reset with wakeWrites := s.power.wakeWrites ++ [(w.rest, word)] }).withPort
            { s.port with selfAsked := false }).withIntake { s.intake with
              finalWrites := s.intake.finalWrites ++ [⟨.sleep, w.slot, kindSleep, .wokenEarly⟩] })
                ⟨.power, 1, [word, 2, 0, 0, 0, 0, 0]⟩)))
      ∧ (s.ring.muted = false → ¬ good → noise ≤ g.noiseLimit → judged
        (s.withRing { s.ring with burst := none, noise := noise }))
      ∧ (s.ring.muted = false → ¬ good → g.noiseLimit < noise → s.power.state ≠ .sleeping → room →
        s.powerWaits 3 = false → judged (entered (s.withRing { s.ring with
          burst := none, noise := noise, muted := true })
            ⟨.power, 3, [wordNat noise, wordNat g.noiseLimit, 0, 0, 0, 0, 0]⟩))
      ∧ (s.ring.muted = false → ¬ good → g.noiseLimit < noise → s.power.state = .sleeping → judged
        (s.withRing { s.ring with
          burst := none, noise := noise, muted := true
          heldMuted := some ⟨.power, 3, [wordNat noise, wordNat g.noiseLimit, 0, 0, 0, 0, 0]⟩ })))
end

