-- ==== Sys2Proof/Laws/State.lean ====
section
/-! SUPPORT. What each update of one field of State leaves in every field: one lemma per field per update. -/

namespace Sys2Proof.Machine

variable (s : State)

/-! ### withPending -/

@[simp] theorem State.withPending_pending (x : List Instr) : (s.withPending x).pending = x := rfl
@[simp] theorem State.withPending_dram (x : List Instr) : (s.withPending x).dram = s.dram := rfl
@[simp] theorem State.withPending_rom (x : List Instr) : (s.withPending x).rom = s.rom := rfl
@[simp] theorem State.withPending_romSize (x : List Instr) : (s.withPending x).romSize = s.romSize := rfl
@[simp] theorem State.withPending_pins (x : List Instr) : (s.withPending x).pins = s.pins := rfl
@[simp] theorem State.withPending_passage (x : List Instr) : (s.withPending x).passage = s.passage := rfl
@[simp] theorem State.withPending_windows (x : List Instr) : (s.withPending x).windows = s.windows := rfl
@[simp] theorem State.withPending_port (x : List Instr) : (s.withPending x).port = s.port := rfl
@[simp] theorem State.withPending_intake (x : List Instr) : (s.withPending x).intake = s.intake := rfl
@[simp] theorem State.withPending_reports (x : List Instr) : (s.withPending x).reports = s.reports := rfl
@[simp] theorem State.withPending_bands (x : List Instr) : (s.withPending x).bands = s.bands := rfl
@[simp] theorem State.withPending_capture (x : List Instr) : (s.withPending x).capture = s.capture := rfl
@[simp] theorem State.withPending_emit (x : List Instr) : (s.withPending x).emit = s.emit := rfl
@[simp] theorem State.withPending_chanD (x : List Instr) : (s.withPending x).chanD = s.chanD := rfl
@[simp] theorem State.withPending_chanP (x : List Instr) : (s.withPending x).chanP = s.chanP := rfl
@[simp] theorem State.withPending_profiles (x : List Instr) : (s.withPending x).profiles = s.profiles := rfl
@[simp] theorem State.withPending_sensors (x : List Instr) : (s.withPending x).sensors = s.sensors := rfl
@[simp] theorem State.withPending_mover (x : List Instr) : (s.withPending x).mover = s.mover := rfl
@[simp] theorem State.withPending_power (x : List Instr) : (s.withPending x).power = s.power := rfl
@[simp] theorem State.withPending_ring (x : List Instr) : (s.withPending x).ring = s.ring := rfl
@[simp] theorem State.withPending_boot (x : List Instr) : (s.withPending x).boot = s.boot := rfl

/-! ### withDram -/

@[simp] theorem State.withDram_pending (x : List Host.Cell) : (s.withDram x).pending = s.pending := rfl
@[simp] theorem State.withDram_dram (x : List Host.Cell) : (s.withDram x).dram = x := rfl
@[simp] theorem State.withDram_rom (x : List Host.Cell) : (s.withDram x).rom = s.rom := rfl
@[simp] theorem State.withDram_romSize (x : List Host.Cell) : (s.withDram x).romSize = s.romSize := rfl
@[simp] theorem State.withDram_pins (x : List Host.Cell) : (s.withDram x).pins = s.pins := rfl
@[simp] theorem State.withDram_passage (x : List Host.Cell) : (s.withDram x).passage = s.passage := rfl
@[simp] theorem State.withDram_windows (x : List Host.Cell) : (s.withDram x).windows = s.windows := rfl
@[simp] theorem State.withDram_port (x : List Host.Cell) : (s.withDram x).port = s.port := rfl
@[simp] theorem State.withDram_intake (x : List Host.Cell) : (s.withDram x).intake = s.intake := rfl
@[simp] theorem State.withDram_reports (x : List Host.Cell) : (s.withDram x).reports = s.reports := rfl
@[simp] theorem State.withDram_bands (x : List Host.Cell) : (s.withDram x).bands = s.bands := rfl
@[simp] theorem State.withDram_capture (x : List Host.Cell) : (s.withDram x).capture = s.capture := rfl
@[simp] theorem State.withDram_emit (x : List Host.Cell) : (s.withDram x).emit = s.emit := rfl
@[simp] theorem State.withDram_chanD (x : List Host.Cell) : (s.withDram x).chanD = s.chanD := rfl
@[simp] theorem State.withDram_chanP (x : List Host.Cell) : (s.withDram x).chanP = s.chanP := rfl
@[simp] theorem State.withDram_profiles (x : List Host.Cell) : (s.withDram x).profiles = s.profiles := rfl
@[simp] theorem State.withDram_sensors (x : List Host.Cell) : (s.withDram x).sensors = s.sensors := rfl
@[simp] theorem State.withDram_mover (x : List Host.Cell) : (s.withDram x).mover = s.mover := rfl
@[simp] theorem State.withDram_power (x : List Host.Cell) : (s.withDram x).power = s.power := rfl
@[simp] theorem State.withDram_ring (x : List Host.Cell) : (s.withDram x).ring = s.ring := rfl
@[simp] theorem State.withDram_boot (x : List Host.Cell) : (s.withDram x).boot = s.boot := rfl

/-! ### withPins -/

@[simp] theorem State.withPins_pending (x : Pins) : (s.withPins x).pending = s.pending := rfl
@[simp] theorem State.withPins_dram (x : Pins) : (s.withPins x).dram = s.dram := rfl
@[simp] theorem State.withPins_rom (x : Pins) : (s.withPins x).rom = s.rom := rfl
@[simp] theorem State.withPins_romSize (x : Pins) : (s.withPins x).romSize = s.romSize := rfl
@[simp] theorem State.withPins_pins (x : Pins) : (s.withPins x).pins = x := rfl
@[simp] theorem State.withPins_passage (x : Pins) : (s.withPins x).passage = s.passage := rfl
@[simp] theorem State.withPins_windows (x : Pins) : (s.withPins x).windows = s.windows := rfl
@[simp] theorem State.withPins_port (x : Pins) : (s.withPins x).port = s.port := rfl
@[simp] theorem State.withPins_intake (x : Pins) : (s.withPins x).intake = s.intake := rfl
@[simp] theorem State.withPins_reports (x : Pins) : (s.withPins x).reports = s.reports := rfl
@[simp] theorem State.withPins_bands (x : Pins) : (s.withPins x).bands = s.bands := rfl
@[simp] theorem State.withPins_capture (x : Pins) : (s.withPins x).capture = s.capture := rfl
@[simp] theorem State.withPins_emit (x : Pins) : (s.withPins x).emit = s.emit := rfl
@[simp] theorem State.withPins_chanD (x : Pins) : (s.withPins x).chanD = s.chanD := rfl
@[simp] theorem State.withPins_chanP (x : Pins) : (s.withPins x).chanP = s.chanP := rfl
@[simp] theorem State.withPins_profiles (x : Pins) : (s.withPins x).profiles = s.profiles := rfl
@[simp] theorem State.withPins_sensors (x : Pins) : (s.withPins x).sensors = s.sensors := rfl
@[simp] theorem State.withPins_mover (x : Pins) : (s.withPins x).mover = s.mover := rfl
@[simp] theorem State.withPins_power (x : Pins) : (s.withPins x).power = s.power := rfl
@[simp] theorem State.withPins_ring (x : Pins) : (s.withPins x).ring = s.ring := rfl
@[simp] theorem State.withPins_boot (x : Pins) : (s.withPins x).boot = s.boot := rfl

/-! ### withPassage -/

@[simp] theorem State.withPassage_pending (x : Passage) : (s.withPassage x).pending = s.pending := rfl
@[simp] theorem State.withPassage_dram (x : Passage) : (s.withPassage x).dram = s.dram := rfl
@[simp] theorem State.withPassage_rom (x : Passage) : (s.withPassage x).rom = s.rom := rfl
@[simp] theorem State.withPassage_romSize (x : Passage) : (s.withPassage x).romSize = s.romSize := rfl
@[simp] theorem State.withPassage_pins (x : Passage) : (s.withPassage x).pins = s.pins := rfl
@[simp] theorem State.withPassage_passage (x : Passage) : (s.withPassage x).passage = x := rfl
@[simp] theorem State.withPassage_windows (x : Passage) : (s.withPassage x).windows = s.windows := rfl
@[simp] theorem State.withPassage_port (x : Passage) : (s.withPassage x).port = s.port := rfl
@[simp] theorem State.withPassage_intake (x : Passage) : (s.withPassage x).intake = s.intake := rfl
@[simp] theorem State.withPassage_reports (x : Passage) : (s.withPassage x).reports = s.reports := rfl
@[simp] theorem State.withPassage_bands (x : Passage) : (s.withPassage x).bands = s.bands := rfl
@[simp] theorem State.withPassage_capture (x : Passage) : (s.withPassage x).capture = s.capture := rfl
@[simp] theorem State.withPassage_emit (x : Passage) : (s.withPassage x).emit = s.emit := rfl
@[simp] theorem State.withPassage_chanD (x : Passage) : (s.withPassage x).chanD = s.chanD := rfl
@[simp] theorem State.withPassage_chanP (x : Passage) : (s.withPassage x).chanP = s.chanP := rfl
@[simp] theorem State.withPassage_profiles (x : Passage) : (s.withPassage x).profiles = s.profiles := rfl
@[simp] theorem State.withPassage_sensors (x : Passage) : (s.withPassage x).sensors = s.sensors := rfl
@[simp] theorem State.withPassage_mover (x : Passage) : (s.withPassage x).mover = s.mover := rfl
@[simp] theorem State.withPassage_power (x : Passage) : (s.withPassage x).power = s.power := rfl
@[simp] theorem State.withPassage_ring (x : Passage) : (s.withPassage x).ring = s.ring := rfl
@[simp] theorem State.withPassage_boot (x : Passage) : (s.withPassage x).boot = s.boot := rfl

/-! ### withWindows -/

@[simp] theorem State.withWindows_pending (x : Vector Window 8) : (s.withWindows x).pending = s.pending := rfl
@[simp] theorem State.withWindows_dram (x : Vector Window 8) : (s.withWindows x).dram = s.dram := rfl
@[simp] theorem State.withWindows_rom (x : Vector Window 8) : (s.withWindows x).rom = s.rom := rfl
@[simp] theorem State.withWindows_romSize (x : Vector Window 8) : (s.withWindows x).romSize = s.romSize := rfl
@[simp] theorem State.withWindows_pins (x : Vector Window 8) : (s.withWindows x).pins = s.pins := rfl
@[simp] theorem State.withWindows_passage (x : Vector Window 8) : (s.withWindows x).passage = s.passage := rfl
@[simp] theorem State.withWindows_windows (x : Vector Window 8) : (s.withWindows x).windows = x := rfl
@[simp] theorem State.withWindows_port (x : Vector Window 8) : (s.withWindows x).port = s.port := rfl
@[simp] theorem State.withWindows_intake (x : Vector Window 8) : (s.withWindows x).intake = s.intake := rfl
@[simp] theorem State.withWindows_reports (x : Vector Window 8) : (s.withWindows x).reports = s.reports := rfl
@[simp] theorem State.withWindows_bands (x : Vector Window 8) : (s.withWindows x).bands = s.bands := rfl
@[simp] theorem State.withWindows_capture (x : Vector Window 8) : (s.withWindows x).capture = s.capture := rfl
@[simp] theorem State.withWindows_emit (x : Vector Window 8) : (s.withWindows x).emit = s.emit := rfl
@[simp] theorem State.withWindows_chanD (x : Vector Window 8) : (s.withWindows x).chanD = s.chanD := rfl
@[simp] theorem State.withWindows_chanP (x : Vector Window 8) : (s.withWindows x).chanP = s.chanP := rfl
@[simp] theorem State.withWindows_profiles (x : Vector Window 8) : (s.withWindows x).profiles = s.profiles := rfl
@[simp] theorem State.withWindows_sensors (x : Vector Window 8) : (s.withWindows x).sensors = s.sensors := rfl
@[simp] theorem State.withWindows_mover (x : Vector Window 8) : (s.withWindows x).mover = s.mover := rfl
@[simp] theorem State.withWindows_power (x : Vector Window 8) : (s.withWindows x).power = s.power := rfl
@[simp] theorem State.withWindows_ring (x : Vector Window 8) : (s.withWindows x).ring = s.ring := rfl
@[simp] theorem State.withWindows_boot (x : Vector Window 8) : (s.withWindows x).boot = s.boot := rfl

/-! ### withPort -/

@[simp] theorem State.withPort_pending (x : Port) : (s.withPort x).pending = s.pending := rfl
@[simp] theorem State.withPort_dram (x : Port) : (s.withPort x).dram = s.dram := rfl
@[simp] theorem State.withPort_rom (x : Port) : (s.withPort x).rom = s.rom := rfl
@[simp] theorem State.withPort_romSize (x : Port) : (s.withPort x).romSize = s.romSize := rfl
@[simp] theorem State.withPort_pins (x : Port) : (s.withPort x).pins = s.pins := rfl
@[simp] theorem State.withPort_passage (x : Port) : (s.withPort x).passage = s.passage := rfl
@[simp] theorem State.withPort_windows (x : Port) : (s.withPort x).windows = s.windows := rfl
@[simp] theorem State.withPort_port (x : Port) : (s.withPort x).port = x := rfl
@[simp] theorem State.withPort_intake (x : Port) : (s.withPort x).intake = s.intake := rfl
@[simp] theorem State.withPort_reports (x : Port) : (s.withPort x).reports = s.reports := rfl
@[simp] theorem State.withPort_bands (x : Port) : (s.withPort x).bands = s.bands := rfl
@[simp] theorem State.withPort_capture (x : Port) : (s.withPort x).capture = s.capture := rfl
@[simp] theorem State.withPort_emit (x : Port) : (s.withPort x).emit = s.emit := rfl
@[simp] theorem State.withPort_chanD (x : Port) : (s.withPort x).chanD = s.chanD := rfl
@[simp] theorem State.withPort_chanP (x : Port) : (s.withPort x).chanP = s.chanP := rfl
@[simp] theorem State.withPort_profiles (x : Port) : (s.withPort x).profiles = s.profiles := rfl
@[simp] theorem State.withPort_sensors (x : Port) : (s.withPort x).sensors = s.sensors := rfl
@[simp] theorem State.withPort_mover (x : Port) : (s.withPort x).mover = s.mover := rfl
@[simp] theorem State.withPort_power (x : Port) : (s.withPort x).power = s.power := rfl
@[simp] theorem State.withPort_ring (x : Port) : (s.withPort x).ring = s.ring := rfl
@[simp] theorem State.withPort_boot (x : Port) : (s.withPort x).boot = s.boot := rfl

/-! ### withIntake -/

@[simp] theorem State.withIntake_pending (x : Intake) : (s.withIntake x).pending = s.pending := rfl
@[simp] theorem State.withIntake_dram (x : Intake) : (s.withIntake x).dram = s.dram := rfl
@[simp] theorem State.withIntake_rom (x : Intake) : (s.withIntake x).rom = s.rom := rfl
@[simp] theorem State.withIntake_romSize (x : Intake) : (s.withIntake x).romSize = s.romSize := rfl
@[simp] theorem State.withIntake_pins (x : Intake) : (s.withIntake x).pins = s.pins := rfl
@[simp] theorem State.withIntake_passage (x : Intake) : (s.withIntake x).passage = s.passage := rfl
@[simp] theorem State.withIntake_windows (x : Intake) : (s.withIntake x).windows = s.windows := rfl
@[simp] theorem State.withIntake_port (x : Intake) : (s.withIntake x).port = s.port := rfl
@[simp] theorem State.withIntake_intake (x : Intake) : (s.withIntake x).intake = x := rfl
@[simp] theorem State.withIntake_reports (x : Intake) : (s.withIntake x).reports = s.reports := rfl
@[simp] theorem State.withIntake_bands (x : Intake) : (s.withIntake x).bands = s.bands := rfl
@[simp] theorem State.withIntake_capture (x : Intake) : (s.withIntake x).capture = s.capture := rfl
@[simp] theorem State.withIntake_emit (x : Intake) : (s.withIntake x).emit = s.emit := rfl
@[simp] theorem State.withIntake_chanD (x : Intake) : (s.withIntake x).chanD = s.chanD := rfl
@[simp] theorem State.withIntake_chanP (x : Intake) : (s.withIntake x).chanP = s.chanP := rfl
@[simp] theorem State.withIntake_profiles (x : Intake) : (s.withIntake x).profiles = s.profiles := rfl
@[simp] theorem State.withIntake_sensors (x : Intake) : (s.withIntake x).sensors = s.sensors := rfl
@[simp] theorem State.withIntake_mover (x : Intake) : (s.withIntake x).mover = s.mover := rfl
@[simp] theorem State.withIntake_power (x : Intake) : (s.withIntake x).power = s.power := rfl
@[simp] theorem State.withIntake_ring (x : Intake) : (s.withIntake x).ring = s.ring := rfl
@[simp] theorem State.withIntake_boot (x : Intake) : (s.withIntake x).boot = s.boot := rfl

/-! ### withReports -/

@[simp] theorem State.withReports_pending (x : Reports) : (s.withReports x).pending = s.pending := rfl
@[simp] theorem State.withReports_dram (x : Reports) : (s.withReports x).dram = s.dram := rfl
@[simp] theorem State.withReports_rom (x : Reports) : (s.withReports x).rom = s.rom := rfl
@[simp] theorem State.withReports_romSize (x : Reports) : (s.withReports x).romSize = s.romSize := rfl
@[simp] theorem State.withReports_pins (x : Reports) : (s.withReports x).pins = s.pins := rfl
@[simp] theorem State.withReports_passage (x : Reports) : (s.withReports x).passage = s.passage := rfl
@[simp] theorem State.withReports_windows (x : Reports) : (s.withReports x).windows = s.windows := rfl
@[simp] theorem State.withReports_port (x : Reports) : (s.withReports x).port = s.port := rfl
@[simp] theorem State.withReports_intake (x : Reports) : (s.withReports x).intake = s.intake := rfl
@[simp] theorem State.withReports_reports (x : Reports) : (s.withReports x).reports = x := rfl
@[simp] theorem State.withReports_bands (x : Reports) : (s.withReports x).bands = s.bands := rfl
@[simp] theorem State.withReports_capture (x : Reports) : (s.withReports x).capture = s.capture := rfl
@[simp] theorem State.withReports_emit (x : Reports) : (s.withReports x).emit = s.emit := rfl
@[simp] theorem State.withReports_chanD (x : Reports) : (s.withReports x).chanD = s.chanD := rfl
@[simp] theorem State.withReports_chanP (x : Reports) : (s.withReports x).chanP = s.chanP := rfl
@[simp] theorem State.withReports_profiles (x : Reports) : (s.withReports x).profiles = s.profiles := rfl
@[simp] theorem State.withReports_sensors (x : Reports) : (s.withReports x).sensors = s.sensors := rfl
@[simp] theorem State.withReports_mover (x : Reports) : (s.withReports x).mover = s.mover := rfl
@[simp] theorem State.withReports_power (x : Reports) : (s.withReports x).power = s.power := rfl
@[simp] theorem State.withReports_ring (x : Reports) : (s.withReports x).ring = s.ring := rfl
@[simp] theorem State.withReports_boot (x : Reports) : (s.withReports x).boot = s.boot := rfl

/-! ### withBands -/

@[simp] theorem State.withBands_pending (x : Vector Band 4) : (s.withBands x).pending = s.pending := rfl
@[simp] theorem State.withBands_dram (x : Vector Band 4) : (s.withBands x).dram = s.dram := rfl
@[simp] theorem State.withBands_rom (x : Vector Band 4) : (s.withBands x).rom = s.rom := rfl
@[simp] theorem State.withBands_romSize (x : Vector Band 4) : (s.withBands x).romSize = s.romSize := rfl
@[simp] theorem State.withBands_pins (x : Vector Band 4) : (s.withBands x).pins = s.pins := rfl
@[simp] theorem State.withBands_passage (x : Vector Band 4) : (s.withBands x).passage = s.passage := rfl
@[simp] theorem State.withBands_windows (x : Vector Band 4) : (s.withBands x).windows = s.windows := rfl
@[simp] theorem State.withBands_port (x : Vector Band 4) : (s.withBands x).port = s.port := rfl
@[simp] theorem State.withBands_intake (x : Vector Band 4) : (s.withBands x).intake = s.intake := rfl
@[simp] theorem State.withBands_reports (x : Vector Band 4) : (s.withBands x).reports = s.reports := rfl
@[simp] theorem State.withBands_bands (x : Vector Band 4) : (s.withBands x).bands = x := rfl
@[simp] theorem State.withBands_capture (x : Vector Band 4) : (s.withBands x).capture = s.capture := rfl
@[simp] theorem State.withBands_emit (x : Vector Band 4) : (s.withBands x).emit = s.emit := rfl
@[simp] theorem State.withBands_chanD (x : Vector Band 4) : (s.withBands x).chanD = s.chanD := rfl
@[simp] theorem State.withBands_chanP (x : Vector Band 4) : (s.withBands x).chanP = s.chanP := rfl
@[simp] theorem State.withBands_profiles (x : Vector Band 4) : (s.withBands x).profiles = s.profiles := rfl
@[simp] theorem State.withBands_sensors (x : Vector Band 4) : (s.withBands x).sensors = s.sensors := rfl
@[simp] theorem State.withBands_mover (x : Vector Band 4) : (s.withBands x).mover = s.mover := rfl
@[simp] theorem State.withBands_power (x : Vector Band 4) : (s.withBands x).power = s.power := rfl
@[simp] theorem State.withBands_ring (x : Vector Band 4) : (s.withBands x).ring = s.ring := rfl
@[simp] theorem State.withBands_boot (x : Vector Band 4) : (s.withBands x).boot = s.boot := rfl

/-! ### withCapture -/

@[simp] theorem State.withCapture_pending (x : CaptureEngine) : (s.withCapture x).pending = s.pending := rfl
@[simp] theorem State.withCapture_dram (x : CaptureEngine) : (s.withCapture x).dram = s.dram := rfl
@[simp] theorem State.withCapture_rom (x : CaptureEngine) : (s.withCapture x).rom = s.rom := rfl
@[simp] theorem State.withCapture_romSize (x : CaptureEngine) : (s.withCapture x).romSize = s.romSize := rfl
@[simp] theorem State.withCapture_pins (x : CaptureEngine) : (s.withCapture x).pins = s.pins := rfl
@[simp] theorem State.withCapture_passage (x : CaptureEngine) : (s.withCapture x).passage = s.passage := rfl
@[simp] theorem State.withCapture_windows (x : CaptureEngine) : (s.withCapture x).windows = s.windows := rfl
@[simp] theorem State.withCapture_port (x : CaptureEngine) : (s.withCapture x).port = s.port := rfl
@[simp] theorem State.withCapture_intake (x : CaptureEngine) : (s.withCapture x).intake = s.intake := rfl
@[simp] theorem State.withCapture_reports (x : CaptureEngine) : (s.withCapture x).reports = s.reports := rfl
@[simp] theorem State.withCapture_bands (x : CaptureEngine) : (s.withCapture x).bands = s.bands := rfl
@[simp] theorem State.withCapture_capture (x : CaptureEngine) : (s.withCapture x).capture = x := rfl
@[simp] theorem State.withCapture_emit (x : CaptureEngine) : (s.withCapture x).emit = s.emit := rfl
@[simp] theorem State.withCapture_chanD (x : CaptureEngine) : (s.withCapture x).chanD = s.chanD := rfl
@[simp] theorem State.withCapture_chanP (x : CaptureEngine) : (s.withCapture x).chanP = s.chanP := rfl
@[simp] theorem State.withCapture_profiles (x : CaptureEngine) : (s.withCapture x).profiles = s.profiles := rfl
@[simp] theorem State.withCapture_sensors (x : CaptureEngine) : (s.withCapture x).sensors = s.sensors := rfl
@[simp] theorem State.withCapture_mover (x : CaptureEngine) : (s.withCapture x).mover = s.mover := rfl
@[simp] theorem State.withCapture_power (x : CaptureEngine) : (s.withCapture x).power = s.power := rfl
@[simp] theorem State.withCapture_ring (x : CaptureEngine) : (s.withCapture x).ring = s.ring := rfl
@[simp] theorem State.withCapture_boot (x : CaptureEngine) : (s.withCapture x).boot = s.boot := rfl

/-! ### withEmit -/

@[simp] theorem State.withEmit_pending (x : EmitEngine) : (s.withEmit x).pending = s.pending := rfl
@[simp] theorem State.withEmit_dram (x : EmitEngine) : (s.withEmit x).dram = s.dram := rfl
@[simp] theorem State.withEmit_rom (x : EmitEngine) : (s.withEmit x).rom = s.rom := rfl
@[simp] theorem State.withEmit_romSize (x : EmitEngine) : (s.withEmit x).romSize = s.romSize := rfl
@[simp] theorem State.withEmit_pins (x : EmitEngine) : (s.withEmit x).pins = s.pins := rfl
@[simp] theorem State.withEmit_passage (x : EmitEngine) : (s.withEmit x).passage = s.passage := rfl
@[simp] theorem State.withEmit_windows (x : EmitEngine) : (s.withEmit x).windows = s.windows := rfl
@[simp] theorem State.withEmit_port (x : EmitEngine) : (s.withEmit x).port = s.port := rfl
@[simp] theorem State.withEmit_intake (x : EmitEngine) : (s.withEmit x).intake = s.intake := rfl
@[simp] theorem State.withEmit_reports (x : EmitEngine) : (s.withEmit x).reports = s.reports := rfl
@[simp] theorem State.withEmit_bands (x : EmitEngine) : (s.withEmit x).bands = s.bands := rfl
@[simp] theorem State.withEmit_capture (x : EmitEngine) : (s.withEmit x).capture = s.capture := rfl
@[simp] theorem State.withEmit_emit (x : EmitEngine) : (s.withEmit x).emit = x := rfl
@[simp] theorem State.withEmit_chanD (x : EmitEngine) : (s.withEmit x).chanD = s.chanD := rfl
@[simp] theorem State.withEmit_chanP (x : EmitEngine) : (s.withEmit x).chanP = s.chanP := rfl
@[simp] theorem State.withEmit_profiles (x : EmitEngine) : (s.withEmit x).profiles = s.profiles := rfl
@[simp] theorem State.withEmit_sensors (x : EmitEngine) : (s.withEmit x).sensors = s.sensors := rfl
@[simp] theorem State.withEmit_mover (x : EmitEngine) : (s.withEmit x).mover = s.mover := rfl
@[simp] theorem State.withEmit_power (x : EmitEngine) : (s.withEmit x).power = s.power := rfl
@[simp] theorem State.withEmit_ring (x : EmitEngine) : (s.withEmit x).ring = s.ring := rfl
@[simp] theorem State.withEmit_boot (x : EmitEngine) : (s.withEmit x).boot = s.boot := rfl

/-! ### withChanD -/

@[simp] theorem State.withChanD_pending (x : Channel) : (s.withChanD x).pending = s.pending := rfl
@[simp] theorem State.withChanD_dram (x : Channel) : (s.withChanD x).dram = s.dram := rfl
@[simp] theorem State.withChanD_rom (x : Channel) : (s.withChanD x).rom = s.rom := rfl
@[simp] theorem State.withChanD_romSize (x : Channel) : (s.withChanD x).romSize = s.romSize := rfl
@[simp] theorem State.withChanD_pins (x : Channel) : (s.withChanD x).pins = s.pins := rfl
@[simp] theorem State.withChanD_passage (x : Channel) : (s.withChanD x).passage = s.passage := rfl
@[simp] theorem State.withChanD_windows (x : Channel) : (s.withChanD x).windows = s.windows := rfl
@[simp] theorem State.withChanD_port (x : Channel) : (s.withChanD x).port = s.port := rfl
@[simp] theorem State.withChanD_intake (x : Channel) : (s.withChanD x).intake = s.intake := rfl
@[simp] theorem State.withChanD_reports (x : Channel) : (s.withChanD x).reports = s.reports := rfl
@[simp] theorem State.withChanD_bands (x : Channel) : (s.withChanD x).bands = s.bands := rfl
@[simp] theorem State.withChanD_capture (x : Channel) : (s.withChanD x).capture = s.capture := rfl
@[simp] theorem State.withChanD_emit (x : Channel) : (s.withChanD x).emit = s.emit := rfl
@[simp] theorem State.withChanD_chanD (x : Channel) : (s.withChanD x).chanD = x := rfl
@[simp] theorem State.withChanD_chanP (x : Channel) : (s.withChanD x).chanP = s.chanP := rfl
@[simp] theorem State.withChanD_profiles (x : Channel) : (s.withChanD x).profiles = s.profiles := rfl
@[simp] theorem State.withChanD_sensors (x : Channel) : (s.withChanD x).sensors = s.sensors := rfl
@[simp] theorem State.withChanD_mover (x : Channel) : (s.withChanD x).mover = s.mover := rfl
@[simp] theorem State.withChanD_power (x : Channel) : (s.withChanD x).power = s.power := rfl
@[simp] theorem State.withChanD_ring (x : Channel) : (s.withChanD x).ring = s.ring := rfl
@[simp] theorem State.withChanD_boot (x : Channel) : (s.withChanD x).boot = s.boot := rfl

/-! ### withChanP -/

@[simp] theorem State.withChanP_pending (x : Channel) : (s.withChanP x).pending = s.pending := rfl
@[simp] theorem State.withChanP_dram (x : Channel) : (s.withChanP x).dram = s.dram := rfl
@[simp] theorem State.withChanP_rom (x : Channel) : (s.withChanP x).rom = s.rom := rfl
@[simp] theorem State.withChanP_romSize (x : Channel) : (s.withChanP x).romSize = s.romSize := rfl
@[simp] theorem State.withChanP_pins (x : Channel) : (s.withChanP x).pins = s.pins := rfl
@[simp] theorem State.withChanP_passage (x : Channel) : (s.withChanP x).passage = s.passage := rfl
@[simp] theorem State.withChanP_windows (x : Channel) : (s.withChanP x).windows = s.windows := rfl
@[simp] theorem State.withChanP_port (x : Channel) : (s.withChanP x).port = s.port := rfl
@[simp] theorem State.withChanP_intake (x : Channel) : (s.withChanP x).intake = s.intake := rfl
@[simp] theorem State.withChanP_reports (x : Channel) : (s.withChanP x).reports = s.reports := rfl
@[simp] theorem State.withChanP_bands (x : Channel) : (s.withChanP x).bands = s.bands := rfl
@[simp] theorem State.withChanP_capture (x : Channel) : (s.withChanP x).capture = s.capture := rfl
@[simp] theorem State.withChanP_emit (x : Channel) : (s.withChanP x).emit = s.emit := rfl
@[simp] theorem State.withChanP_chanD (x : Channel) : (s.withChanP x).chanD = s.chanD := rfl
@[simp] theorem State.withChanP_chanP (x : Channel) : (s.withChanP x).chanP = x := rfl
@[simp] theorem State.withChanP_profiles (x : Channel) : (s.withChanP x).profiles = s.profiles := rfl
@[simp] theorem State.withChanP_sensors (x : Channel) : (s.withChanP x).sensors = s.sensors := rfl
@[simp] theorem State.withChanP_mover (x : Channel) : (s.withChanP x).mover = s.mover := rfl
@[simp] theorem State.withChanP_power (x : Channel) : (s.withChanP x).power = s.power := rfl
@[simp] theorem State.withChanP_ring (x : Channel) : (s.withChanP x).ring = s.ring := rfl
@[simp] theorem State.withChanP_boot (x : Channel) : (s.withChanP x).boot = s.boot := rfl

/-! ### withProfiles -/

@[simp] theorem State.withProfiles_pending (x : Vector (List Level) 8) : (s.withProfiles x).pending = s.pending := rfl
@[simp] theorem State.withProfiles_dram (x : Vector (List Level) 8) : (s.withProfiles x).dram = s.dram := rfl
@[simp] theorem State.withProfiles_rom (x : Vector (List Level) 8) : (s.withProfiles x).rom = s.rom := rfl
@[simp] theorem State.withProfiles_romSize (x : Vector (List Level) 8) : (s.withProfiles x).romSize = s.romSize := rfl
@[simp] theorem State.withProfiles_pins (x : Vector (List Level) 8) : (s.withProfiles x).pins = s.pins := rfl
@[simp] theorem State.withProfiles_passage (x : Vector (List Level) 8) : (s.withProfiles x).passage = s.passage := rfl
@[simp] theorem State.withProfiles_windows (x : Vector (List Level) 8) : (s.withProfiles x).windows = s.windows := rfl
@[simp] theorem State.withProfiles_port (x : Vector (List Level) 8) : (s.withProfiles x).port = s.port := rfl
@[simp] theorem State.withProfiles_intake (x : Vector (List Level) 8) : (s.withProfiles x).intake = s.intake := rfl
@[simp] theorem State.withProfiles_reports (x : Vector (List Level) 8) : (s.withProfiles x).reports = s.reports := rfl
@[simp] theorem State.withProfiles_bands (x : Vector (List Level) 8) : (s.withProfiles x).bands = s.bands := rfl
@[simp] theorem State.withProfiles_capture (x : Vector (List Level) 8) : (s.withProfiles x).capture = s.capture := rfl
@[simp] theorem State.withProfiles_emit (x : Vector (List Level) 8) : (s.withProfiles x).emit = s.emit := rfl
@[simp] theorem State.withProfiles_chanD (x : Vector (List Level) 8) : (s.withProfiles x).chanD = s.chanD := rfl
@[simp] theorem State.withProfiles_chanP (x : Vector (List Level) 8) : (s.withProfiles x).chanP = s.chanP := rfl
@[simp] theorem State.withProfiles_profiles (x : Vector (List Level) 8) : (s.withProfiles x).profiles = x := rfl
@[simp] theorem State.withProfiles_sensors (x : Vector (List Level) 8) : (s.withProfiles x).sensors = s.sensors := rfl
@[simp] theorem State.withProfiles_mover (x : Vector (List Level) 8) : (s.withProfiles x).mover = s.mover := rfl
@[simp] theorem State.withProfiles_power (x : Vector (List Level) 8) : (s.withProfiles x).power = s.power := rfl
@[simp] theorem State.withProfiles_ring (x : Vector (List Level) 8) : (s.withProfiles x).ring = s.ring := rfl
@[simp] theorem State.withProfiles_boot (x : Vector (List Level) 8) : (s.withProfiles x).boot = s.boot := rfl

/-! ### withSensors -/

@[simp] theorem State.withSensors_pending (x : Vector SensorCell 6) : (s.withSensors x).pending = s.pending := rfl
@[simp] theorem State.withSensors_dram (x : Vector SensorCell 6) : (s.withSensors x).dram = s.dram := rfl
@[simp] theorem State.withSensors_rom (x : Vector SensorCell 6) : (s.withSensors x).rom = s.rom := rfl
@[simp] theorem State.withSensors_romSize (x : Vector SensorCell 6) : (s.withSensors x).romSize = s.romSize := rfl
@[simp] theorem State.withSensors_pins (x : Vector SensorCell 6) : (s.withSensors x).pins = s.pins := rfl
@[simp] theorem State.withSensors_passage (x : Vector SensorCell 6) : (s.withSensors x).passage = s.passage := rfl
@[simp] theorem State.withSensors_windows (x : Vector SensorCell 6) : (s.withSensors x).windows = s.windows := rfl
@[simp] theorem State.withSensors_port (x : Vector SensorCell 6) : (s.withSensors x).port = s.port := rfl
@[simp] theorem State.withSensors_intake (x : Vector SensorCell 6) : (s.withSensors x).intake = s.intake := rfl
@[simp] theorem State.withSensors_reports (x : Vector SensorCell 6) : (s.withSensors x).reports = s.reports := rfl
@[simp] theorem State.withSensors_bands (x : Vector SensorCell 6) : (s.withSensors x).bands = s.bands := rfl
@[simp] theorem State.withSensors_capture (x : Vector SensorCell 6) : (s.withSensors x).capture = s.capture := rfl
@[simp] theorem State.withSensors_emit (x : Vector SensorCell 6) : (s.withSensors x).emit = s.emit := rfl
@[simp] theorem State.withSensors_chanD (x : Vector SensorCell 6) : (s.withSensors x).chanD = s.chanD := rfl
@[simp] theorem State.withSensors_chanP (x : Vector SensorCell 6) : (s.withSensors x).chanP = s.chanP := rfl
@[simp] theorem State.withSensors_profiles (x : Vector SensorCell 6) : (s.withSensors x).profiles = s.profiles := rfl
@[simp] theorem State.withSensors_sensors (x : Vector SensorCell 6) : (s.withSensors x).sensors = x := rfl
@[simp] theorem State.withSensors_mover (x : Vector SensorCell 6) : (s.withSensors x).mover = s.mover := rfl
@[simp] theorem State.withSensors_power (x : Vector SensorCell 6) : (s.withSensors x).power = s.power := rfl
@[simp] theorem State.withSensors_ring (x : Vector SensorCell 6) : (s.withSensors x).ring = s.ring := rfl
@[simp] theorem State.withSensors_boot (x : Vector SensorCell 6) : (s.withSensors x).boot = s.boot := rfl

/-! ### withMover -/

@[simp] theorem State.withMover_pending (x : Mover) : (s.withMover x).pending = s.pending := rfl
@[simp] theorem State.withMover_dram (x : Mover) : (s.withMover x).dram = s.dram := rfl
@[simp] theorem State.withMover_rom (x : Mover) : (s.withMover x).rom = s.rom := rfl
@[simp] theorem State.withMover_romSize (x : Mover) : (s.withMover x).romSize = s.romSize := rfl
@[simp] theorem State.withMover_pins (x : Mover) : (s.withMover x).pins = s.pins := rfl
@[simp] theorem State.withMover_passage (x : Mover) : (s.withMover x).passage = s.passage := rfl
@[simp] theorem State.withMover_windows (x : Mover) : (s.withMover x).windows = s.windows := rfl
@[simp] theorem State.withMover_port (x : Mover) : (s.withMover x).port = s.port := rfl
@[simp] theorem State.withMover_intake (x : Mover) : (s.withMover x).intake = s.intake := rfl
@[simp] theorem State.withMover_reports (x : Mover) : (s.withMover x).reports = s.reports := rfl
@[simp] theorem State.withMover_bands (x : Mover) : (s.withMover x).bands = s.bands := rfl
@[simp] theorem State.withMover_capture (x : Mover) : (s.withMover x).capture = s.capture := rfl
@[simp] theorem State.withMover_emit (x : Mover) : (s.withMover x).emit = s.emit := rfl
@[simp] theorem State.withMover_chanD (x : Mover) : (s.withMover x).chanD = s.chanD := rfl
@[simp] theorem State.withMover_chanP (x : Mover) : (s.withMover x).chanP = s.chanP := rfl
@[simp] theorem State.withMover_profiles (x : Mover) : (s.withMover x).profiles = s.profiles := rfl
@[simp] theorem State.withMover_sensors (x : Mover) : (s.withMover x).sensors = s.sensors := rfl
@[simp] theorem State.withMover_mover (x : Mover) : (s.withMover x).mover = x := rfl
@[simp] theorem State.withMover_power (x : Mover) : (s.withMover x).power = s.power := rfl
@[simp] theorem State.withMover_ring (x : Mover) : (s.withMover x).ring = s.ring := rfl
@[simp] theorem State.withMover_boot (x : Mover) : (s.withMover x).boot = s.boot := rfl

/-! ### withPower -/

@[simp] theorem State.withPower_pending (x : Power) : (s.withPower x).pending = s.pending := rfl
@[simp] theorem State.withPower_dram (x : Power) : (s.withPower x).dram = s.dram := rfl
@[simp] theorem State.withPower_rom (x : Power) : (s.withPower x).rom = s.rom := rfl
@[simp] theorem State.withPower_romSize (x : Power) : (s.withPower x).romSize = s.romSize := rfl
@[simp] theorem State.withPower_pins (x : Power) : (s.withPower x).pins = s.pins := rfl
@[simp] theorem State.withPower_passage (x : Power) : (s.withPower x).passage = s.passage := rfl
@[simp] theorem State.withPower_windows (x : Power) : (s.withPower x).windows = s.windows := rfl
@[simp] theorem State.withPower_port (x : Power) : (s.withPower x).port = s.port := rfl
@[simp] theorem State.withPower_intake (x : Power) : (s.withPower x).intake = s.intake := rfl
@[simp] theorem State.withPower_reports (x : Power) : (s.withPower x).reports = s.reports := rfl
@[simp] theorem State.withPower_bands (x : Power) : (s.withPower x).bands = s.bands := rfl
@[simp] theorem State.withPower_capture (x : Power) : (s.withPower x).capture = s.capture := rfl
@[simp] theorem State.withPower_emit (x : Power) : (s.withPower x).emit = s.emit := rfl
@[simp] theorem State.withPower_chanD (x : Power) : (s.withPower x).chanD = s.chanD := rfl
@[simp] theorem State.withPower_chanP (x : Power) : (s.withPower x).chanP = s.chanP := rfl
@[simp] theorem State.withPower_profiles (x : Power) : (s.withPower x).profiles = s.profiles := rfl
@[simp] theorem State.withPower_sensors (x : Power) : (s.withPower x).sensors = s.sensors := rfl
@[simp] theorem State.withPower_mover (x : Power) : (s.withPower x).mover = s.mover := rfl
@[simp] theorem State.withPower_power (x : Power) : (s.withPower x).power = x := rfl
@[simp] theorem State.withPower_ring (x : Power) : (s.withPower x).ring = s.ring := rfl
@[simp] theorem State.withPower_boot (x : Power) : (s.withPower x).boot = s.boot := rfl

/-! ### withRing -/

@[simp] theorem State.withRing_pending (x : Ringing) : (s.withRing x).pending = s.pending := rfl
@[simp] theorem State.withRing_dram (x : Ringing) : (s.withRing x).dram = s.dram := rfl
@[simp] theorem State.withRing_rom (x : Ringing) : (s.withRing x).rom = s.rom := rfl
@[simp] theorem State.withRing_romSize (x : Ringing) : (s.withRing x).romSize = s.romSize := rfl
@[simp] theorem State.withRing_pins (x : Ringing) : (s.withRing x).pins = s.pins := rfl
@[simp] theorem State.withRing_passage (x : Ringing) : (s.withRing x).passage = s.passage := rfl
@[simp] theorem State.withRing_windows (x : Ringing) : (s.withRing x).windows = s.windows := rfl
@[simp] theorem State.withRing_port (x : Ringing) : (s.withRing x).port = s.port := rfl
@[simp] theorem State.withRing_intake (x : Ringing) : (s.withRing x).intake = s.intake := rfl
@[simp] theorem State.withRing_reports (x : Ringing) : (s.withRing x).reports = s.reports := rfl
@[simp] theorem State.withRing_bands (x : Ringing) : (s.withRing x).bands = s.bands := rfl
@[simp] theorem State.withRing_capture (x : Ringing) : (s.withRing x).capture = s.capture := rfl
@[simp] theorem State.withRing_emit (x : Ringing) : (s.withRing x).emit = s.emit := rfl
@[simp] theorem State.withRing_chanD (x : Ringing) : (s.withRing x).chanD = s.chanD := rfl
@[simp] theorem State.withRing_chanP (x : Ringing) : (s.withRing x).chanP = s.chanP := rfl
@[simp] theorem State.withRing_profiles (x : Ringing) : (s.withRing x).profiles = s.profiles := rfl
@[simp] theorem State.withRing_sensors (x : Ringing) : (s.withRing x).sensors = s.sensors := rfl
@[simp] theorem State.withRing_mover (x : Ringing) : (s.withRing x).mover = s.mover := rfl
@[simp] theorem State.withRing_power (x : Ringing) : (s.withRing x).power = s.power := rfl
@[simp] theorem State.withRing_ring (x : Ringing) : (s.withRing x).ring = x := rfl
@[simp] theorem State.withRing_boot (x : Ringing) : (s.withRing x).boot = s.boot := rfl

/-! ### withBoot -/

@[simp] theorem State.withBoot_pending (x : Boot) : (s.withBoot x).pending = s.pending := rfl
@[simp] theorem State.withBoot_dram (x : Boot) : (s.withBoot x).dram = s.dram := rfl
@[simp] theorem State.withBoot_rom (x : Boot) : (s.withBoot x).rom = s.rom := rfl
@[simp] theorem State.withBoot_romSize (x : Boot) : (s.withBoot x).romSize = s.romSize := rfl
@[simp] theorem State.withBoot_pins (x : Boot) : (s.withBoot x).pins = s.pins := rfl
@[simp] theorem State.withBoot_passage (x : Boot) : (s.withBoot x).passage = s.passage := rfl
@[simp] theorem State.withBoot_windows (x : Boot) : (s.withBoot x).windows = s.windows := rfl
@[simp] theorem State.withBoot_port (x : Boot) : (s.withBoot x).port = s.port := rfl
@[simp] theorem State.withBoot_intake (x : Boot) : (s.withBoot x).intake = s.intake := rfl
@[simp] theorem State.withBoot_reports (x : Boot) : (s.withBoot x).reports = s.reports := rfl
@[simp] theorem State.withBoot_bands (x : Boot) : (s.withBoot x).bands = s.bands := rfl
@[simp] theorem State.withBoot_capture (x : Boot) : (s.withBoot x).capture = s.capture := rfl
@[simp] theorem State.withBoot_emit (x : Boot) : (s.withBoot x).emit = s.emit := rfl
@[simp] theorem State.withBoot_chanD (x : Boot) : (s.withBoot x).chanD = s.chanD := rfl
@[simp] theorem State.withBoot_chanP (x : Boot) : (s.withBoot x).chanP = s.chanP := rfl
@[simp] theorem State.withBoot_profiles (x : Boot) : (s.withBoot x).profiles = s.profiles := rfl
@[simp] theorem State.withBoot_sensors (x : Boot) : (s.withBoot x).sensors = s.sensors := rfl
@[simp] theorem State.withBoot_mover (x : Boot) : (s.withBoot x).mover = s.mover := rfl
@[simp] theorem State.withBoot_power (x : Boot) : (s.withBoot x).power = s.power := rfl
@[simp] theorem State.withBoot_ring (x : Boot) : (s.withBoot x).ring = s.ring := rfl
@[simp] theorem State.withBoot_boot (x : Boot) : (s.withBoot x).boot = x := rfl

end Sys2Proof.Machine
end

