-- ==== Sys2Proof/Laws/Frames.lean ====
section
/-! SUPPORT. What the shared operations of the engines, queues and reports leave alone: the queue of commands, memory,
the overlay state, the Window Table, the profiles, the sensors and the Boot Unit. -/

namespace Sys2Proof.Machine

open Sys2Proof

variable (s : State)

/-! ### Updates of one field -/

@[simp] theorem State.withPort_outside (x : Port) : (s.withPort x).outside = s.outside := rfl
@[simp] theorem State.withIntake_outside (x : Intake) : (s.withIntake x).outside = s.outside := rfl
@[simp] theorem State.withReports_outside (x : Reports) : (s.withReports x).outside = s.outside := rfl
@[simp] theorem State.withBands_outside (x : Vector Band 4) : (s.withBands x).outside = s.outside := rfl
@[simp] theorem State.withCapture_outside (x : CaptureEngine) : (s.withCapture x).outside = s.outside := rfl
@[simp] theorem State.withEmit_outside (x : EmitEngine) : (s.withEmit x).outside = s.outside := rfl
@[simp] theorem State.withChanD_outside (x : Channel) : (s.withChanD x).outside = s.outside := rfl
@[simp] theorem State.withChanP_outside (x : Channel) : (s.withChanP x).outside = s.outside := rfl
@[simp] theorem State.withMover_outside (x : Mover) : (s.withMover x).outside = s.outside := rfl
@[simp] theorem State.withPower_outside (x : Power) : (s.withPower x).outside = s.outside := rfl
@[simp] theorem State.withRing_outside (x : Ringing) : (s.withRing x).outside = s.outside := rfl
@[simp] theorem State.withPins_outside (x : Pins) : (s.withPins x).outside = s.outside := rfl

/-- A new access, reply or unposted-fault count of the Passage touches no overlay state. -/
@[simp] theorem State.withPassage_outside (c : Option CpuAccess) (r : Option Reply) (n : Nat) :
    (s.withPassage { s.passage with cpu := c, reply := r, unposted := n }).outside = s.outside := rfl


/-! ### Ops -/

@[simp] theorem State.withChan_outside (c : Chan) (x : Channel) : (s.withChan c x).outside = s.outside := by
  cases c <;> rfl
@[simp] theorem State.withRunning_outside (q : QueueId) (r : Option Running) :
    (s.withRunning q r).outside = s.outside := by
  simp [State.withRunning]
@[simp] theorem State.withBand_outside (b : Fin 4) (x : Band) : (s.withBand b x).outside = s.outside := rfl
@[simp] theorem State.judgeAnew_outside (b : Fin 4) (changed : Nat → Bool) :
    (s.judgeAnew b changed).outside = s.outside := rfl
@[simp] theorem State.withLines_outside (b : Fin 4) (x : Band) : (s.withLines b x).outside = s.outside := rfl
@[simp] theorem State.withNewBand_outside (b : Fin 4) (x : Band) : (s.withNewBand b x).outside = s.outside := rfl

/-! ### Changes of line states: only the bands and the waiting accesses change (R65) -/

@[simp] theorem State.judgeAnew_bands (b : Fin 4) (changed : Nat → Bool) : (s.judgeAnew b changed).bands = s.bands := rfl
@[simp] theorem State.withLines_bands (b : Fin 4) (x : Band) : (s.withLines b x).bands = s.bands.set b x := rfl
@[simp] theorem State.withNewBand_bands (b : Fin 4) (x : Band) : (s.withNewBand b x).bands = s.bands.set b x := rfl
@[simp] theorem State.judgeAnew_dram (b : Fin 4) (changed : Nat → Bool) : (s.judgeAnew b changed).dram = s.dram := rfl
@[simp] theorem State.withLines_dram (b : Fin 4) (x : Band) : (s.withLines b x).dram = s.dram := rfl
@[simp] theorem State.withNewBand_dram (b : Fin 4) (x : Band) : (s.withNewBand b x).dram = s.dram := rfl
@[simp] theorem State.judgeAnew_reports (b : Fin 4) (changed : Nat → Bool) : (s.judgeAnew b changed).reports = s.reports := rfl
@[simp] theorem State.withLines_reports (b : Fin 4) (x : Band) : (s.withLines b x).reports = s.reports := rfl
@[simp] theorem State.withNewBand_reports (b : Fin 4) (x : Band) : (s.withNewBand b x).reports = s.reports := rfl
@[simp] theorem State.judgeAnew_capture (b : Fin 4) (changed : Nat → Bool) : (s.judgeAnew b changed).capture = s.capture := rfl
@[simp] theorem State.withLines_capture (b : Fin 4) (x : Band) : (s.withLines b x).capture = s.capture := rfl
@[simp] theorem State.withNewBand_capture (b : Fin 4) (x : Band) : (s.withNewBand b x).capture = s.capture := rfl
@[simp] theorem State.judgeAnew_emit (b : Fin 4) (changed : Nat → Bool) : (s.judgeAnew b changed).emit = s.emit := rfl
@[simp] theorem State.withLines_emit (b : Fin 4) (x : Band) : (s.withLines b x).emit = s.emit := rfl
@[simp] theorem State.withNewBand_emit (b : Fin 4) (x : Band) : (s.withNewBand b x).emit = s.emit := rfl
@[simp] theorem State.judgeAnew_chanD (b : Fin 4) (changed : Nat → Bool) : (s.judgeAnew b changed).chanD = s.chanD := rfl
@[simp] theorem State.withLines_chanD (b : Fin 4) (x : Band) : (s.withLines b x).chanD = s.chanD := rfl
@[simp] theorem State.withNewBand_chanD (b : Fin 4) (x : Band) : (s.withNewBand b x).chanD = s.chanD := rfl
@[simp] theorem State.judgeAnew_chanP (b : Fin 4) (changed : Nat → Bool) : (s.judgeAnew b changed).chanP = s.chanP := rfl
@[simp] theorem State.withLines_chanP (b : Fin 4) (x : Band) : (s.withLines b x).chanP = s.chanP := rfl
@[simp] theorem State.withNewBand_chanP (b : Fin 4) (x : Band) : (s.withNewBand b x).chanP = s.chanP := rfl
@[simp] theorem State.judgeAnew_mover (b : Fin 4) (changed : Nat → Bool) : (s.judgeAnew b changed).mover = s.mover := rfl
@[simp] theorem State.withLines_mover (b : Fin 4) (x : Band) : (s.withLines b x).mover = s.mover := rfl
@[simp] theorem State.withNewBand_mover (b : Fin 4) (x : Band) : (s.withNewBand b x).mover = s.mover := rfl
@[simp] theorem State.judgeAnew_intake (b : Fin 4) (changed : Nat → Bool) : (s.judgeAnew b changed).intake = s.intake := rfl
@[simp] theorem State.withLines_intake (b : Fin 4) (x : Band) : (s.withLines b x).intake = s.intake := rfl
@[simp] theorem State.withNewBand_intake (b : Fin 4) (x : Band) : (s.withNewBand b x).intake = s.intake := rfl
@[simp] theorem State.judgeAnew_power (b : Fin 4) (changed : Nat → Bool) : (s.judgeAnew b changed).power = s.power := rfl
@[simp] theorem State.withLines_power (b : Fin 4) (x : Band) : (s.withLines b x).power = s.power := rfl
@[simp] theorem State.withNewBand_power (b : Fin 4) (x : Band) : (s.withNewBand b x).power = s.power := rfl

/-- A change of line states adds no request at the Memory Port and takes none away. -/
@[simp] theorem State.judgeAnew_request (b : Fin 4) (changed : Nat → Bool) :
    (s.judgeAnew b changed).port.moverReq.isSome = s.port.moverReq.isSome := by
  simp [State.judgeAnew]

/-- A mover burst keeps its number of words when their lines change. -/
@[simp] theorem Mover.anew_length (m : Mover) (b : Fin 4) (changed : Nat → Bool) (i : Nat) (paths : List Path) :
    (m.anew b changed i paths).length = paths.length := by
  induction paths generalizing i with
  | nil => rfl
  | cons path rest ih => simp [Mover.anew, ih]

/-- Word j of a mover burst is to be judged again exactly where the line at its own address changes. -/
theorem Mover.anew_getElem? (m : Mover) (b : Fin 4) (changed : Nat → Bool) (i j : Nat) (paths : List Path) :
    (m.anew b changed i paths)[j]?
      = paths[j]?.map fun path => if changed (m.wordAddr (i + j)) then path.anew b else path := by
  induction paths generalizing i j with
  | nil => simp [Mover.anew]
  | cons path rest ih =>
    cases j with
    | zero => simp [Mover.anew]
    | succ n => simp [Mover.anew, ih, Nat.add_right_comm, Nat.add_assoc]

/-- With no access that waits for its grant, a change of line states changes nothing else. -/
theorem State.judgeAnew_idle {b : Fin 4} {changed : Nat → Bool} (hc : s.passage.cpu = none)
    (hm : s.port.moverReq = none) : s.judgeAnew b changed = s := by
  have cpu : s.passage.cpu.map (·.anew b changed) = s.passage.cpu := by rw [hc]; rfl
  have burst : s.port.moverReq.map (s.mover.anew b changed s.mover.next) = s.port.moverReq := by rw [hm]; rfl
  unfold State.judgeAnew
  rw [cpu, burst]
  rfl

@[simp] theorem State.standing_judged (b : Fin 4) (obs : Obs) (a : Access) :
    s.standing (.band b (some obs)) a = .pass obs := rfl
@[simp] theorem State.standing_anew (b : Fin 4) (a : Access) : s.standing (.band b none) a = s.rejudge a := rfl

/-! ### Reports -/

@[simp] theorem State.enter_outside (r : Report) : (s.enter r).outside = s.outside := by
  simp only [State.enter]; (repeat' split) <;> simp
@[simp] theorem State.enterCompletion_outside (q : QueueId) : (s.enterCompletion q).outside = s.outside := by
  simp only [State.enterCompletion]; (repeat' split) <;> simp
@[simp] theorem State.enterItem_outside (i : WaitingItem) : (s.enterItem i).outside = s.outside := by
  cases i <;> simp [State.enterItem]
@[simp] theorem State.offer_outside (block : Block) (item : WaitingItem) :
    (s.offer block item).outside = s.outside := by
  simp only [State.offer]; (repeat' split) <;> simp
@[simp] theorem State.offerNotice_outside (b : Fin 4) (r : Report) : (s.offerNotice b r).outside = s.outside := by
  simp only [State.offerNotice]; (repeat' split) <;> simp
@[simp] theorem State.dropNotice_outside (b : Fin 4) : (s.dropNotice b).outside = s.outside := by
  simp [State.dropNotice]
@[simp] theorem State.offerPower_outside (r : Report) : (s.offerPower r).outside = s.outside := by
  simp only [State.offerPower]; (repeat' split) <;> simp
@[simp] theorem State.offerSensor_outside (x : Sensor) : (s.offerSensor x).outside = s.outside := by
  simp only [State.offerSensor]; (repeat' split) <;> simp
@[simp] theorem State.raiseFault_outside (f : PassageFault) : (s.raiseFault f).outside = s.outside := by
  simp only [State.raiseFault, State.enter]; (repeat' split) <;> rfl
@[simp] theorem State.endOrder_outside (q : QueueId) (block : Block) (result : Result) (figures : List Word) :
    (s.endOrder q block result figures).outside = s.outside := by
  simp only [State.endOrder]; (repeat' split) <;> simp

/-! ### Bands -/

@[simp] theorem State.withCount_outside (b : Fin 4) (x : Band) (up : Bool) :
    (s.withCount b x up).outside = s.outside := by
  simp only [State.withCount]; (repeat' split) <;> simp

/-! ### Passage -/

@[simp] theorem State.withCpu_outside (x : Option CpuAccess) : (s.withCpu x).outside = s.outside := rfl
@[simp] theorem State.completeCpu_outside (a : Access) (d : Option Word) :
    (s.completeCpu a d).outside = s.outside := rfl
@[simp] theorem State.endHold_outside (x : CpuAccess) : (s.endHold x).outside = s.outside := by
  simp only [State.endHold]; (repeat' split) <;> simp
@[simp] theorem State.expireHold_outside (x : CpuAccess) (b : Fin 4) : (s.expireHold x b).outside = s.outside := by
  simp [State.expireHold]
@[simp] theorem State.holdCpu_outside (a : Access) (why : HoldReason) (t : HoldTimer) :
    (s.holdCpu a why t).outside = s.outside := by
  simp only [State.holdCpu]; (repeat' split) <;> simp
@[simp] theorem State.presentCpu_outside (a : Access) (t : HoldTimer) : (s.presentCpu a t).outside = s.outside := by
  simp only [State.presentCpu]; (repeat' split) <;> simp
@[simp] theorem State.releaseCpu_outside (why : HoldReason) : (s.releaseCpu why).outside = s.outside := by
  simp only [State.releaseCpu]; (repeat' split) <;> simp
@[simp] theorem State.releaseMover_outside (b : Fin 4) (line : Nat) :
    (s.releaseMover b line).outside = s.outside := by
  simp only [State.releaseMover]; (repeat' split) <;> simp
@[simp] theorem State.releaseLine_outside (b : Fin 4) (line : Nat) : (s.releaseLine b line).outside = s.outside := by
  simp [State.releaseLine]
@[simp] theorem State.cancelCpu_outside (b : Fin 4) : (s.cancelCpu b).outside = s.outside := by
  simp only [State.cancelCpu]; (repeat' split) <;> simp
@[simp] theorem State.cancelMover_outside (b : Fin 4) : (s.cancelMover b).outside = s.outside := by
  simp only [State.cancelMover]; (repeat' split) <;> simp
@[simp] theorem State.cancelHolds_outside (b : Fin 4) : (s.cancelHolds b).outside = s.outside := by
  simp [State.cancelHolds]

/-! ### Motor -/

@[simp] theorem State.endMove_outside (c : Chan) (result : Result) : (s.endMove c result).outside = s.outside := by
  simp [State.endMove]
@[simp] theorem State.startMove_outside (c : Chan) (p : MoveParams) : (s.startMove c p).outside = s.outside := by
  simp only [State.startMove]; (repeat' split) <;> simp
@[simp] theorem State.stepMove_outside (c : Chan) (p : MoveParams) : (s.stepMove c p).outside = s.outside := by
  simp only [State.stepMove]; (repeat' split) <;> simp
@[simp] theorem State.edgeMove_outside (c : Chan) (p : MoveParams) (x : Sensor) (rising : Bool) :
    (s.edgeMove c p x rising).outside = s.outside := by
  simp only [State.edgeMove]; (repeat' split) <;> simp

/-! ### Capture -/

@[simp] theorem State.withCaptureRecord_outside (r : CaptureRecord) :
    (s.withCaptureRecord r).outside = s.outside := by
  simp [State.withCaptureRecord]
@[simp] theorem State.captureFinish_outside : (s.captureFinish).outside = s.outside := by
  simp only [State.captureFinish]; (repeat' split) <;> simp
@[simp] theorem State.captureDecide_outside (r : CaptureRecord) (result : Result) :
    (s.captureDecide r result).outside = s.outside := by
  simp [State.captureDecide]
@[simp] theorem State.captureStop_outside (r : CaptureRecord) (result : Result) :
    (s.captureStop r result).outside = s.outside := by
  simp [State.captureStop]
@[simp] theorem State.beginLine_outside (p : CaptureParams) (r : CaptureRecord) :
    (s.beginLine p r).outside = s.outside := by
  simp only [State.beginLine]; (repeat' split) <;> simp
@[simp] theorem State.withdrawClocking_outside (n : Fin 4) : (s.withdrawClocking n).outside = s.outside := by
  simp only [State.withdrawClocking]; (repeat' split) <;> simp
@[simp] theorem State.captureProceed_outside (p : CaptureParams) (r : CaptureRecord) (level : Nat) :
    (s.captureProceed p r level).outside = s.outside := by
  simp only [State.captureProceed]; (repeat' split) <;> simp
@[simp] theorem State.paceCapture_outside (p : CaptureParams) (r : CaptureRecord) :
    (s.paceCapture p r).outside = s.outside := by
  simp only [State.paceCapture]; (repeat' split) <;> simp
@[simp] theorem State.enterEject_outside (p : CaptureParams) (r : CaptureRecord) :
    (s.enterEject p r).outside = s.outside := by
  simp only [State.enterEject]; (repeat' split) <;> simp
@[simp] theorem State.tailBoundary_outside (p : CaptureParams) (r : CaptureRecord) :
    (s.tailBoundary p r).outside = s.outside := by
  simp only [State.tailBoundary]; (repeat' split) <;> simp
@[simp] theorem State.scanBoundary_outside (p : CaptureParams) (r : CaptureRecord) :
    (s.scanBoundary p r).outside = s.outside := by
  simp only [State.scanBoundary]; (repeat' split) <;> simp
@[simp] theorem State.captureBoundary_outside (p : CaptureParams) (r : CaptureRecord) :
    (s.captureBoundary p r).outside = s.outside := by
  simp only [State.captureBoundary]; (repeat' split) <;> simp
@[simp] theorem State.enterPaced_outside (p : CaptureParams) (r : CaptureRecord) :
    (s.enterPaced p r).outside = s.outside := by
  simp [State.enterPaced]
@[simp] theorem State.enterSkip_outside (p : CaptureParams) (r : CaptureRecord) :
    (s.enterSkip p r).outside = s.outside := by
  simp only [State.enterSkip]; (repeat' split) <;> simp
@[simp] theorem State.startCapture_outside (p : CaptureParams) : (s.startCapture p).outside = s.outside := by
  simp only [State.startCapture]; (repeat' split) <;> simp
@[simp] theorem State.stepSkip_outside (p : CaptureParams) (r : CaptureRecord) :
    (s.stepSkip p r).outside = s.outside := by
  simp only [State.stepSkip]; (repeat' split) <;> simp
@[simp] theorem State.stepPaced_outside (p : CaptureParams) (r : CaptureRecord) :
    (s.stepPaced p r).outside = s.outside := by
  simp only [State.stepPaced]; (repeat' split) <;> simp
@[simp] theorem State.stepEject_outside (p : CaptureParams) (r : CaptureRecord) :
    (s.stepEject p r).outside = s.outside := by
  simp only [State.stepEject]; (repeat' split) <;> simp
@[simp] theorem State.stepApproach_outside (p : CaptureParams) (r : CaptureRecord) :
    (s.stepApproach p r).outside = s.outside := by
  simp only [State.stepApproach]; (repeat' split) <;> simp
@[simp] theorem State.stepCapture_outside (p : CaptureParams) (r : CaptureRecord) :
    (s.stepCapture p r).outside = s.outside := by
  simp only [State.stepCapture]; (repeat' split) <;> simp
@[simp] theorem State.resumeD_outside (b : Fin 4) : (s.resumeD b).outside = s.outside := by
  simp only [State.resumeD]; (repeat' split) <;> simp
@[simp] theorem State.docEdge_outside (rising : Bool) : (s.docEdge rising).outside = s.outside := by
  simp only [State.docEdge]; (repeat' split) <;> simp
@[simp] theorem State.captureBreak_outside (result : Result) : (s.captureBreak result).outside = s.outside := by
  simp only [State.captureBreak]; (repeat' split) <;> simp

/-! ### Emit -/

@[simp] theorem State.withEmitRecord_outside (r : EmitRecord) : (s.withEmitRecord r).outside = s.outside := by
  simp [State.withEmitRecord]
@[simp] theorem State.emitDecide_outside (r : EmitRecord) (result : Result) (reason : EndReason) :
    (s.emitDecide r result reason).outside = s.outside := by
  simp [State.emitDecide]
@[simp] theorem State.tryLatch_outside : (s.tryLatch).outside = s.outside := by
  simp only [State.tryLatch]; (repeat' split) <;> simp
@[simp] theorem State.revertLines_outside (b : Fin 4) : (s.revertLines b).outside = s.outside := by
  simp only [State.revertLines]; (repeat' split) <;> simp
@[simp] theorem State.emitStop_outside (p : EmitParams) (r : EmitRecord) (result : Result) (reason : EndReason) :
    (s.emitStop p r result reason).outside = s.outside := by
  simp [State.emitStop]
@[simp] theorem State.enterTail_outside (p : EmitParams) (r : EmitRecord) :
    (s.enterTail p r).outside = s.outside := by
  simp only [State.enterTail]; (repeat' split) <;> simp
@[simp] theorem State.emitProceed_outside (r : EmitRecord) (level : Nat) :
    (s.emitProceed r level).outside = s.outside := by
  simp [State.emitProceed]
@[simp] theorem State.printBoundary_outside (p : EmitParams) (r : EmitRecord) :
    (s.printBoundary p r).outside = s.outside := by
  simp only [State.printBoundary]; (repeat' split) <;> simp
@[simp] theorem State.startEmit_outside (p : EmitParams) : (s.startEmit p).outside = s.outside := by
  simp only [State.startEmit]; (repeat' split) <;> simp
@[simp] theorem State.stepPrinting_outside (p : EmitParams) (r : EmitRecord) :
    (s.stepPrinting p r).outside = s.outside := by
  simp only [State.stepPrinting]; (repeat' split) <;> simp
@[simp] theorem State.stepTail_outside (p : EmitParams) (r : EmitRecord) : (s.stepTail p r).outside = s.outside := by
  simp only [State.stepTail]; (repeat' split) <;> simp
@[simp] theorem State.stepEmit_outside (p : EmitParams) (r : EmitRecord) : (s.stepEmit p r).outside = s.outside := by
  simp only [State.stepEmit]; (repeat' split) <;> simp
@[simp] theorem State.resumeP_outside (b : Fin 4) : (s.resumeP b).outside = s.outside := by
  simp only [State.resumeP]; (repeat' split) <;> simp
@[simp] theorem State.testOpenEnd_outside : (s.testOpenEnd).outside = s.outside := by
  simp only [State.testOpenEnd]; (repeat' split) <;> simp
@[simp] theorem State.paperFall_outside : (s.paperFall).outside = s.outside := by
  simp only [State.paperFall]; (repeat' split) <;> simp
@[simp] theorem State.emitCover_outside : (s.emitCover).outside = s.outside := by
  simp only [State.emitCover]; (repeat' split) <;> simp
@[simp] theorem State.emitAbort_outside : (s.emitAbort).outside = s.outside := by
  simp only [State.emitAbort]; (repeat' split) <;> simp

/-! ### Mover -/

@[simp] theorem State.applyObs_outside (obs : Obs) (who : Requester) (op : AccessOp) (addr : Nat) :
    (s.applyObs obs who op addr).outside = s.outside := by
  simp only [State.applyObs]; (repeat' split) <;> simp
@[simp] theorem State.startTransfer_outside (p : TransferParams) : (s.startTransfer p).outside = s.outside := by
  simp [State.startTransfer]
@[simp] theorem State.endTransfer_outside (result : Result) : (s.endTransfer result).outside = s.outside := by
  simp [State.endTransfer]
@[simp] theorem State.stopTransfer_outside : (s.stopTransfer).outside = s.outside := by
  simp [State.stopTransfer]
@[simp] theorem State.abortTransfer_outside : (s.abortTransfer).outside = s.outside := by
  simp only [State.abortTransfer]; (repeat' split) <;> simp
@[simp] theorem State.holdMover_outside (b : Fin 4) (line : Nat) : (s.holdMover b line).outside = s.outside := by
  simp [State.holdMover]
@[simp] theorem State.turnChunk_outside : (s.turnChunk).outside = s.outside := by
  simp only [State.turnChunk]; (repeat' split) <;> simp
@[simp] theorem State.moverAct_outside : (s.moverAct).outside = s.outside := by
  simp only [State.moverAct]; (repeat' split) <;> simp
@[simp] theorem State.runMover_outside (n : Nat) : (s.runMover n).outside = s.outside := by
  induction n generalizing s with
  | zero => rfl
  | succ n ih => simp only [State.runMover]; split <;> simp [ih]
@[simp] theorem State.settleMover_outside : (s.settleMover).outside = s.outside := by
  simp only [State.settleMover]; (repeat' split) <;> simp
@[simp] theorem State.endMoverGrant_outside (n : Nat) (obs : Obs) : (s.endMoverGrant n obs).outside = s.outside := by
  simp only [State.endMoverGrant]; (repeat' split) <;> simp

/-! ### Power -/

@[simp] theorem State.withClock_outside (on : Bool) : (s.withClock on).outside = s.outside := by
  simp [State.withClock]
@[simp] theorem State.askSelfRefresh_outside (on : Bool) : (s.askSelfRefresh on).outside = s.outside := by
  simp [State.askSelfRefresh]
@[simp] theorem State.oweSleepWrite_outside (slot : Nat) (r : Result) :
    (s.oweSleepWrite slot r).outside = s.outside := by
  simp [State.oweSleepWrite]
@[simp] theorem State.deEnergiseBoth_outside : (s.deEnergiseBoth).outside = s.outside := by
  simp [State.deEnergiseBoth]
@[simp] theorem State.rewatch_outside : (s.rewatch).outside = s.outside := by
  simp only [State.rewatch]; (repeat' split) <;> simp
@[simp] theorem State.enterSleeping_outside (w : WakeSettings) : (s.enterSleeping w).outside = s.outside := by
  simp only [State.enterSleeping]; (repeat' split) <;> simp
@[simp] theorem State.endSleep_outside (r : Result) : (s.endSleep r).outside = s.outside := by
  simp only [State.endSleep]; (repeat' split) <;> simp
@[simp] theorem State.wakeEarly_outside (w : WakeSettings) (c : WakeCause) :
    (s.wakeEarly w c).outside = s.outside := by
  simp [State.wakeEarly]
@[simp] theorem State.startWake_outside (w : WakeSettings) (c : WakeCause) :
    (s.startWake w c).outside = s.outside := by
  simp [State.startWake]
@[simp] theorem State.takeCause_outside (c : WakeCause) : (s.takeCause c).outside = s.outside := by
  simp only [State.takeCause]; (repeat' split) <;> simp
@[simp] theorem State.confirmWake_outside : (s.confirmWake).outside = s.outside := by
  simp [State.confirmWake]
@[simp] theorem State.giveUpLapse_outside : (s.giveUpLapse).outside = s.outside := by
  simp [State.giveUpLapse]
@[simp] theorem State.notice_outside : (s.notice).outside = s.outside := by
  simp only [State.notice]; (repeat' split) <;> simp
@[simp] theorem State.settleLapse_outside : (s.settleLapse).outside = s.outside := by
  simp only [State.settleLapse]; (repeat' split) <;> simp
@[simp] theorem State.startConfirm_outside (confirm : Nat) : (s.startConfirm confirm).outside = s.outside := by
  simp only [State.startConfirm]; (repeat' split) <;> simp
@[simp] theorem State.reportWake_outside (w : WakeSettings) (word : Word) :
    (s.reportWake w word).outside = s.outside := by
  simp only [State.reportWake]; (repeat' split) <;> simp
@[simp] theorem State.wakeWordDone_outside (word : Word) : (s.wakeWordDone word).outside = s.outside := by
  simp only [State.wakeWordDone]; (repeat' split) <;> simp
@[simp] theorem State.call_outside : (s.call).outside = s.outside := by
  simp only [State.call]; (repeat' split) <;> simp
@[simp] theorem State.burstQualified_outside : (s.burstQualified).outside = s.outside := by
  simp only [State.burstQualified]; (repeat' split) <;> simp
@[simp] theorem State.burstDisqualified_outside : (s.burstDisqualified).outside = s.outside := by
  simp only [State.burstDisqualified]; (repeat' split) <;> simp
@[simp] theorem State.judgeBurst_outside (periods : List Nat) : (s.judgeBurst periods).outside = s.outside := by
  simp only [State.judgeBurst]; (repeat' split) <;> simp

/-! ### Intake -/

@[simp] theorem State.withSlot_outside (i : Nat) (x : SlotRecord) : (s.withSlot i x).outside = s.outside := by
  simp [State.withSlot]
@[simp] theorem State.leaveFetching_outside (i : Nat) (x : SlotRecord) :
    (s.leaveFetching i x).outside = s.outside := by
  simp [State.leaveFetching]
@[simp] theorem State.withStage_outside (h : InHand) (st : Stage) : (s.withStage h st).outside = s.outside := by
  simp [State.withStage]
@[simp] theorem State.refuseOrder_outside (h : InHand) (r : Result) : (s.refuseOrder h r).outside = s.outside := by
  simp [State.refuseOrder]
@[simp] theorem State.completeOrder_outside (h : InHand) : (s.completeOrder h).outside = s.outside := by
  simp [State.completeOrder]
@[simp] theorem State.takeSlot_outside (i : Nat) (urgent : Bool) : (s.takeSlot i urgent).outside = s.outside := by
  simp [State.takeSlot]
@[simp] theorem State.settleTake_outside : (s.settleTake).outside = s.outside := by
  simp only [State.settleTake]; (repeat' split) <;> simp
@[simp] theorem State.observeHead_outside (addr : Nat) (w : Word) : (s.observeHead addr w).outside = s.outside := by
  simp only [State.observeHead]; (repeat' split) <;> simp
@[simp] theorem State.withQueue_outside (q : QueueId) (x : Queue) : (s.withQueue q x).outside = s.outside := by
  simp [State.withQueue]
@[simp] theorem State.startOrder_outside (q : QueueId) (o : Order) : (s.startOrder q o).outside = s.outside := by
  simp only [State.startOrder]; (repeat' split) <;> simp
@[simp] theorem State.startNext_outside (q : QueueId) : (s.startNext q).outside = s.outside := by
  simp only [State.startNext]; (repeat' split) <;> simp
@[simp] theorem State.dispatch_outside : (s.dispatch).outside = s.outside := by
  simp only [State.dispatch]; (repeat' split) <;> simp
@[simp] theorem State.handOver_outside (h : InHand) (w : Work) : (s.handOver h w).outside = s.outside := by
  simp [State.handOver]
@[simp] theorem State.endInHand_outside (h : InHand) : (s.endInHand h).outside = s.outside := by
  simp only [State.endInHand]; (repeat' split) <;> simp
@[simp] theorem State.clearEngine_outside (w : Work) : (s.clearEngine w).outside = s.outside := by
  simp only [State.clearEngine]; (repeat' split) <;> simp
@[simp] theorem State.leaveQueue_outside (q : QueueId) (ro : Running) : (s.leaveQueue q ro).outside = s.outside := by
  simp only [State.leaveQueue]; (repeat' split) <;> simp
@[simp] theorem State.endFinalWrite_outside (w : FinalWrite) : (s.endFinalWrite w).outside = s.outside := by
  simp only [State.endFinalWrite]; (repeat' split) <;> simp
@[simp] theorem State.stopWork_outside (w : Work) : (s.stopWork w).outside = s.outside := by
  simp only [State.stopWork]; (repeat' split) <;> simp
@[simp] theorem State.abortEnding_outside (ro : Running) : (s.abortEnding ro).outside = s.outside := by
  simp [State.abortEnding]
@[simp] theorem State.abortRecord_outside (w : Work) : (s.abortRecord w).outside = s.outside := by
  cases w <;> simp [State.abortRecord]
@[simp] theorem State.abortQueue_outside (q : QueueId) : (s.abortQueue q).outside = s.outside := by
  simp only [State.abortQueue]; (repeat' split) <;> simp
@[simp] theorem State.requestFetch_outside (h : InHand) : (s.requestFetch h).outside = s.outside := by
  simp only [State.requestFetch]; (repeat' split) <;> simp
@[simp] theorem State.settleIntake_outside : (s.settleIntake).outside = s.outside := by
  simp only [State.settleIntake]; (repeat' split) <;> simp

/-! ### Settle -/

@[simp] theorem State.settleCapture_outside : (s.settleCapture).outside = s.outside := by
  simp only [State.settleCapture]; (repeat' split) <;> simp
@[simp] theorem State.settleEmit_outside : (s.settleEmit).outside = s.outside := by
  simp only [State.settleEmit]; (repeat' split) <;> simp
@[simp] theorem State.settleProcessor_outside : (s.settleProcessor).outside = s.outside := by
  simp only [State.settleProcessor]; (repeat' split) <;> simp
@[simp] theorem State.settle_outside : (s.settle).outside = s.outside := by
  simp [State.settle]

end Sys2Proof.Machine
end

