-- ==== Sys2Proof/Laws/Bands.lean ====
section
/-! SUPPORT. Every event on the marks keeps a band's marks a legal ring (R52). -/

namespace Sys2Proof.Machine

open Sys2Proof

/-- The ring's advance: moving D on by one and C down by one leaves F where it is. -/
theorem ring_drain {d c n : Nat} (hc : 0 < c) : (d + c) % n = ((d + 1) % n + (c - 1)) % n := by
  rw [Nat.mod_add_mod]; congr 1; omega

/-- The ring's advance: moving C up by one moves F on by one. -/
theorem ring_fill (d c n : Nat) : ((d + c) % n + 1) % n = (d + (c + 1)) % n := by
  rw [Nat.mod_add_mod, Nat.add_assoc]

theorem Band.claim_legal {b : Band} (h : b.Legal) : b.claim.Legal := by
  obtain ⟨h1, h2, h3, h4, h5, h6⟩ := h
  unfold Band.claim Band.canClaim
  split
  · next hc =>
    simp only [Bool.and_eq_true, decide_eq_true_eq] at hc
    exact ⟨h1, h2, by simp only; omega, h4, by simp only; omega, h6⟩
  · exact ⟨h1, h2, h3, h4, h5, h6⟩

theorem Band.writeBackEnd_legal {b : Band} (h : b.Legal) : b.writeBackEnd.Legal := by
  obtain ⟨h1, h2, h3, h4, h5, h6⟩ := h
  unfold Band.writeBackEnd
  split
  · exact ⟨by simp only; rw [h1, ring_fill], h2, by simp only; omega, by simp only; omega, by simp only; omega, h6⟩
  · exact ⟨h1, h2, h3, h4, h5, h6⟩

theorem Band.withdraw_legal {b : Band} (h : b.Legal) : b.withdraw.Legal := by
  obtain ⟨h1, h2, h3, h4, h5, h6⟩ := h
  exact ⟨h1, h2, by simp only [Band.withdraw]; omega, h4, by simp only [Band.withdraw]; omega, h6⟩

theorem Band.fill_legal {b : Band} (h : b.Legal) : b.fill.Legal := by
  obtain ⟨h1, h2, h3, h4, h5, h6⟩ := h
  unfold Band.fill
  split
  · exact ⟨by simp only; rw [h1, ring_fill], h2, by simp only; omega, by simp only; omega, h5, h6⟩
  · exact ⟨h1, h2, h3, h4, h5, h6⟩

theorem Band.drain_legal {b : Band} (h : b.Legal) : b.drain.Legal := by
  obtain ⟨h1, h2, h3, h4, h5, h6⟩ := h
  unfold Band.drain
  split
  · refine ⟨by simp only; rw [h1]; exact ring_drain (by omega), .inl ?_, by simp only; omega, by simp only; omega, h5, h6⟩
    exact Nat.mod_lt _ (by omega)
  · exact ⟨h1, h2, h3, h4, h5, h6⟩

theorem Band.fetch_legal {b : Band} (h : b.Legal) : b.fetch.Legal := by
  obtain ⟨h1, h2, h3, h4, h5, h6⟩ := h
  unfold Band.fetch Band.canFetch
  split
  · next hc =>
    simp only [Bool.and_eq_true, decide_eq_true_eq] at hc
    exact ⟨h1, h2, h3, by simp only; omega, h5, by simp only; omega⟩
  · exact ⟨h1, h2, h3, h4, h5, h6⟩

theorem Band.strobeEnd_legal {b : Band} (h : b.Legal) : b.strobeEnd.Legal := by
  obtain ⟨h1, h2, h3, h4, h5, h6⟩ := h
  unfold Band.strobeEnd
  split
  · refine ⟨by simp only; rw [h1]; exact ring_drain (by omega), .inl ?_, by simp only; omega, by simp only; omega, h5,
      by simp only; omega⟩
    exact Nat.mod_lt _ (by omega)
  · exact ⟨h1, h2, h3, h4, h5, h6⟩

theorem Band.revert_legal {b : Band} (h : b.Legal) : b.revert.Legal := by
  obtain ⟨h1, h2, h3, h4, h5, h6⟩ := h
  exact ⟨h1, h2, h3, Nat.zero_le _, h5, Nat.zero_le _⟩

theorem Band.unmap_legal {b : Band} (h : b.Legal) : b.unmap.Legal := by
  obtain ⟨h1, h2, h3, h4, h5, h6⟩ := h
  exact ⟨h1, h2, h3, h4, h5, h6⟩

theorem Band.clearMarks_legal (b : Band) : b.clearMarks.Legal :=
  ⟨by simp [Band.clearMarks], (Nat.eq_zero_or_pos b.lines).symm.imp id (⟨·, rfl⟩), by simp [Band.clearMarks], by simp [Band.clearMarks],
    by simp [Band.clearMarks], by simp [Band.clearMarks]⟩

theorem Band.reset_legal : Band.reset.Legal := by
  constructor <;> simp [Band.reset]

/-- The record that a SET BAND writes has its marks at 0. -/
theorem bandOf_legal (role : Role) (body : List Word) : (bandOf role body).Legal := by
  cases role
  · exact Band.reset_legal
  all_goals
    refine ⟨?_, ?_, ?_, ?_, ?_, ?_⟩ <;> simp [bandOf, Band.reset]
    omega

/-- The notice test changes the notice mark alone. -/
theorem Band.noticeTest_legal {b : Band} (h : b.Legal) (up : Bool) : (b.noticeTest up).1.Legal := by
  obtain ⟨h1, h2, h3, h4, h5, h6⟩ := h
  unfold Band.noticeTest
  split <;> (try split) <;> exact ⟨h1, h2, h3, h4, h5, h6⟩

end Sys2Proof.Machine
end

