-- ==== Sys2Proof/Laws/Invariant.lean ====
section
/-! SUPPORT. The shared operations of the engines, queues and reports keep the invariant. -/

namespace Sys2Proof.Machine

open Sys2Proof

variable {s : State}

/-! ### Updates of one field -/

@[simp] theorem State.withPending_inv (x : List Instr) : Inv (s.withPending x) ↔ Inv s :=
  ⟨fun k => ⟨k.1, k.2, k.3, k.4, k.5, k.6⟩, fun k => ⟨k.1, k.2, k.3, k.4, k.5, k.6⟩⟩
@[simp] theorem State.withWindows_inv (x : Vector Window 8) : Inv (s.withWindows x) ↔ Inv s :=
  ⟨fun k => ⟨k.1, k.2, k.3, k.4, k.5, k.6⟩, fun k => ⟨k.1, k.2, k.3, k.4, k.5, k.6⟩⟩
@[simp] theorem State.withPort_inv (x : Port) : Inv (s.withPort x) ↔ Inv s :=
  ⟨fun k => ⟨k.1, k.2, k.3, k.4, k.5, k.6⟩, fun k => ⟨k.1, k.2, k.3, k.4, k.5, k.6⟩⟩
@[simp] theorem State.withIntake_inv (x : Intake) : Inv (s.withIntake x) ↔ Inv s :=
  ⟨fun k => ⟨k.1, k.2, k.3, k.4, k.5, k.6⟩, fun k => ⟨k.1, k.2, k.3, k.4, k.5, k.6⟩⟩
@[simp] theorem State.withCapture_inv (x : CaptureEngine) : Inv (s.withCapture x) ↔ Inv s :=
  ⟨fun k => ⟨k.1, k.2, k.3, k.4, k.5, k.6⟩, fun k => ⟨k.1, k.2, k.3, k.4, k.5, k.6⟩⟩
@[simp] theorem State.withEmit_inv (x : EmitEngine) : Inv (s.withEmit x) ↔ Inv s :=
  ⟨fun k => ⟨k.1, k.2, k.3, k.4, k.5, k.6⟩, fun k => ⟨k.1, k.2, k.3, k.4, k.5, k.6⟩⟩
@[simp] theorem State.withChanD_inv (x : Channel) : Inv (s.withChanD x) ↔ Inv s :=
  ⟨fun k => ⟨k.1, k.2, k.3, k.4, k.5, k.6⟩, fun k => ⟨k.1, k.2, k.3, k.4, k.5, k.6⟩⟩
@[simp] theorem State.withChanP_inv (x : Channel) : Inv (s.withChanP x) ↔ Inv s :=
  ⟨fun k => ⟨k.1, k.2, k.3, k.4, k.5, k.6⟩, fun k => ⟨k.1, k.2, k.3, k.4, k.5, k.6⟩⟩
@[simp] theorem State.withProfiles_inv (x : Vector (List Level) 8) : Inv (s.withProfiles x) ↔ Inv s :=
  ⟨fun k => ⟨k.1, k.2, k.3, k.4, k.5, k.6⟩, fun k => ⟨k.1, k.2, k.3, k.4, k.5, k.6⟩⟩
@[simp] theorem State.withSensors_inv (x : Vector SensorCell 6) : Inv (s.withSensors x) ↔ Inv s :=
  ⟨fun k => ⟨k.1, k.2, k.3, k.4, k.5, k.6⟩, fun k => ⟨k.1, k.2, k.3, k.4, k.5, k.6⟩⟩
@[simp] theorem State.withMover_inv (x : Mover) : Inv (s.withMover x) ↔ Inv s :=
  ⟨fun k => ⟨k.1, k.2, k.3, k.4, k.5, k.6⟩, fun k => ⟨k.1, k.2, k.3, k.4, k.5, k.6⟩⟩
@[simp] theorem State.withPower_inv (x : Power) : Inv (s.withPower x) ↔ Inv s :=
  ⟨fun k => ⟨k.1, k.2, k.3, k.4, k.5, k.6⟩, fun k => ⟨k.1, k.2, k.3, k.4, k.5, k.6⟩⟩
@[simp] theorem State.withRing_inv (x : Ringing) : Inv (s.withRing x) ↔ Inv s :=
  ⟨fun k => ⟨k.1, k.2, k.3, k.4, k.5, k.6⟩, fun k => ⟨k.1, k.2, k.3, k.4, k.5, k.6⟩⟩
@[simp] theorem State.withBoot_inv (x : Boot) : Inv (s.withBoot x) ↔ Inv s :=
  ⟨fun k => ⟨k.1, k.2, k.3, k.4, k.5, k.6⟩, fun k => ⟨k.1, k.2, k.3, k.4, k.5, k.6⟩⟩
@[simp] theorem State.withPins_inv (x : Pins) : Inv (s.withPins x) ↔ Inv s :=
  ⟨fun k => ⟨k.1, k.2, k.3, k.4, k.5, k.6⟩, fun k => ⟨k.1, k.2, k.3, k.4, k.5, k.6⟩⟩

@[simp] theorem State.withPassage_inv (hi : Inv s) {x : Passage} (hx : x.unposted ≤ 255) : Inv (s.withPassage x) :=
  ⟨hi.1, hi.2, hi.3, hx, hi.5, hi.6⟩
@[simp] theorem State.withReports_inv (hi : Inv s) {x : Reports} (hp : x.pending.length ≤ Config.pendingPlaces)
    (hl : 1 ≤ x.seq) (hh : x.seq ≤ 15) : Inv (s.withReports x) :=
  ⟨hi.1, hi.2, hp, hi.4, hl, hh⟩
@[simp] theorem State.withBand_inv (hi : Inv s) (b : Fin 4) {x : Band} (hx : x.Legal) : Inv (s.withBand b x) := by
  refine ⟨hi.1, fun i => ?_, hi.3, hi.4, hi.5, hi.6⟩
  by_cases hb : b = i
  · subst hb; simpa [State.withBand] using hx
  · have : b.val ≠ i.val := fun e => hb (Fin.ext e)
    simpa [State.withBand, Vector.getElem_set, this] using hi.2 i

@[simp] theorem State.judgeAnew_inv (hi : Inv s) (b : Fin 4) (changed : Nat → Bool) : Inv (s.judgeAnew b changed) := by
  simp only [State.judgeAnew, State.withPort_inv]; exact State.withPassage_inv hi hi.4
@[simp] theorem State.withLines_inv (hi : Inv s) (b : Fin 4) {x : Band} (hx : x.Legal) : Inv (s.withLines b x) :=
  State.judgeAnew_inv (State.withBand_inv hi b hx) _ _
@[simp] theorem State.withNewBand_inv (hi : Inv s) (b : Fin 4) {x : Band} (hx : x.Legal) : Inv (s.withNewBand b x) :=
  State.judgeAnew_inv (State.withBand_inv hi b hx) _ _

/-- A band's marks are a legal ring. -/
theorem Inv.legal (h : Inv s) (b : Fin 4) : s.bands[b.val].Legal := h.2 b

/-- A report enters where the pending queue has room. -/
theorem State.enter_inv_of_room (hi : Inv s) (hr : s.hasRoom = true) (r : Report) : Inv (s.enter r) := by
  have h8 : Config.pendingPlaces = 8 := rfl
  unfold State.enter
  split
  · next ho =>
    refine State.withReports_inv hi ?_ hi.5 hi.6
    simp only [State.hasRoom, ho, Bool.not_true, Bool.false_or, decide_eq_true_eq] at hr
    simp only [List.length_append, List.length_cons, List.length_nil]
    omega
  · exact hi


/-! ### Ops -/

@[simp] theorem State.withChan_inv (c : Chan) (x : Channel) : Inv (s.withChan c x) ↔ Inv s := by
  cases c <;> simp [State.withChan]
@[simp] theorem State.withRunning_inv (hi : Inv s) (q : QueueId) (r : Option Running) : Inv (s.withRunning q r) := by
  simp (maxDischargeDepth := 8) [State.withRunning, hi]

/-! ### Reports -/

theorem State.enterCompletion_inv_of_room (hi : Inv s) (hr : s.hasRoom = true) (q : QueueId) : Inv (s.enterCompletion q) := by
  simp only [State.enterCompletion]; split <;> simp [hi, State.withRunning, State.enter_inv_of_room hi hr]
theorem State.enterItem_inv_of_room (hi : Inv s) (hr : s.hasRoom = true) (i : WaitingItem) : Inv (s.enterItem i) := by
  cases i <;> simp [State.enterItem, State.enter_inv_of_room hi hr, State.enterCompletion_inv_of_room hi hr]
@[simp] theorem State.offer_inv (hi : Inv s) (block : Block) (item : WaitingItem) : Inv (s.offer block item) := by
  unfold State.offer
  split
  · next hr => exact State.enterItem_inv_of_room hi hr item
  · exact State.withReports_inv hi hi.3 hi.5 hi.6
@[simp] theorem State.offerNotice_inv (hi : Inv s) (b : Fin 4) (r : Report) : Inv (s.offerNotice b r) := by
  simp only [State.offerNotice]; (repeat' split) <;> simp (maxDischargeDepth := 8) [hi]
@[simp] theorem State.dropNotice_inv (hi : Inv s) (b : Fin 4) : Inv (s.dropNotice b) :=
  State.withReports_inv hi hi.3 hi.5 hi.6
@[simp] theorem State.offerPower_inv (hi : Inv s) (r : Report) : Inv (s.offerPower r) := by
  simp only [State.offerPower]; (repeat' split) <;> simp (maxDischargeDepth := 8) [hi]
@[simp] theorem State.offerSensor_inv (hi : Inv s) (x : Sensor) : Inv (s.offerSensor x) := by
  unfold State.offerSensor
  split
  · exact hi
  · split
    · exact State.withReports_inv hi hi.3 hi.5 hi.6
    · exact State.offer_inv hi _ _
@[simp] theorem State.raiseFault_inv (hi : Inv s) (f : PassageFault) : Inv (s.raiseFault f) := by
  unfold State.raiseFault
  split
  · next hr => exact State.withPassage_inv (State.enter_inv_of_room hi hr _) (Nat.zero_le _)
  · refine State.withPassage_inv hi ?_
    simp only [stopAt]; split <;> omega
@[simp] theorem State.endOrder_inv (hi : Inv s) (q : QueueId) (block : Block) (result : Result) (figures : List Word) :
    Inv (s.endOrder q block result figures) := by
  simp only [State.endOrder]; (repeat' split) <;> simp (maxDischargeDepth := 8) [hi]

/-! ### Bands -/

@[simp] theorem State.withCount_inv (hi : Inv s) (b : Fin 4) {x : Band} (hx : x.Legal) (up : Bool) : Inv (s.withCount b x up) := by
  simp only [State.withCount]; split <;> simp [hi, Band.noticeTest_legal hx]

/-! ### Passage -/

@[simp] theorem State.withCpu_inv (hi : Inv s) (x : Option CpuAccess) : Inv (s.withCpu x) :=
  State.withPassage_inv hi hi.4
@[simp] theorem State.completeCpu_inv (hi : Inv s) (a : Access) (d : Option Word) : Inv (s.completeCpu a d) :=
  State.withPassage_inv hi hi.4
@[simp] theorem State.endHold_inv (hi : Inv s) (x : CpuAccess) : Inv (s.endHold x) := by
  simp only [State.endHold]; (repeat' split) <;> simp (maxDischargeDepth := 8) [hi]
@[simp] theorem State.expireHold_inv (hi : Inv s) (x : CpuAccess) (b : Fin 4) : Inv (s.expireHold x b) := by
  simp (maxDischargeDepth := 8) [State.expireHold, hi]
@[simp] theorem State.holdCpu_inv (hi : Inv s) (a : Access) (why : HoldReason) (t : HoldTimer) :
    Inv (s.holdCpu a why t) := by
  simp only [State.holdCpu]; (repeat' split) <;> simp (maxDischargeDepth := 8) [hi]
@[simp] theorem State.presentCpu_inv (hi : Inv s) (a : Access) (t : HoldTimer) : Inv (s.presentCpu a t) := by
  simp only [State.presentCpu]; (repeat' split) <;> simp (maxDischargeDepth := 8) [hi]
@[simp] theorem State.releaseCpu_inv (hi : Inv s) (why : HoldReason) : Inv (s.releaseCpu why) := by
  simp only [State.releaseCpu]; (repeat' split) <;> simp (maxDischargeDepth := 8) [hi]
@[simp] theorem State.releaseMover_inv (hi : Inv s) (b : Fin 4) (line : Nat) : Inv (s.releaseMover b line) := by
  simp only [State.releaseMover]; (repeat' split) <;> simp (maxDischargeDepth := 8) [hi]
@[simp] theorem State.releaseLine_inv (hi : Inv s) (b : Fin 4) (line : Nat) : Inv (s.releaseLine b line) := by
  simp (maxDischargeDepth := 8) [State.releaseLine, hi]
@[simp] theorem State.cancelCpu_inv (hi : Inv s) (b : Fin 4) : Inv (s.cancelCpu b) := by
  simp only [State.cancelCpu]; (repeat' split) <;> simp (maxDischargeDepth := 8) [hi]
@[simp] theorem State.cancelMover_inv (hi : Inv s) (b : Fin 4) : Inv (s.cancelMover b) := by
  simp only [State.cancelMover]; (repeat' split) <;> simp (maxDischargeDepth := 8) [hi]
@[simp] theorem State.cancelHolds_inv (hi : Inv s) (b : Fin 4) : Inv (s.cancelHolds b) := by
  simp (maxDischargeDepth := 8) [State.cancelHolds, hi]

/-! ### Motor -/

@[simp] theorem State.endMove_inv (hi : Inv s) (c : Chan) (result : Result) : Inv (s.endMove c result) := by
  simp (maxDischargeDepth := 8) [State.endMove, hi]
@[simp] theorem State.startMove_inv (hi : Inv s) (c : Chan) (p : MoveParams) : Inv (s.startMove c p) := by
  simp only [State.startMove]; (repeat' split) <;> simp (maxDischargeDepth := 8) [hi]
@[simp] theorem State.stepMove_inv (hi : Inv s) (c : Chan) (p : MoveParams) : Inv (s.stepMove c p) := by
  simp only [State.stepMove]; (repeat' split) <;> simp (maxDischargeDepth := 8) [hi]
@[simp] theorem State.edgeMove_inv (hi : Inv s) (c : Chan) (p : MoveParams) (x : Sensor) (rising : Bool) :
    Inv (s.edgeMove c p x rising) := by
  simp only [State.edgeMove]; (repeat' split) <;> simp (maxDischargeDepth := 8) [hi]

/-! ### Capture -/

@[simp] theorem State.withCaptureRecord_inv (hi : Inv s) (r : CaptureRecord) : Inv (s.withCaptureRecord r) := by
  simp (maxDischargeDepth := 8) [State.withCaptureRecord, hi]
@[simp] theorem State.captureFinish_inv (hi : Inv s) : Inv (s.captureFinish) := by
  simp only [State.captureFinish]; (repeat' split) <;> simp (maxDischargeDepth := 8) [hi]
@[simp] theorem State.captureDecide_inv (hi : Inv s) (r : CaptureRecord) (result : Result) :
    Inv (s.captureDecide r result) := by
  simp (maxDischargeDepth := 8) [State.captureDecide, hi]
@[simp] theorem State.captureStop_inv (hi : Inv s) (r : CaptureRecord) (result : Result) :
    Inv (s.captureStop r result) := by
  simp (maxDischargeDepth := 8) [State.captureStop, hi]
@[simp] theorem State.beginLine_inv (hi : Inv s) (p : CaptureParams) (r : CaptureRecord) : Inv (s.beginLine p r) := by
  simp only [State.beginLine]; (repeat' split) <;> simp (maxDischargeDepth := 8) [hi, Band.claim_legal, hi.legal]
@[simp] theorem State.withdrawClocking_inv (hi : Inv s) (n : Fin 4) : Inv (s.withdrawClocking n) := by
  simp only [State.withdrawClocking]; (repeat' split) <;> simp (maxDischargeDepth := 8) [hi, Band.withdraw_legal, hi.legal]
@[simp] theorem State.captureProceed_inv (hi : Inv s) (p : CaptureParams) (r : CaptureRecord) (level : Nat) :
    Inv (s.captureProceed p r level) := by
  simp only [State.captureProceed]; (repeat' split) <;> simp (maxDischargeDepth := 8) [hi]
@[simp] theorem State.paceCapture_inv (hi : Inv s) (p : CaptureParams) (r : CaptureRecord) :
    Inv (s.paceCapture p r) := by
  simp only [State.paceCapture]; (repeat' split) <;> simp (maxDischargeDepth := 8) [hi]
@[simp] theorem State.enterEject_inv (hi : Inv s) (p : CaptureParams) (r : CaptureRecord) :
    Inv (s.enterEject p r) := by
  simp only [State.enterEject]; (repeat' split) <;> simp (maxDischargeDepth := 8) [hi]
@[simp] theorem State.tailBoundary_inv (hi : Inv s) (p : CaptureParams) (r : CaptureRecord) :
    Inv (s.tailBoundary p r) := by
  simp only [State.tailBoundary]; (repeat' split) <;> simp (maxDischargeDepth := 8) [hi]
@[simp] theorem State.scanBoundary_inv (hi : Inv s) (p : CaptureParams) (r : CaptureRecord) :
    Inv (s.scanBoundary p r) := by
  simp only [State.scanBoundary]; (repeat' split) <;> simp (maxDischargeDepth := 8) [hi]
@[simp] theorem State.captureBoundary_inv (hi : Inv s) (p : CaptureParams) (r : CaptureRecord) :
    Inv (s.captureBoundary p r) := by
  simp only [State.captureBoundary]; (repeat' split) <;> simp (maxDischargeDepth := 8) [hi]
@[simp] theorem State.enterPaced_inv (hi : Inv s) (p : CaptureParams) (r : CaptureRecord) :
    Inv (s.enterPaced p r) := by
  simp (maxDischargeDepth := 8) [State.enterPaced, hi]
@[simp] theorem State.enterSkip_inv (hi : Inv s) (p : CaptureParams) (r : CaptureRecord) : Inv (s.enterSkip p r) := by
  simp only [State.enterSkip]; (repeat' split) <;> simp (maxDischargeDepth := 8) [hi]
@[simp] theorem State.startCapture_inv (hi : Inv s) (p : CaptureParams) : Inv (s.startCapture p) := by
  simp only [State.startCapture]; (repeat' split) <;> simp (maxDischargeDepth := 8) [hi]
@[simp] theorem State.stepSkip_inv (hi : Inv s) (p : CaptureParams) (r : CaptureRecord) : Inv (s.stepSkip p r) := by
  simp only [State.stepSkip]; (repeat' split) <;> simp (maxDischargeDepth := 8) [hi]
@[simp] theorem State.stepPaced_inv (hi : Inv s) (p : CaptureParams) (r : CaptureRecord) : Inv (s.stepPaced p r) := by
  simp only [State.stepPaced]; (repeat' split) <;> simp (maxDischargeDepth := 8) [hi]
@[simp] theorem State.stepEject_inv (hi : Inv s) (p : CaptureParams) (r : CaptureRecord) : Inv (s.stepEject p r) := by
  simp only [State.stepEject]; (repeat' split) <;> simp (maxDischargeDepth := 8) [hi]
@[simp] theorem State.stepApproach_inv (hi : Inv s) (p : CaptureParams) (r : CaptureRecord) :
    Inv (s.stepApproach p r) := by
  simp only [State.stepApproach]; (repeat' split) <;> simp (maxDischargeDepth := 8) [hi]
@[simp] theorem State.stepCapture_inv (hi : Inv s) (p : CaptureParams) (r : CaptureRecord) :
    Inv (s.stepCapture p r) := by
  simp only [State.stepCapture]; (repeat' split) <;> simp (maxDischargeDepth := 8) [hi]
@[simp] theorem State.resumeD_inv (hi : Inv s) (b : Fin 4) : Inv (s.resumeD b) := by
  simp only [State.resumeD]; (repeat' split) <;> simp (maxDischargeDepth := 8) [hi]
@[simp] theorem State.docEdge_inv (hi : Inv s) (rising : Bool) : Inv (s.docEdge rising) := by
  simp only [State.docEdge]; (repeat' split) <;> simp (maxDischargeDepth := 8) [hi]
@[simp] theorem State.captureBreak_inv (hi : Inv s) (result : Result) : Inv (s.captureBreak result) := by
  simp only [State.captureBreak]; (repeat' split) <;> simp (maxDischargeDepth := 8) [hi]

/-! ### Emit -/

@[simp] theorem State.withEmitRecord_inv (hi : Inv s) (r : EmitRecord) : Inv (s.withEmitRecord r) := by
  simp (maxDischargeDepth := 8) [State.withEmitRecord, hi]
@[simp] theorem State.emitDecide_inv (hi : Inv s) (r : EmitRecord) (result : Result) (reason : EndReason) :
    Inv (s.emitDecide r result reason) := by
  simp (maxDischargeDepth := 8) [State.emitDecide, hi]
@[simp] theorem State.tryLatch_inv (hi : Inv s) : Inv (s.tryLatch) := by
  simp only [State.tryLatch]; (repeat' split) <;> simp (maxDischargeDepth := 8) [hi]
@[simp] theorem State.revertLines_inv (hi : Inv s) (b : Fin 4) : Inv (s.revertLines b) := by
  simp only [State.revertLines]; (repeat' split) <;> simp (maxDischargeDepth := 8) [hi, Band.revert_legal, hi.legal]
@[simp] theorem State.emitStop_inv (hi : Inv s) (p : EmitParams) (r : EmitRecord) (result : Result) (reason : EndReason) :
    Inv (s.emitStop p r result reason) := by
  simp (maxDischargeDepth := 8) [State.emitStop, hi]
@[simp] theorem State.enterTail_inv (hi : Inv s) (p : EmitParams) (r : EmitRecord) : Inv (s.enterTail p r) := by
  simp only [State.enterTail]; (repeat' split) <;> simp (maxDischargeDepth := 8) [hi]
@[simp] theorem State.emitProceed_inv (hi : Inv s) (r : EmitRecord) (level : Nat) : Inv (s.emitProceed r level) := by
  simp (maxDischargeDepth := 8) [State.emitProceed, hi]
@[simp] theorem State.printBoundary_inv (hi : Inv s) (p : EmitParams) (r : EmitRecord) :
    Inv (s.printBoundary p r) := by
  simp only [State.printBoundary]; (repeat' split) <;> simp (maxDischargeDepth := 8) [hi]
@[simp] theorem State.startEmit_inv (hi : Inv s) (p : EmitParams) : Inv (s.startEmit p) := by
  simp only [State.startEmit]; (repeat' split) <;> simp (maxDischargeDepth := 8) [hi]
@[simp] theorem State.stepPrinting_inv (hi : Inv s) (p : EmitParams) (r : EmitRecord) : Inv (s.stepPrinting p r) := by
  simp only [State.stepPrinting]; (repeat' split) <;> simp (maxDischargeDepth := 8) [hi]
@[simp] theorem State.stepTail_inv (hi : Inv s) (p : EmitParams) (r : EmitRecord) : Inv (s.stepTail p r) := by
  simp only [State.stepTail]; (repeat' split) <;> simp (maxDischargeDepth := 8) [hi]
@[simp] theorem State.stepEmit_inv (hi : Inv s) (p : EmitParams) (r : EmitRecord) : Inv (s.stepEmit p r) := by
  simp only [State.stepEmit]; (repeat' split) <;> simp (maxDischargeDepth := 8) [hi]
@[simp] theorem State.resumeP_inv (hi : Inv s) (b : Fin 4) : Inv (s.resumeP b) := by
  simp only [State.resumeP]; (repeat' split) <;> simp (maxDischargeDepth := 8) [hi]
@[simp] theorem State.testOpenEnd_inv (hi : Inv s) : Inv (s.testOpenEnd) := by
  simp only [State.testOpenEnd]; (repeat' split) <;> simp (maxDischargeDepth := 8) [hi]
@[simp] theorem State.paperFall_inv (hi : Inv s) : Inv (s.paperFall) := by
  simp only [State.paperFall]; (repeat' split) <;> simp (maxDischargeDepth := 8) [hi]
@[simp] theorem State.emitCover_inv (hi : Inv s) : Inv (s.emitCover) := by
  simp only [State.emitCover]; (repeat' split) <;> simp (maxDischargeDepth := 8) [hi]
@[simp] theorem State.emitAbort_inv (hi : Inv s) : Inv (s.emitAbort) := by
  simp only [State.emitAbort]; (repeat' split) <;> simp (maxDischargeDepth := 8) [hi]

/-! ### Mover -/

@[simp] theorem State.applyObs_inv (hi : Inv s) (obs : Obs) (who : Requester) (op : AccessOp) (addr : Nat) :
    Inv (s.applyObs obs who op addr) := by
  simp only [State.applyObs]; (repeat' split) <;> simp (maxDischargeDepth := 8) [hi, Band.fill_legal, Band.drain_legal, hi.legal]
@[simp] theorem State.startTransfer_inv (hi : Inv s) (p : TransferParams) : Inv (s.startTransfer p) := by
  simp (maxDischargeDepth := 8) [State.startTransfer, hi]
@[simp] theorem State.endTransfer_inv (hi : Inv s) (result : Result) : Inv (s.endTransfer result) := by
  simp (maxDischargeDepth := 8) [State.endTransfer, hi]
@[simp] theorem State.stopTransfer_inv (hi : Inv s) : Inv (s.stopTransfer) := by
  simp (maxDischargeDepth := 8) [State.stopTransfer, hi]
@[simp] theorem State.abortTransfer_inv (hi : Inv s) : Inv (s.abortTransfer) := by
  simp only [State.abortTransfer]; (repeat' split) <;> simp (maxDischargeDepth := 8) [hi]
@[simp] theorem State.holdMover_inv (hi : Inv s) (b : Fin 4) (line : Nat) : Inv (s.holdMover b line) := by
  simp (maxDischargeDepth := 8) [State.holdMover, hi]
@[simp] theorem State.turnChunk_inv (hi : Inv s) : Inv (s.turnChunk) := by
  simp only [State.turnChunk]; (repeat' split) <;> simp (maxDischargeDepth := 8) [hi]
@[simp] theorem State.moverAct_inv (hi : Inv s) : Inv (s.moverAct) := by
  simp only [State.moverAct]; (repeat' split) <;> simp (maxDischargeDepth := 8) [hi]
@[simp] theorem State.runMover_inv (hi : Inv s) (n : Nat) : Inv (s.runMover n) := by
  induction n generalizing s with
  | zero => exact hi
  | succ n ih => simp only [State.runMover]; split <;> simp [ih, hi]
@[simp] theorem State.settleMover_inv (hi : Inv s) : Inv (s.settleMover) := by
  simp only [State.settleMover]; (repeat' split) <;> simp (maxDischargeDepth := 8) [hi]
@[simp] theorem State.endMoverGrant_inv (hi : Inv s) (n : Nat) (obs : Obs) : Inv (s.endMoverGrant n obs) := by
  simp only [State.endMoverGrant]; (repeat' split) <;> simp (maxDischargeDepth := 8) [hi]

/-! ### Power -/

@[simp] theorem State.withClock_inv (hi : Inv s) (on : Bool) : Inv (s.withClock on) := by
  simp (maxDischargeDepth := 8) [State.withClock, hi]
@[simp] theorem State.askSelfRefresh_inv (hi : Inv s) (on : Bool) : Inv (s.askSelfRefresh on) := by
  simp (maxDischargeDepth := 8) [State.askSelfRefresh, hi]
@[simp] theorem State.oweSleepWrite_inv (hi : Inv s) (slot : Nat) (r : Result) : Inv (s.oweSleepWrite slot r) := by
  simp (maxDischargeDepth := 8) [State.oweSleepWrite, hi]
@[simp] theorem State.deEnergiseBoth_inv (hi : Inv s) : Inv (s.deEnergiseBoth) := by
  simp (maxDischargeDepth := 8) [State.deEnergiseBoth, hi]
@[simp] theorem State.rewatch_inv (hi : Inv s) : Inv (s.rewatch) := by
  simp only [State.rewatch]; (repeat' split) <;> simp (maxDischargeDepth := 8) [hi]
@[simp] theorem State.enterSleeping_inv (hi : Inv s) (w : WakeSettings) : Inv (s.enterSleeping w) := by
  simp only [State.enterSleeping]; (repeat' split) <;> simp (maxDischargeDepth := 8) [hi]
@[simp] theorem State.endSleep_inv (hi : Inv s) (r : Result) : Inv (s.endSleep r) := by
  simp only [State.endSleep]; (repeat' split) <;> simp (maxDischargeDepth := 8) [hi]
@[simp] theorem State.wakeEarly_inv (hi : Inv s) (w : WakeSettings) (c : WakeCause) : Inv (s.wakeEarly w c) := by
  simp (maxDischargeDepth := 8) [State.wakeEarly, hi]
@[simp] theorem State.startWake_inv (hi : Inv s) (w : WakeSettings) (c : WakeCause) : Inv (s.startWake w c) := by
  simp (maxDischargeDepth := 8) [State.startWake, hi]
@[simp] theorem State.takeCause_inv (hi : Inv s) (c : WakeCause) : Inv (s.takeCause c) := by
  simp only [State.takeCause]; (repeat' split) <;> simp (maxDischargeDepth := 8) [hi]
@[simp] theorem State.confirmWake_inv (hi : Inv s) : Inv (s.confirmWake) := by
  simp (maxDischargeDepth := 8) [State.confirmWake, hi]
@[simp] theorem State.giveUpLapse_inv (hi : Inv s) : Inv (s.giveUpLapse) := by
  simp (maxDischargeDepth := 8) [State.giveUpLapse, hi]
@[simp] theorem State.notice_inv (hi : Inv s) : Inv (s.notice) := by
  simp only [State.notice]; (repeat' split) <;> simp (maxDischargeDepth := 8) [hi]
@[simp] theorem State.settleLapse_inv (hi : Inv s) : Inv (s.settleLapse) := by
  simp only [State.settleLapse]; (repeat' split) <;> simp (maxDischargeDepth := 8) [hi]
@[simp] theorem State.startConfirm_inv (hi : Inv s) (confirm : Nat) : Inv (s.startConfirm confirm) := by
  simp only [State.startConfirm]; (repeat' split) <;> simp (maxDischargeDepth := 8) [hi]
@[simp] theorem State.reportWake_inv (hi : Inv s) (w : WakeSettings) (word : Word) : Inv (s.reportWake w word) := by
  simp only [State.reportWake]; (repeat' split) <;> simp (maxDischargeDepth := 8) [hi]
@[simp] theorem State.wakeWordDone_inv (hi : Inv s) (word : Word) : Inv (s.wakeWordDone word) := by
  simp only [State.wakeWordDone]; (repeat' split) <;> simp (maxDischargeDepth := 8) [hi]
@[simp] theorem State.call_inv (hi : Inv s) : Inv (s.call) := by
  simp only [State.call]; (repeat' split) <;> simp (maxDischargeDepth := 8) [hi]
@[simp] theorem State.burstQualified_inv (hi : Inv s) : Inv (s.burstQualified) := by
  simp only [State.burstQualified]; (repeat' split) <;> simp (maxDischargeDepth := 8) [hi]
@[simp] theorem State.burstDisqualified_inv (hi : Inv s) : Inv (s.burstDisqualified) := by
  simp only [State.burstDisqualified]; (repeat' split) <;> simp (maxDischargeDepth := 8) [hi]
@[simp] theorem State.judgeBurst_inv (hi : Inv s) (periods : List Nat) : Inv (s.judgeBurst periods) := by
  simp only [State.judgeBurst]; (repeat' split) <;> simp (maxDischargeDepth := 8) [hi]

/-! ### Intake -/

@[simp] theorem State.withSlot_inv (hi : Inv s) (i : Nat) (x : SlotRecord) : Inv (s.withSlot i x) := by
  simp (maxDischargeDepth := 8) [State.withSlot, hi]
@[simp] theorem State.leaveFetching_inv (hi : Inv s) (i : Nat) (x : SlotRecord) : Inv (s.leaveFetching i x) := by
  simp (maxDischargeDepth := 8) [State.leaveFetching, hi]
@[simp] theorem State.withStage_inv (hi : Inv s) (h : InHand) (st : Stage) : Inv (s.withStage h st) := by
  simp (maxDischargeDepth := 8) [State.withStage, hi]
@[simp] theorem State.refuseOrder_inv (hi : Inv s) (h : InHand) (r : Result) : Inv (s.refuseOrder h r) := by
  simp (maxDischargeDepth := 8) [State.refuseOrder, hi]
@[simp] theorem State.completeOrder_inv (hi : Inv s) (h : InHand) : Inv (s.completeOrder h) := by
  simp (maxDischargeDepth := 8) [State.completeOrder, hi]
@[simp] theorem State.takeSlot_inv (hi : Inv s) (i : Nat) (urgent : Bool) : Inv (s.takeSlot i urgent) := by
  simp (maxDischargeDepth := 8) [State.takeSlot, hi]
@[simp] theorem State.settleTake_inv (hi : Inv s) : Inv (s.settleTake) := by
  simp only [State.settleTake]; (repeat' split) <;> simp (maxDischargeDepth := 8) [hi]
@[simp] theorem State.observeHead_inv (hi : Inv s) (addr : Nat) (w : Word) : Inv (s.observeHead addr w) := by
  simp only [State.observeHead]; (repeat' split) <;> simp (maxDischargeDepth := 8) [hi]
@[simp] theorem State.withQueue_inv (hi : Inv s) (q : QueueId) (x : Queue) : Inv (s.withQueue q x) := by
  simp (maxDischargeDepth := 8) [State.withQueue, hi]
@[simp] theorem State.startOrder_inv (hi : Inv s) (q : QueueId) (o : Order) : Inv (s.startOrder q o) := by
  simp only [State.startOrder]; (repeat' split) <;> simp (maxDischargeDepth := 8) [hi]
@[simp] theorem State.startNext_inv (hi : Inv s) (q : QueueId) : Inv (s.startNext q) := by
  simp only [State.startNext]; (repeat' split) <;> simp (maxDischargeDepth := 8) [hi]
@[simp] theorem State.dispatch_inv (hi : Inv s) : Inv (s.dispatch) := by
  simp only [State.dispatch]; (repeat' split) <;> simp (maxDischargeDepth := 8) [hi]
@[simp] theorem State.handOver_inv (hi : Inv s) (h : InHand) (w : Work) : Inv (s.handOver h w) := by
  simp (maxDischargeDepth := 8) [State.handOver, hi]
@[simp] theorem State.endInHand_inv (hi : Inv s) (h : InHand) : Inv (s.endInHand h) := by
  simp only [State.endInHand]; (repeat' split) <;> simp (maxDischargeDepth := 8) [hi]
@[simp] theorem State.clearEngine_inv (hi : Inv s) (w : Work) : Inv (s.clearEngine w) := by
  simp only [State.clearEngine]; (repeat' split) <;> simp (maxDischargeDepth := 8) [hi]
@[simp] theorem State.leaveQueue_inv (hi : Inv s) (q : QueueId) (ro : Running) : Inv (s.leaveQueue q ro) := by
  simp only [State.leaveQueue]; (repeat' split) <;> simp (maxDischargeDepth := 8) [hi]
@[simp] theorem State.endFinalWrite_inv (hi : Inv s) (w : FinalWrite) : Inv (s.endFinalWrite w) := by
  simp only [State.endFinalWrite]; (repeat' split) <;> simp (maxDischargeDepth := 8) [hi]
@[simp] theorem State.stopWork_inv (hi : Inv s) (w : Work) : Inv (s.stopWork w) := by
  simp only [State.stopWork]; (repeat' split) <;> simp (maxDischargeDepth := 8) [hi]
@[simp] theorem State.abortEnding_inv (hi : Inv s) (ro : Running) : Inv (s.abortEnding ro) := by
  simp (maxDischargeDepth := 8) [State.abortEnding, hi]
@[simp] theorem State.abortRecord_inv (hi : Inv s) (w : Work) : Inv (s.abortRecord w) := by
  cases w <;> simp [State.abortRecord, hi]
@[simp] theorem State.abortQueue_inv (hi : Inv s) (q : QueueId) : Inv (s.abortQueue q) := by
  simp only [State.abortQueue]; (repeat' split) <;> simp (maxDischargeDepth := 8) [hi]
@[simp] theorem State.requestFetch_inv (hi : Inv s) (h : InHand) : Inv (s.requestFetch h) := by
  simp only [State.requestFetch]; (repeat' split) <;> simp (maxDischargeDepth := 8) [hi]
@[simp] theorem State.settleIntake_inv (hi : Inv s) : Inv (s.settleIntake) := by
  simp only [State.settleIntake]; (repeat' split) <;> simp (maxDischargeDepth := 8) [hi]

/-! ### Settle -/

@[simp] theorem State.settleCapture_inv (hi : Inv s) : Inv (s.settleCapture) := by
  simp only [State.settleCapture]; (repeat' split) <;> simp (maxDischargeDepth := 8) [hi]
@[simp] theorem State.settleEmit_inv (hi : Inv s) : Inv (s.settleEmit) := by
  simp only [State.settleEmit]; (repeat' split) <;> simp (maxDischargeDepth := 8) [hi]
@[simp] theorem State.settleProcessor_inv (hi : Inv s) : Inv (s.settleProcessor) := by
  simp only [State.settleProcessor]; (repeat' split) <;> simp (maxDischargeDepth := 8) [hi]
@[simp] theorem State.settle_inv (hi : Inv s) : Inv (s.settle) := by
  simp (maxDischargeDepth := 8) [State.settle, hi]

end Sys2Proof.Machine
end

