-- ==== Sys2Proof/Laws/Memory.lean ====
section
/-! SUPPORT. Memory as a sorted list of cells: what a read finds after a write, and that every write keeps the canonical
form. -/

namespace Sys2Proof.Machine

open Sys2Proof

/-- A write adds no address but its own. -/
theorem Memory.mem_write {m : List Host.Cell} {a : Nat} {v : Byte} {c : Host.Cell} (h : c ∈ Memory.write m a v) :
    (c = (a, v) ∧ v ≠ Config.unlistedDram) ∨ c ∈ m := by
  induction m with
  | nil =>
    simp only [Memory.write] at h
    split at h <;> simp_all
  | cons d rest ih =>
    simp only [Memory.write] at h
    split at h
    · split at h <;> simp_all
    · split at h
      · split at h <;> simp_all <;> tauto
      · rcases List.mem_cons.mp h with rfl | h
        · simp
        · rcases ih h with h | h
          · exact .inl h
          · exact .inr (List.mem_cons_of_mem _ h)

/-- A write keeps the canonical form. -/
theorem Memory.write_wf {m : List Host.Cell} (h : Memory.wf m) (a : Nat) (v : Byte) : Memory.wf (Memory.write m a v) := by
  refine ⟨?_, fun c hc => ?_⟩
  · induction m with
    | nil => simp only [Memory.write]; split <;> simp
    | cons d rest ih =>
      obtain ⟨hp, hv⟩ := h
      rw [List.pairwise_cons] at hp
      have hr : Memory.wf rest := ⟨hp.2, fun c hc => hv c (List.mem_cons_of_mem _ hc)⟩
      simp only [Memory.write]
      split
      · next hlt =>
        split
        · exact List.pairwise_cons.mpr hp
        · refine List.pairwise_cons.mpr ⟨fun c hc => ?_, List.pairwise_cons.mpr hp⟩
          rcases List.mem_cons.mp hc with rfl | hc
          · exact hlt
          · exact lt_trans hlt (hp.1 c hc)
      · split
        · next heq =>
          split
          · exact hp.2
          · exact List.pairwise_cons.mpr ⟨fun c hc => by simpa [heq] using hp.1 c hc, hp.2⟩
        · next h1 h2 =>
          refine List.pairwise_cons.mpr ⟨fun c hc => ?_, ih hr⟩
          rcases Memory.mem_write hc with ⟨rfl, -⟩ | hc
          · simp only; omega
          · exact hp.1 c hc
  · rcases Memory.mem_write hc with ⟨rfl, hv⟩ | hc
    · exact hv
    · exact h.2 c hc

/-- An address below every listed one reads as an unlisted one. -/
theorem Memory.read_of_lt {m : List Host.Cell} {a : Nat} (u : Byte) (h : ∀ c ∈ m, a < c.1) : Memory.read u m a = u := by
  induction m with
  | nil => rfl
  | cons d rest ih =>
    have hd := h d List.mem_cons_self
    simp only [Memory.read]
    rw [if_neg (by omega)]
    exact ih fun c hc => h c (List.mem_cons_of_mem _ hc)

/-- The byte just written is read back. -/
theorem Memory.read_write_same {m : List Host.Cell} (h : Memory.wf m) (a : Nat) (v : Byte) :
    Memory.read Config.unlistedDram (Memory.write m a v) a = v := by
  induction m with
  | nil => simp only [Memory.write]; split <;> simp_all [Memory.read]
  | cons d rest ih =>
    obtain ⟨hp, hv⟩ := h
    rw [List.pairwise_cons] at hp
    simp only [Memory.write]
    split
    · next hlt =>
      split
      · next hu =>
        rw [Memory.read_of_lt _ (fun c hc => ?_), hu]
        rcases List.mem_cons.mp hc with rfl | hc
        · exact hlt
        · exact lt_trans hlt (hp.1 c hc)
      · simp [Memory.read]
    · split
      · next heq =>
        split
        · next hu => rw [Memory.read_of_lt _ (fun c hc => by simpa [heq] using hp.1 c hc), hu]
        · simp [Memory.read]
      · simp only [Memory.read]
        rw [if_neg (by omega)]
        exact ih ⟨hp.2, fun c hc => hv c (List.mem_cons_of_mem _ hc)⟩

/-- A write leaves every other address as it was. -/
theorem Memory.read_write_other {m : List Host.Cell} (h : Memory.wf m) {a b : Nat} (v : Byte) (hab : b ≠ a) :
    Memory.read Config.unlistedDram (Memory.write m a v) b = Memory.read Config.unlistedDram m b := by
  induction m with
  | nil => simp only [Memory.write]; split <;> simp [Memory.read]; omega
  | cons d rest ih =>
    obtain ⟨hp, hv⟩ := h
    rw [List.pairwise_cons] at hp
    simp only [Memory.write]
    split
    · split
      · rfl
      · simp only [Memory.read]; rw [if_neg (by omega)]
    · split
      · next heq =>
        split
        · simp only [Memory.read]; rw [if_neg (by omega)]
        · simp only [Memory.read]; rw [if_neg (by omega), if_neg (by omega)]
      · simp only [Memory.read]
        rw [ih ⟨hp.2, fun c hc => hv c (List.mem_cons_of_mem _ hc)⟩]

/-- Writes one after another keep the canonical form. -/
theorem Memory.writeAll_wf {m : List Host.Cell} (h : Memory.wf m) (cells : List Host.Cell) :
    Memory.wf (Memory.writeAll m cells) := by
  induction cells generalizing m with
  | nil => exact h
  | cons c rest ih => exact ih (Memory.write_wf h c.1 c.2)

/-- Writes one after another leave every address that none of them names as it was. -/
theorem Memory.read_writeAll_other {m : List Host.Cell} (h : Memory.wf m) {cells : List Host.Cell} {a : Nat}
    (ha : ∀ c ∈ cells, c.1 ≠ a) :
    Memory.read Config.unlistedDram (Memory.writeAll m cells) a = Memory.read Config.unlistedDram m a := by
  induction cells generalizing m with
  | nil => rfl
  | cons c rest ih =>
    simp only [Memory.writeAll]
    rw [ih (Memory.write_wf h c.1 c.2) fun d hd => ha d (List.mem_cons_of_mem _ hd),
      Memory.read_write_other h c.2 (Ne.symm (ha c List.mem_cons_self))]

/-- A store to DRAM keeps its canonical form. -/
theorem State.store_wf {s : State} (h : Memory.wf s.dram) (cells : List Host.Cell) : Memory.wf (s.store cells).dram :=
  Memory.writeAll_wf h cells

end Sys2Proof.Machine
end

