-- ==== Sys2Proof/Laws/Commands.lean ====
section
/-! SUPPORT. Every operation that a command is made of keeps the invariant: grants and their ends, resets, boot, orders,
sensors, lines. -/

namespace Sys2Proof.Machine

open Sys2Proof

variable {s : State}

@[simp] theorem State.store_inv (h : Inv s) (c) : Inv (s.store c) := ⟨State.store_wf h.1 c, h.2, h.3, h.4, h.5, h.6⟩

@[simp] theorem State.freePort_inv (h : Inv s) : Inv s.freePort := by simp [State.freePort, h]

@[simp] theorem State.endGrant_inv (h : Inv s) (g) : Inv (s.endGrant g) := by
  simp [State.endGrant, h]

@[simp] theorem State.cutGrant_inv (h : Inv s) (g) : Inv (s.cutGrant g) := by
  simp only [State.cutGrant]; split <;> simp [h]

@[simp] theorem State.resetPart_inv (h : Inv s) (c w) : Inv (s.resetPart c w) := by
  have := State.cutGrant_inv h w
  refine ⟨this.1, ?_, Nat.zero_le _, Nat.zero_le _, Nat.le_refl _, (by show (1:Nat) ≤ 15; omega)⟩
  intro b; simp [State.resetPart, State.reset]; exact Band.reset_legal

@[simp] theorem State.losePower_inv : Inv s.losePower := by
  refine ⟨by simp [State.losePower, State.reset, Memory.wf], ?_, Nat.zero_le _, Nat.zero_le _, Nat.le_refl _,
    by show (1:Nat) ≤ 15; omega⟩
  intro b; simp [State.losePower, State.reset]; exact Band.reset_legal

@[simp] theorem State.risePower_inv : Inv s.risePower := by
  refine ⟨by simp [State.risePower, State.reset, Memory.wf], ?_, Nat.zero_le _, Nat.zero_le _, Nat.le_refl _,
    by show (1:Nat) ≤ 15; omega⟩
  intro b; simp [State.risePower, State.reset]; exact Band.reset_legal

@[simp] theorem State.withBands_set_inv (h : Inv s) (b : Fin 4) {x : Band} (hx : x.Legal) :
    Inv (s.withBands (s.bands.set b x)) := State.withBand_inv h b hx

@[simp] theorem Reports.recompute_pending (r : Reports) : r.recompute.pending = r.pending := rfl

@[simp] theorem Reports.recompute_seq (r : Reports) : r.recompute.seq = r.seq := rfl

theorem State.loadEntry_inv (h : Inv s) (x) (e) : Inv (State.loadEntry x s e) := by
  simp only [State.loadEntry]; (repeat' split) <;> simp [h]

theorem State.loadEntries_inv (x) (l : List (Fin 8)) (h : Inv s) : Inv (l.foldl (State.loadEntry x) s) := by
  induction l generalizing s with
  | nil => exact h
  | cons a l ih => exact ih (State.loadEntry_inv h x a)

@[simp] theorem State.applyHeader_inv (h : Inv s) (x) : Inv (s.applyHeader x) := by
  simp only [State.applyHeader, State.withBoot_inv]
  apply State.loadEntries_inv
  simp only [State.withBoot_inv]
  exact State.withReports_inv (by simp [h, h.4]) h.3 h.5 h.6

@[simp] theorem State.applyDefaults_inv (h : Inv s) : Inv (s.applyDefaults) := by
  simp only [State.applyDefaults, State.withBoot_inv]
  exact State.withReports_inv (by simp [h, h.4]) h.3 h.5 h.6

@[simp] theorem State.judgeHeader_inv (h : Inv s) (x) : Inv (s.judgeHeader x) := by
  simp only [State.judgeHeader, State.configure]; (repeat' split) <;> simp [h]

@[simp] theorem State.releaseProcessor_inv (h : Inv s) : Inv s.releaseProcessor := by
  simp only [State.releaseProcessor, State.withBoot_inv, State.withPins_inv]
  apply State.offer_inv; apply State.withPassage_inv h
  simp only [Passage.setOverlay]; (repeat' split) <;> simp [h.4]

@[simp] theorem State.grantTo_inv (h : Inv s) (g) : Inv (s.grantTo g) := by simp [State.grantTo, h]

@[simp] theorem State.grantFetch_inv (h : Inv s) : Inv s.grantFetch := by
  simp only [State.grantFetch]; (repeat' split) <;> simp [h, Band.fetch_legal, h.legal]

@[simp] theorem State.grantCpu_inv (h : Inv s) (x) : Inv (s.grantCpu x) := by
  simp only [State.grantCpu]; (repeat' split) <;> simp [h]

@[simp] theorem State.grantProcessor_inv (h : Inv s) : Inv s.grantProcessor := by
  simp only [State.grantProcessor]; (repeat' split) <;> simp [h]

@[simp] theorem State.grantMover_inv (h : Inv s) : Inv s.grantMover := by
  simp only [State.grantMover]; (repeat' split) <;> simp [h]

@[simp] theorem State.grantNext_inv (h : Inv s) : Inv s.grantNext := by
  simp only [State.grantNext, State.grantRefresh]; (repeat' split) <;> simp [h]

@[simp] theorem State.consumeReport_inv (h : Inv s) : Inv s.consumeReport := by
  apply State.withReports_inv h <;> simp [h.3, h.5, h.6]

@[simp] theorem State.observeCpu_inv (h : Inv s) (x) : Inv (s.observeCpu x) := by
  simp only [State.observeCpu]; (repeat' split) <;> simp [h]

theorem State.posted_inv (h : Inv s) : Inv (s.withReports s.reports.posted) := by
  have h8 : Config.pendingPlaces = 8 := rfl
  obtain ⟨-, -, h3, -, h5, h6⟩ := id h
  cases hp : s.reports.pending with
  | nil => apply State.withReports_inv h <;> simp only [Reports.posted, hp, List.length_nil] <;> omega
  | cons x rest =>
    rw [hp, List.length_cons] at h3
    apply State.withReports_inv h <;> simp only [Reports.posted, hp, Reports.recompute_pending, Reports.recompute_seq]
    · omega
    · split <;> omega
    · split <;> omega

theorem State.posted_room (h : Inv s) : s.reports.posted.pending.length < Config.pendingPlaces := by
  have h8 : Config.pendingPlaces = 8 := rfl
  have h3 := h.pending
  cases hp : s.reports.pending with
  | nil => simp only [Reports.posted, hp, List.length_nil, h8]; omega
  | cons x rest =>
    rw [hp, List.length_cons] at h3
    simp only [Reports.posted, hp, Reports.recompute_pending]; omega

@[simp] theorem State.withReports_hasRoom (x) (hx : x.pending = s.reports.pending) : (s.withReports x).hasRoom = s.hasRoom := by
  simp only [State.hasRoom, hx, State.hasReports, State.withReports_reports]; rfl

theorem State.admitOne_inv (h : Inv s) (hr : s.hasRoom = true) : Inv s.admitOne := by
  simp only [State.admitOne]; split
  · exact h
  · have : ∀ x : Waiting, ∀ rest, Inv ((s.withReports { s.reports with waiting := rest }).enterItem x.item) := by
      intro x rest
      apply State.enterItem_inv_of_room
      · exact State.withReports_inv h h.3 h.5 h.6
      · rw [State.withReports_hasRoom]; exact hr; rfl
    split <;> simp [this]

theorem State.replaceEntry_inv (h : Inv s) (e w) : Inv (s.replaceEntry e w) := by
  simp only [State.replaceEntry]; split
  · apply State.dropNotice_inv; apply State.cancelHolds_inv; apply State.withNewBand_inv; simp [h]
    exact Band.unmap_legal (h.2 _)
  · simp [h]

theorem State.replaceBand_inv (h : Inv s) (b) {x} (hx : x.Legal) : Inv (s.replaceBand b x) := by
  simp (maxDischargeDepth := 8) [State.replaceBand, h, hx]

theorem State.settleOrder_inv (h : Inv s) (x) (e : Except Result State) (he : ∀ t, e = .ok t → Inv t) :
    Inv (s.settleOrder x e) := by
  simp only [State.settleOrder]; split
  · have := he _ rfl; simp [this]
  · simp [h]

theorem State.settleQueued_inv (h : Inv s) (x) (e) : Inv (s.settleQueued x e) := by
  simp only [State.settleQueued]; split <;> simp [h]

/-- A check that is followed by others held if the whole succeeds. -/
theorem check_then {b r} {x : Except Result α} {t} (h : (check b r >>= fun _ => x) = .ok t) :
    b = true ∧ x = .ok t := by
  unfold check at h; split at h
  · exact ⟨‹_›, h⟩
  · cases h

theorem finish_inv (h : Inv s) {t} (ht : finish s = .next t) : Inv t := by
  cases ht; simp [h]

theorem onOrder_inv {k f} (h : Inv s) {t} (ht : onOrder k f s = .next t) (hf : ∀ x, Inv (f x s)) : Inv t := by
  unfold onOrder at ht; split at ht
  · exact finish_inv (hf _) ht
  · cases ht; exact h

theorem State.acceptSleep_inv (h : Inv s) (x w) : Inv (s.acceptSleep x w) := by
  simp [State.acceptSleep, h]

theorem State.sensorD_inv (h : Inv s) (x w) : Inv (s.sensorD x w) := by
  simp only [State.sensorD]; (repeat' split) <;> simp [h]

theorem State.sensorP_inv (h : Inv s) (x w) : Inv (s.sensorP x w) := by
  simp only [State.sensorP]; (repeat' split) <;> simp [h]

theorem State.deliver_inv (h : Inv s) (x w a b) : Inv (s.deliver x w a b) := by
  simp only [State.deliver, State.sensorChannels]; (repeat' split) <;> simp (maxDischargeDepth := 8) [h, State.sensorD_inv, State.sensorP_inv]

theorem State.lineCaptured_inv (h : Inv s) (p r i w) : Inv (s.lineCaptured p r i w) := by
  simp only [State.lineCaptured]; (repeat' split) <;> simp (maxDischargeDepth := 8) [h, Band.writeBackEnd_legal, h.legal]

theorem State.lineStrobed_inv (h : Inv s) (p r i) : Inv (s.lineStrobed p r i) := by
  simp only [State.lineStrobed]; (repeat' split) <;> simp (maxDischargeDepth := 8) [h, Band.strobeEnd_legal, h.legal]

theorem State.lineFetched_inv (h : Inv s) (i) : Inv (s.lineFetched i) := by
  simp only [State.lineFetched]; (repeat' split) <;> simp (maxDischargeDepth := 8) [h]

theorem State.stepExpired_inv (h : Inv s) (i) : Inv (s.stepExpired i) := by
  simp only [State.stepExpired]; (repeat' split) <;> simp (maxDischargeDepth := 8) [h]

end Sys2Proof.Machine
end

