-- ==== Sys2Proof/Laws/Operands.lean ====
section
/-! SUPPORT. What the CRC's evaluation word by word amounts to. -/

namespace Sys2Proof.Machine

open Sys2Proof

@[simp] theorem withValue_eq {α : Type} (w : Word) (f : Word → α) : withValue w f = f w := by
  unfold withValue
  split
  next h => rw [show w = 0 from BitVec.eq_of_toNat_eq h]
  next n h => rw [show n + 1 = w.toNat from h.symm, BitVec.ofNat_toNat, BitVec.setWidth_eq]

@[simp] theorem crcWords_cons (c w : Word) (rest : List Word) :
    crcWords c (w :: rest) = crcWords (crcByte (crcByte c (wordHigh w)) (wordLow w)) rest := withValue_eq _ _

/-- Words taken in two lists in turn are taken as one list, as COPY does burst by burst (R163). -/
theorem crcWords_append (c : Word) (a b : List Word) : crcWords c (a ++ b) = crcWords (crcWords c a) b := by
  induction a generalizing c with
  | nil => rfl
  | cons w a ih => simp only [List.cons_append, crcWords_cons, ih]

end Sys2Proof.Machine
end

