-- ==== Sys2Proof/WellFormed.lean ====
section
/-! DEFINITION. Which commands the environment can send: the bounds the spec puts on what a command brings. -/

namespace Sys2Proof

/-- The words misread in one ROM burst stand at places 0 to 15 of the burst (Table 1-5), each named once. -/
def Misread.wellFormed (m : Misread) : Bool :=
  m.all (fun c => decide (c.1 < Config.burstWords)) && decide ((m.map Prod.fst).Nodup)

/-- The pixels of a line are 8 times an even width of 16 to 256 bytes (R50, R94). -/
def pixelsWellFormed (n : Nat) : Bool :=
  decide (n % 16 = 0) && decide (128 ≤ n) && decide (n ≤ 2048)

/-- A grant moves at most 128 words, a line burst of 256 bytes (Table 1-5). -/
def cutWellFormed (n : Nat) : Bool := decide (n ≤ 128)

/-- Two rising edges of one input do not come at the same instant (R154). -/
def gapWellFormed (n : Nat) : Bool := decide (0 < n)

/-- The well-formed commands. -/
def WellFormed : Instr → Bool
  | .headerReadEnd m => m.wellFormed
  | .bootBurstEnd m => m.wellFormed
  | .clockingEnd ps => pixelsWellFormed ps.length
  | .resetLineAssert n => cutWellFormed n
  | .confirmTimerExpiry n => cutWellFormed n
  | .ringingPulse g => gapWellFormed g
  | .powerOn | .resetLineRelease | .holdDelayEnd | .fillEnd | .copyAttemptEnd | .bootRelease => true
  | .processorAccess _ _ | .arbiterGrant | .refreshDue | .processorGrantEnd | .accessHoldExpiry => true
  | .bodyFetchEnd | .takenWriteEnd | .finalWriteEnd => true
  | .setWindow | .clearWindow | .setBand | .resetBand | .setProfile | .profileRecordReadEnd => true
  | .setChannel | .setRinging | .setAttention | .sleep | .patternTableReadEnd | .restart | .abort | .emitEnd => true
  | .move | .capture | .emit | .transfer | .segmentRecordReadEnd | .reportPostEnd => true
  | .chopPeriodStart | .stepTimerExpiry _ | .holdTimerExpiry _ | .sensorInputChange _ _ => true
  | .debouncedChange _ _ _ | .writeBackEnd | .pauseTimerExpiry _ => true
  | .fetchGrantEnd | .shiftEnd | .strobeGroupEnd | .moverGrantEnd => true
  | .sleepEntry | .selfRefreshEntry | .sleepLimitExpiry | .patternTimerExpiry _ | .wakeTimerExpiry => true
  | .wakeWordWritten | .burstEnd | .windowTimerExpiry | .supplyFall | .refreshCycleEnd => true

end Sys2Proof
end

