-- ==== Sys2Proof/Laws/PerInstr.lean ====
section
/-! SUPPORT. What `WellFormed` decides, command by command: the bounds that the spec puts on what a command brings, in the
words of the rules. -/

namespace Sys2Proof.Laws.Bounded

open Sys2Proof

/-- The words misread in a ROM burst stand at places of the burst of 16 words (Table 1-5), each named once. -/
def MisreadBounds (m : Misread) : Prop := (∀ c ∈ m, c.1 < 16) ∧ (m.map Prod.fst).Nodup

/-- The bounds of what a command brings: the words of a cut grant are at most those of a line of 256 bytes (Table 1-5), the
pixels of a line fill an even number of bytes from 16 to 256 (R50), and two rising edges do not coincide (R154). -/
def Bounds : Instr → Prop
  | .headerReadEnd m | .bootBurstEnd m => MisreadBounds m
  | .resetLineAssert n | .confirmTimerExpiry n => n ≤ 128
  | .clockingEnd pixels => ∃ half, 8 ≤ half ∧ half ≤ 128 ∧ pixels.length = 8 * (2 * half)
  | .ringingPulse gap => gap ≠ 0
  | .powerOn | .resetLineRelease | .holdDelayEnd | .fillEnd | .copyAttemptEnd | .bootRelease => True
  | .processorAccess _ _ | .arbiterGrant | .refreshDue | .processorGrantEnd | .accessHoldExpiry | .bodyFetchEnd => True
  | .takenWriteEnd | .finalWriteEnd | .setWindow | .clearWindow | .setBand | .resetBand | .setProfile => True
  | .profileRecordReadEnd | .setChannel | .setRinging | .setAttention | .sleep | .patternTableReadEnd | .restart => True
  | .abort | .emitEnd | .move | .capture | .emit | .transfer | .segmentRecordReadEnd | .reportPostEnd => True
  | .chopPeriodStart | .stepTimerExpiry _ | .holdTimerExpiry _ | .sensorInputChange _ _ | .debouncedChange _ _ _ => True
  | .writeBackEnd | .pauseTimerExpiry _ | .fetchGrantEnd | .shiftEnd | .strobeGroupEnd | .moverGrantEnd => True
  | .sleepEntry | .selfRefreshEntry | .sleepLimitExpiry | .patternTimerExpiry _ | .wakeTimerExpiry => True
  | .wakeWordWritten | .burstEnd | .windowTimerExpiry | .supplyFall | .refreshCycleEnd => True

/-- A command is well-formed exactly when it keeps its bounds. -/
def Statement (c : Instr) : Prop := WellFormed c = true ↔ Bounds c

/-- The check of misread words says what the bounds say. -/
theorem misread_wellFormed (m : Misread) : m.wellFormed = true ↔ MisreadBounds m := by
  simp only [Misread.wellFormed, Bool.and_eq_true, List.all_eq_true, decide_eq_true_eq]
  exact Iff.rfl

/-- The check of a line's length says what the bounds say. -/
theorem pixelsWellFormed_iff (n : Nat) : pixelsWellFormed n = true ↔ ∃ half, 8 ≤ half ∧ half ≤ 128 ∧ n = 8 * (2 * half) := by
  simp only [pixelsWellFormed, Bool.and_eq_true, decide_eq_true_eq]
  constructor
  · rintro ⟨⟨h, low⟩, high⟩
    exact ⟨n / 16, by omega, by omega, by omega⟩
  · rintro ⟨half, low, high, rfl⟩
    omega

theorem powerOn : Statement .powerOn := iff_of_true rfl trivial
theorem resetLineAssert (words : Nat) : Statement (.resetLineAssert words) := decide_eq_true_iff
theorem resetLineRelease : Statement .resetLineRelease := iff_of_true rfl trivial
theorem holdDelayEnd : Statement .holdDelayEnd := iff_of_true rfl trivial
theorem headerReadEnd (misread : Misread) : Statement (.headerReadEnd misread) := misread_wellFormed misread
theorem fillEnd : Statement .fillEnd := iff_of_true rfl trivial
theorem copyAttemptEnd : Statement .copyAttemptEnd := iff_of_true rfl trivial
theorem bootRelease : Statement .bootRelease := iff_of_true rfl trivial
theorem processorAccess (addr : Addr) (op : AccessOp) : Statement (.processorAccess addr op) := iff_of_true rfl trivial
theorem arbiterGrant : Statement .arbiterGrant := iff_of_true rfl trivial
theorem refreshDue : Statement .refreshDue := iff_of_true rfl trivial
theorem processorGrantEnd : Statement .processorGrantEnd := iff_of_true rfl trivial
theorem accessHoldExpiry : Statement .accessHoldExpiry := iff_of_true rfl trivial
theorem bodyFetchEnd : Statement .bodyFetchEnd := iff_of_true rfl trivial
theorem takenWriteEnd : Statement .takenWriteEnd := iff_of_true rfl trivial
theorem finalWriteEnd : Statement .finalWriteEnd := iff_of_true rfl trivial
theorem setWindow : Statement .setWindow := iff_of_true rfl trivial
theorem clearWindow : Statement .clearWindow := iff_of_true rfl trivial
theorem setBand : Statement .setBand := iff_of_true rfl trivial
theorem resetBand : Statement .resetBand := iff_of_true rfl trivial
theorem setProfile : Statement .setProfile := iff_of_true rfl trivial
theorem profileRecordReadEnd : Statement .profileRecordReadEnd := iff_of_true rfl trivial
theorem setChannel : Statement .setChannel := iff_of_true rfl trivial
theorem setRinging : Statement .setRinging := iff_of_true rfl trivial
theorem setAttention : Statement .setAttention := iff_of_true rfl trivial
theorem sleep : Statement .sleep := iff_of_true rfl trivial
theorem patternTableReadEnd : Statement .patternTableReadEnd := iff_of_true rfl trivial
theorem restart : Statement .restart := iff_of_true rfl trivial
theorem abort : Statement .abort := iff_of_true rfl trivial
theorem emitEnd : Statement .emitEnd := iff_of_true rfl trivial
theorem move : Statement .move := iff_of_true rfl trivial
theorem capture : Statement .capture := iff_of_true rfl trivial
theorem emit : Statement .emit := iff_of_true rfl trivial
theorem transfer : Statement .transfer := iff_of_true rfl trivial
theorem segmentRecordReadEnd : Statement .segmentRecordReadEnd := iff_of_true rfl trivial
theorem reportPostEnd : Statement .reportPostEnd := iff_of_true rfl trivial
theorem chopPeriodStart : Statement .chopPeriodStart := iff_of_true rfl trivial
theorem stepTimerExpiry (c : Chan) : Statement (.stepTimerExpiry c) := iff_of_true rfl trivial
theorem holdTimerExpiry (c : Chan) : Statement (.holdTimerExpiry c) := iff_of_true rfl trivial
theorem sensorInputChange (sensor : Sensor) (level : Bool) : Statement (.sensorInputChange sensor level) := iff_of_true rfl trivial
theorem debouncedChange (sensor : Sensor) (reportLast : Bool) (pFirst : Bool) : Statement (.debouncedChange sensor reportLast pFirst) := iff_of_true rfl trivial
theorem clockingEnd (pixels : List Bool) : Statement (.clockingEnd pixels) := pixelsWellFormed_iff pixels.length
theorem writeBackEnd : Statement .writeBackEnd := iff_of_true rfl trivial
theorem pauseTimerExpiry (c : Chan) : Statement (.pauseTimerExpiry c) := iff_of_true rfl trivial
theorem fetchGrantEnd : Statement .fetchGrantEnd := iff_of_true rfl trivial
theorem shiftEnd : Statement .shiftEnd := iff_of_true rfl trivial
theorem strobeGroupEnd : Statement .strobeGroupEnd := iff_of_true rfl trivial
theorem moverGrantEnd : Statement .moverGrantEnd := iff_of_true rfl trivial
theorem sleepEntry : Statement .sleepEntry := iff_of_true rfl trivial
theorem selfRefreshEntry : Statement .selfRefreshEntry := iff_of_true rfl trivial
theorem sleepLimitExpiry : Statement .sleepLimitExpiry := iff_of_true rfl trivial
theorem patternTimerExpiry (pattern : Fin 4) : Statement (.patternTimerExpiry pattern) := iff_of_true rfl trivial
theorem wakeTimerExpiry : Statement .wakeTimerExpiry := iff_of_true rfl trivial
theorem wakeWordWritten : Statement .wakeWordWritten := iff_of_true rfl trivial
theorem confirmTimerExpiry (words : Nat) : Statement (.confirmTimerExpiry words) := decide_eq_true_iff
theorem ringingPulse (gap : Nat) : Statement (.ringingPulse gap) := by
  simp [Statement, Bounds, WellFormed, gapWellFormed, Nat.pos_iff_ne_zero]
theorem burstEnd : Statement .burstEnd := iff_of_true rfl trivial
theorem windowTimerExpiry : Statement .windowTimerExpiry := iff_of_true rfl trivial
theorem supplyFall : Statement .supplyFall := iff_of_true rfl trivial
theorem bootBurstEnd (misread : Misread) : Statement (.bootBurstEnd misread) := misread_wellFormed misread
theorem refreshCycleEnd : Statement .refreshCycleEnd := iff_of_true rfl trivial

end Sys2Proof.Laws.Bounded
end

