-- ==== Sys2Proof/Laws/Queues.lean ====
section
/-! SUPPORT. The works that run and wait in the queues: every operation leaves them alone but those that let an order
enter its queue, start or leave, and those keep the queues legal. -/

namespace Sys2Proof.Machine

open Sys2Proof

variable (s : State)

/-- The work that runs and the works that wait in a queue. -/
def Queue.works (x : Queue) : Option Work × List Work := (x.running.map (·.order.work), x.waiting.map (·.work))

/-- The works of three queues, by the queue. -/
def worksOf (d p m : Queue) (q : QueueId) : Option Work × List Work :=
  match q with
  | .d => d.works
  | .p => p.works
  | .mover => m.works

/-- The works of the three queues of a state. -/
def State.works (s : State) : QueueId → Option Work × List Work :=
  worksOf s.intake.dQueue s.intake.pQueue s.intake.mQueue

theorem State.works_queue (q : QueueId) : s.works q = (s.intake.queue q).works := by cases q <;> rfl

/-! ### Updates of one field -/

@[simp] theorem State.worksOf_intake : worksOf s.intake.dQueue s.intake.pQueue s.intake.mQueue = s.works := rfl
@[simp] theorem State.withPending_works (x : List Instr) : (s.withPending x).works = s.works := rfl
@[simp] theorem State.withDram_works (x : List Host.Cell) : (s.withDram x).works = s.works := rfl
@[simp] theorem State.withPassage_works (x : Passage) : (s.withPassage x).works = s.works := rfl
@[simp] theorem State.withWindows_works (x : Vector Window 8) : (s.withWindows x).works = s.works := rfl
@[simp] theorem State.withPort_works (x : Port) : (s.withPort x).works = s.works := rfl
@[simp] theorem State.withIntake_works (x : Intake) :
    (s.withIntake x).works = worksOf x.dQueue x.pQueue x.mQueue := rfl
@[simp] theorem State.withReports_works (x : Reports) : (s.withReports x).works = s.works := rfl
@[simp] theorem State.withBands_works (x : Vector Band 4) : (s.withBands x).works = s.works := rfl
@[simp] theorem State.withCapture_works (x : CaptureEngine) : (s.withCapture x).works = s.works := rfl
@[simp] theorem State.withEmit_works (x : EmitEngine) : (s.withEmit x).works = s.works := rfl
@[simp] theorem State.withChanD_works (x : Channel) : (s.withChanD x).works = s.works := rfl
@[simp] theorem State.withChanP_works (x : Channel) : (s.withChanP x).works = s.works := rfl
@[simp] theorem State.withProfiles_works (x : Vector (List Level) 8) : (s.withProfiles x).works = s.works := rfl
@[simp] theorem State.withSensors_works (x : Vector SensorCell 6) : (s.withSensors x).works = s.works := rfl
@[simp] theorem State.withMover_works (x : Mover) : (s.withMover x).works = s.works := rfl
@[simp] theorem State.withPower_works (x : Power) : (s.withPower x).works = s.works := rfl
@[simp] theorem State.withRing_works (x : Ringing) : (s.withRing x).works = s.works := rfl
@[simp] theorem State.withBoot_works (x : Boot) : (s.withBoot x).works = s.works := rfl
@[simp] theorem State.withPins_works (x : Pins) : (s.withPins x).works = s.works := rfl

/-! ### Ops -/

@[simp] theorem State.withChan_works (c : Chan) (x : Channel) : (s.withChan c x).works = s.works := by cases c <;> rfl
@[simp] theorem State.withBand_works (b : Fin 4) (x : Band) : (s.withBand b x).works = s.works := rfl
@[simp] theorem State.judgeAnew_works (b : Fin 4) (changed : Nat → Bool) : (s.judgeAnew b changed).works = s.works := rfl
@[simp] theorem State.withLines_works (b : Fin 4) (x : Band) : (s.withLines b x).works = s.works := rfl
@[simp] theorem State.withNewBand_works (b : Fin 4) (x : Band) : (s.withNewBand b x).works = s.works := rfl

/-- A queue that is replaced. -/
theorem State.withQueue_works_eq (q : QueueId) (x : Queue) :
    (s.withQueue q x).works = fun r => if r = q then x.works else s.works r := by
  funext r; cases q <;> cases r <;> rfl

/-- A queue that is replaced by one of the same works. -/
theorem State.withQueue_works {s : State} {q : QueueId} {x : Queue} (h : x.works = (s.intake.queue q).works) :
    (s.withQueue q x).works = s.works := by
  funext r
  cases q <;> cases r <;> first | exact h | rfl

/-- A running order that is replaced by one of the same work. -/
theorem State.withRunning_works {s : State} {q : QueueId} {ro x : Running} (h : s.running q = some ro)
    (hx : x.order.work = ro.order.work) : (s.withRunning q (some x)).works = s.works := by
  apply State.withQueue_works
  have : (s.intake.queue q).running = some ro := h
  simp [Queue.works, this, hx]

/-! ### Reports -/

@[simp] theorem State.enter_works (r : Report) : (s.enter r).works = s.works := by
  simp only [State.enter]; (repeat' split) <;> rfl
@[simp] theorem State.enter_running (r : Report) (q : QueueId) : (s.enter r).running q = s.running q := by
  simp only [State.enter]; (repeat' split) <;> rfl
@[simp] theorem State.enterCompletion_works (q : QueueId) : (s.enterCompletion q).works = s.works := by
  simp only [State.enterCompletion]
  split
  · rfl
  · next ro hr =>
    simp only [State.withIntake_works, State.worksOf_intake]
    refine Eq.trans ?_ (s.enter_works (completionReport ro))
    exact State.withRunning_works (ro := ro) ((s.enter_running _ _).trans hr) rfl
@[simp] theorem State.enterItem_works (i : WaitingItem) : (s.enterItem i).works = s.works := by
  cases i <;> simp [State.enterItem]
@[simp] theorem State.offer_works (block : Block) (item : WaitingItem) :
    (s.offer block item).works = s.works := by
  simp only [State.offer]; (repeat' split) <;> simp
@[simp] theorem State.offerNotice_works (b : Fin 4) (r : Report) : (s.offerNotice b r).works = s.works := by
  simp only [State.offerNotice]; (repeat' split) <;> simp
@[simp] theorem State.dropNotice_works (b : Fin 4) : (s.dropNotice b).works = s.works := by
  simp [State.dropNotice]
@[simp] theorem State.offerPower_works (r : Report) : (s.offerPower r).works = s.works := by
  simp only [State.offerPower]; (repeat' split) <;> simp
@[simp] theorem State.offerSensor_works (x : Sensor) : (s.offerSensor x).works = s.works := by
  simp only [State.offerSensor]; (repeat' split) <;> simp
@[simp] theorem State.raiseFault_works (f : PassageFault) : (s.raiseFault f).works = s.works := by
  simp only [State.raiseFault]; (repeat' split) <;> simp
@[simp] theorem State.endOrder_works (q : QueueId) (block : Block) (result : Result) (figures : List Word) :
    (s.endOrder q block result figures).works = s.works := by
  simp only [State.endOrder]
  split
  · rfl
  · next ro hr => exact (State.offer_works _ _ _).trans (State.withRunning_works hr rfl)

/-! ### Bands -/

@[simp] theorem State.withCount_works (b : Fin 4) (x : Band) (up : Bool) :
    (s.withCount b x up).works = s.works := by
  simp only [State.withCount]; (repeat' split) <;> simp

/-! ### Passage -/

@[simp] theorem State.withCpu_works (x : Option CpuAccess) : (s.withCpu x).works = s.works := rfl
@[simp] theorem State.completeCpu_works (a : Access) (d : Option Word) :
    (s.completeCpu a d).works = s.works := rfl
@[simp] theorem State.endHold_works (x : CpuAccess) : (s.endHold x).works = s.works := by
  simp only [State.endHold]; (repeat' split) <;> simp
@[simp] theorem State.expireHold_works (x : CpuAccess) (b : Fin 4) : (s.expireHold x b).works = s.works := by
  simp [State.expireHold]
@[simp] theorem State.holdCpu_works (a : Access) (why : HoldReason) (t : HoldTimer) :
    (s.holdCpu a why t).works = s.works := by
  simp only [State.holdCpu]; (repeat' split) <;> simp
@[simp] theorem State.presentCpu_works (a : Access) (t : HoldTimer) : (s.presentCpu a t).works = s.works := by
  simp only [State.presentCpu]; (repeat' split) <;> simp
@[simp] theorem State.releaseCpu_works (why : HoldReason) : (s.releaseCpu why).works = s.works := by
  simp only [State.releaseCpu]; (repeat' split) <;> simp
@[simp] theorem State.releaseMover_works (b : Fin 4) (line : Nat) :
    (s.releaseMover b line).works = s.works := by
  simp only [State.releaseMover]; (repeat' split) <;> simp
@[simp] theorem State.releaseLine_works (b : Fin 4) (line : Nat) : (s.releaseLine b line).works = s.works := by
  simp [State.releaseLine]
@[simp] theorem State.cancelCpu_works (b : Fin 4) : (s.cancelCpu b).works = s.works := by
  simp only [State.cancelCpu]; (repeat' split) <;> simp
@[simp] theorem State.cancelMover_works (b : Fin 4) : (s.cancelMover b).works = s.works := by
  simp only [State.cancelMover]; (repeat' split) <;> simp
@[simp] theorem State.cancelHolds_works (b : Fin 4) : (s.cancelHolds b).works = s.works := by
  simp [State.cancelHolds]

/-! ### Motor -/

@[simp] theorem State.endMove_works (c : Chan) (result : Result) : (s.endMove c result).works = s.works := by
  simp [State.endMove]
@[simp] theorem State.startMove_works (c : Chan) (p : MoveParams) : (s.startMove c p).works = s.works := by
  simp only [State.startMove]; (repeat' split) <;> simp
@[simp] theorem State.stepMove_works (c : Chan) (p : MoveParams) : (s.stepMove c p).works = s.works := by
  simp only [State.stepMove]; (repeat' split) <;> simp
@[simp] theorem State.edgeMove_works (c : Chan) (p : MoveParams) (x : Sensor) (rising : Bool) :
    (s.edgeMove c p x rising).works = s.works := by
  simp only [State.edgeMove]; (repeat' split) <;> simp

/-! ### Capture -/

@[simp] theorem State.withCaptureRecord_works (r : CaptureRecord) :
    (s.withCaptureRecord r).works = s.works := by
  simp [State.withCaptureRecord]
@[simp] theorem State.captureFinish_works : (s.captureFinish).works = s.works := by
  simp only [State.captureFinish]; (repeat' split) <;> simp
@[simp] theorem State.captureDecide_works (r : CaptureRecord) (result : Result) :
    (s.captureDecide r result).works = s.works := by
  simp [State.captureDecide]
@[simp] theorem State.captureStop_works (r : CaptureRecord) (result : Result) :
    (s.captureStop r result).works = s.works := by
  simp [State.captureStop]
@[simp] theorem State.beginLine_works (p : CaptureParams) (r : CaptureRecord) :
    (s.beginLine p r).works = s.works := by
  simp only [State.beginLine]; (repeat' split) <;> simp
@[simp] theorem State.withdrawClocking_works (n : Fin 4) : (s.withdrawClocking n).works = s.works := by
  simp only [State.withdrawClocking]; (repeat' split) <;> simp
@[simp] theorem State.captureProceed_works (p : CaptureParams) (r : CaptureRecord) (level : Nat) :
    (s.captureProceed p r level).works = s.works := by
  simp only [State.captureProceed]; (repeat' split) <;> simp
@[simp] theorem State.paceCapture_works (p : CaptureParams) (r : CaptureRecord) :
    (s.paceCapture p r).works = s.works := by
  simp only [State.paceCapture]; (repeat' split) <;> simp
@[simp] theorem State.enterEject_works (p : CaptureParams) (r : CaptureRecord) :
    (s.enterEject p r).works = s.works := by
  simp only [State.enterEject]; (repeat' split) <;> simp
@[simp] theorem State.tailBoundary_works (p : CaptureParams) (r : CaptureRecord) :
    (s.tailBoundary p r).works = s.works := by
  simp only [State.tailBoundary]; (repeat' split) <;> simp
@[simp] theorem State.scanBoundary_works (p : CaptureParams) (r : CaptureRecord) :
    (s.scanBoundary p r).works = s.works := by
  simp only [State.scanBoundary]; (repeat' split) <;> simp
@[simp] theorem State.captureBoundary_works (p : CaptureParams) (r : CaptureRecord) :
    (s.captureBoundary p r).works = s.works := by
  simp only [State.captureBoundary]; (repeat' split) <;> simp
@[simp] theorem State.enterPaced_works (p : CaptureParams) (r : CaptureRecord) :
    (s.enterPaced p r).works = s.works := by
  simp [State.enterPaced]
@[simp] theorem State.enterSkip_works (p : CaptureParams) (r : CaptureRecord) :
    (s.enterSkip p r).works = s.works := by
  simp only [State.enterSkip]; (repeat' split) <;> simp
@[simp] theorem State.startCapture_works (p : CaptureParams) : (s.startCapture p).works = s.works := by
  simp only [State.startCapture]; (repeat' split) <;> simp
@[simp] theorem State.stepSkip_works (p : CaptureParams) (r : CaptureRecord) :
    (s.stepSkip p r).works = s.works := by
  simp only [State.stepSkip]; (repeat' split) <;> simp
@[simp] theorem State.stepPaced_works (p : CaptureParams) (r : CaptureRecord) :
    (s.stepPaced p r).works = s.works := by
  simp only [State.stepPaced]; (repeat' split) <;> simp
@[simp] theorem State.stepEject_works (p : CaptureParams) (r : CaptureRecord) :
    (s.stepEject p r).works = s.works := by
  simp only [State.stepEject]; (repeat' split) <;> simp
@[simp] theorem State.stepApproach_works (p : CaptureParams) (r : CaptureRecord) :
    (s.stepApproach p r).works = s.works := by
  simp only [State.stepApproach]; (repeat' split) <;> simp
@[simp] theorem State.stepCapture_works (p : CaptureParams) (r : CaptureRecord) :
    (s.stepCapture p r).works = s.works := by
  simp only [State.stepCapture]; (repeat' split) <;> simp
@[simp] theorem State.resumeD_works (b : Fin 4) : (s.resumeD b).works = s.works := by
  simp only [State.resumeD]; (repeat' split) <;> simp
@[simp] theorem State.docEdge_works (rising : Bool) : (s.docEdge rising).works = s.works := by
  simp only [State.docEdge]; (repeat' split) <;> simp
@[simp] theorem State.captureBreak_works (result : Result) : (s.captureBreak result).works = s.works := by
  simp only [State.captureBreak]; (repeat' split) <;> simp

/-! ### Emit -/

@[simp] theorem State.withEmitRecord_works (r : EmitRecord) : (s.withEmitRecord r).works = s.works := by
  simp [State.withEmitRecord]
@[simp] theorem State.emitDecide_works (r : EmitRecord) (result : Result) (reason : EndReason) :
    (s.emitDecide r result reason).works = s.works := by
  simp [State.emitDecide]
@[simp] theorem State.tryLatch_works : (s.tryLatch).works = s.works := by
  simp only [State.tryLatch]; (repeat' split) <;> simp
@[simp] theorem State.revertLines_works (b : Fin 4) : (s.revertLines b).works = s.works := by
  simp only [State.revertLines]; (repeat' split) <;> simp
@[simp] theorem State.emitStop_works (p : EmitParams) (r : EmitRecord) (result : Result) (reason : EndReason) :
    (s.emitStop p r result reason).works = s.works := by
  simp [State.emitStop]
@[simp] theorem State.enterTail_works (p : EmitParams) (r : EmitRecord) :
    (s.enterTail p r).works = s.works := by
  simp only [State.enterTail]; (repeat' split) <;> simp
@[simp] theorem State.emitProceed_works (r : EmitRecord) (level : Nat) :
    (s.emitProceed r level).works = s.works := by
  simp [State.emitProceed]
@[simp] theorem State.printBoundary_works (p : EmitParams) (r : EmitRecord) :
    (s.printBoundary p r).works = s.works := by
  simp only [State.printBoundary]; (repeat' split) <;> simp
@[simp] theorem State.startEmit_works (p : EmitParams) : (s.startEmit p).works = s.works := by
  simp only [State.startEmit]; (repeat' split) <;> simp
@[simp] theorem State.stepPrinting_works (p : EmitParams) (r : EmitRecord) :
    (s.stepPrinting p r).works = s.works := by
  simp only [State.stepPrinting]; (repeat' split) <;> simp
@[simp] theorem State.stepTail_works (p : EmitParams) (r : EmitRecord) : (s.stepTail p r).works = s.works := by
  simp only [State.stepTail]; (repeat' split) <;> simp
@[simp] theorem State.stepEmit_works (p : EmitParams) (r : EmitRecord) : (s.stepEmit p r).works = s.works := by
  simp only [State.stepEmit]; (repeat' split) <;> simp
@[simp] theorem State.resumeP_works (b : Fin 4) : (s.resumeP b).works = s.works := by
  simp only [State.resumeP]; (repeat' split) <;> simp
@[simp] theorem State.testOpenEnd_works : (s.testOpenEnd).works = s.works := by
  simp only [State.testOpenEnd]; (repeat' split) <;> simp
@[simp] theorem State.paperFall_works : (s.paperFall).works = s.works := by
  simp only [State.paperFall]; (repeat' split) <;> simp
@[simp] theorem State.emitCover_works : (s.emitCover).works = s.works := by
  simp only [State.emitCover]; (repeat' split) <;> simp
@[simp] theorem State.emitAbort_works : (s.emitAbort).works = s.works := by
  simp only [State.emitAbort]; (repeat' split) <;> simp

/-! ### Mover -/

@[simp] theorem State.applyObs_works (obs : Obs) (who : Requester) (op : AccessOp) (addr : Nat) :
    (s.applyObs obs who op addr).works = s.works := by
  simp only [State.applyObs]; (repeat' split) <;> simp
@[simp] theorem State.startTransfer_works (p : TransferParams) : (s.startTransfer p).works = s.works := by
  simp [State.startTransfer]
@[simp] theorem State.endTransfer_works (result : Result) : (s.endTransfer result).works = s.works := by
  simp [State.endTransfer]
@[simp] theorem State.stopTransfer_works : (s.stopTransfer).works = s.works := by
  simp [State.stopTransfer]
@[simp] theorem State.abortTransfer_works : (s.abortTransfer).works = s.works := by
  simp only [State.abortTransfer]; (repeat' split) <;> simp
@[simp] theorem State.holdMover_works (b : Fin 4) (line : Nat) : (s.holdMover b line).works = s.works := by
  simp [State.holdMover]
@[simp] theorem State.turnChunk_works : (s.turnChunk).works = s.works := by
  simp only [State.turnChunk]; (repeat' split) <;> simp
@[simp] theorem State.moverAct_works : (s.moverAct).works = s.works := by
  simp only [State.moverAct]; (repeat' split) <;> simp
@[simp] theorem State.runMover_works (n : Nat) : (s.runMover n).works = s.works := by
  induction n generalizing s with
  | zero => rfl
  | succ n ih => simp only [State.runMover]; split <;> simp [ih]
@[simp] theorem State.settleMover_works : (s.settleMover).works = s.works := by
  simp only [State.settleMover]; (repeat' split) <;> simp
@[simp] theorem State.endMoverGrant_works (n : Nat) (obs : Obs) : (s.endMoverGrant n obs).works = s.works := by
  simp only [State.endMoverGrant]; (repeat' split) <;> simp

/-! ### Power -/

@[simp] theorem State.withClock_works (on : Bool) : (s.withClock on).works = s.works := by
  simp [State.withClock]
@[simp] theorem State.askSelfRefresh_works (on : Bool) : (s.askSelfRefresh on).works = s.works := by
  simp [State.askSelfRefresh]
@[simp] theorem State.oweSleepWrite_works (slot : Nat) (r : Result) :
    (s.oweSleepWrite slot r).works = s.works := by
  simp [State.oweSleepWrite]
@[simp] theorem State.deEnergiseBoth_works : (s.deEnergiseBoth).works = s.works := by
  simp [State.deEnergiseBoth]
@[simp] theorem State.rewatch_works : (s.rewatch).works = s.works := by
  simp only [State.rewatch]; (repeat' split) <;> simp
@[simp] theorem State.enterSleeping_works (w : WakeSettings) : (s.enterSleeping w).works = s.works := by
  simp only [State.enterSleeping]; (repeat' split) <;> simp
@[simp] theorem State.endSleep_works (r : Result) : (s.endSleep r).works = s.works := by
  simp only [State.endSleep]; (repeat' split) <;> simp
@[simp] theorem State.wakeEarly_works (w : WakeSettings) (c : WakeCause) :
    (s.wakeEarly w c).works = s.works := by
  simp [State.wakeEarly]
@[simp] theorem State.startWake_works (w : WakeSettings) (c : WakeCause) :
    (s.startWake w c).works = s.works := by
  simp [State.startWake]
@[simp] theorem State.takeCause_works (c : WakeCause) : (s.takeCause c).works = s.works := by
  simp only [State.takeCause]; (repeat' split) <;> simp
@[simp] theorem State.confirmWake_works : (s.confirmWake).works = s.works := by
  simp [State.confirmWake]
@[simp] theorem State.giveUpLapse_works : (s.giveUpLapse).works = s.works := by
  simp [State.giveUpLapse]
@[simp] theorem State.notice_works : (s.notice).works = s.works := by
  simp only [State.notice]; (repeat' split) <;> simp
@[simp] theorem State.settleLapse_works : (s.settleLapse).works = s.works := by
  simp only [State.settleLapse]; (repeat' split) <;> simp
@[simp] theorem State.startConfirm_works (confirm : Nat) : (s.startConfirm confirm).works = s.works := by
  simp only [State.startConfirm]; (repeat' split) <;> simp
@[simp] theorem State.reportWake_works (w : WakeSettings) (word : Word) :
    (s.reportWake w word).works = s.works := by
  simp only [State.reportWake]; (repeat' split) <;> simp
@[simp] theorem State.wakeWordDone_works (word : Word) : (s.wakeWordDone word).works = s.works := by
  simp only [State.wakeWordDone]; (repeat' split) <;> simp
@[simp] theorem State.call_works : (s.call).works = s.works := by
  simp only [State.call]; (repeat' split) <;> simp
@[simp] theorem State.burstQualified_works : (s.burstQualified).works = s.works := by
  simp only [State.burstQualified]; (repeat' split) <;> simp
@[simp] theorem State.burstDisqualified_works : (s.burstDisqualified).works = s.works := by
  simp only [State.burstDisqualified]; (repeat' split) <;> simp
@[simp] theorem State.judgeBurst_works (periods : List Nat) : (s.judgeBurst periods).works = s.works := by
  simp only [State.judgeBurst]; (repeat' split) <;> simp

/-! ### Intake -/

@[simp] theorem State.withSlot_works (i : Nat) (x : SlotRecord) : (s.withSlot i x).works = s.works := rfl
@[simp] theorem State.leaveFetching_works (i : Nat) (x : SlotRecord) :
    (s.leaveFetching i x).works = s.works := by
  simp [State.leaveFetching]
@[simp] theorem State.withStage_works (h : InHand) (st : Stage) : (s.withStage h st).works = s.works := by
  simp [State.withStage]
@[simp] theorem State.refuseOrder_works (h : InHand) (r : Result) : (s.refuseOrder h r).works = s.works := by
  simp [State.refuseOrder]
@[simp] theorem State.completeOrder_works (h : InHand) : (s.completeOrder h).works = s.works := by
  simp [State.completeOrder]
@[simp] theorem State.takeSlot_works (i : Nat) (urgent : Bool) : (s.takeSlot i urgent).works = s.works := by
  simp [State.takeSlot]
@[simp] theorem State.settleTake_works : (s.settleTake).works = s.works := by
  simp only [State.settleTake]; (repeat' split) <;> simp
@[simp] theorem State.observeHead_works (addr : Nat) (w : Word) : (s.observeHead addr w).works = s.works := by
  simp only [State.observeHead]; (repeat' split) <;> simp
@[simp] theorem State.startOrder_works (q : QueueId) (o : Order) : (s.startOrder q o).works = s.works := by
  simp only [State.startOrder]; (repeat' split) <;> simp
@[simp] theorem State.clearEngine_works (w : Work) : (s.clearEngine w).works = s.works := by
  simp only [State.clearEngine]; (repeat' split) <;> simp
@[simp] theorem State.stopWork_works (w : Work) : (s.stopWork w).works = s.works := by
  simp only [State.stopWork]; (repeat' split) <;> simp
@[simp] theorem State.abortRecord_works (w : Work) : (s.abortRecord w).works = s.works := by
  cases w <;> simp [State.abortRecord]
@[simp] theorem State.requestFetch_works (h : InHand) : (s.requestFetch h).works = s.works := by
  simp only [State.requestFetch]; (repeat' split) <;> simp
@[simp] theorem State.settleIntake_works : (s.settleIntake).works = s.works := by
  simp only [State.settleIntake]; (repeat' split) <;> simp


/-! ### What moves the works: orders that enter, start and leave (R33, R36, R37) -/

theorem Intake.bumpN_queues (i : Intake) (q : QueueId) : i.bumpN.queue q = i.queue q := by cases q <;> rfl

theorem Intake.passMarked_queues (i : Intake) (n : Nat) (q : QueueId) : (i.passMarked n).queue q = i.queue q := by
  induction n generalizing i with
  | zero => rfl
  | succ n ih =>
    simp only [Intake.passMarked]
    split
    · rw [ih, Intake.bumpN_queues]; cases q <;> rfl
    · rfl

theorem Intake.advanceN_queues (i : Intake) (q : QueueId) : i.advanceN.queue q = i.queue q := by
  rw [Intake.advanceN, Intake.passMarked_queues, Intake.bumpN_queues]

theorem Intake.toWaiting_queues (i : Intake) (q : QueueId) : i.toWaiting.queue q = i.queue q := by
  simp only [Intake.toWaiting]; split <;> cases q <;> rfl

theorem Intake.queue_withQueue (i : Intake) (q r : QueueId) (x : Queue) :
    (i.withQueue q x).queue r = if r = q then x else i.queue r := by
  cases q <;> cases r <;> rfl

/-- States with the same orders in their queues have the same works. -/
theorem State.works_of_queues {s t : State} (h : ∀ q, t.intake.queue q = s.intake.queue q) : t.works = s.works := by
  funext q; rw [State.works_queue, State.works_queue, h]

@[simp] theorem State.endInHand_works (h : InHand) : (s.endInHand h).works = s.works := by
  refine Eq.trans (State.works_of_queues fun q => ?_)
    (s.leaveFetching_works h.slot { s.intake.slot h.slot with state := .free, early := h.urgent })
  simp only [State.endInHand, State.withIntake_intake]
  split <;> simp only [Intake.passMarked_queues, Intake.advanceN_queues] <;> cases q <;> rfl

/-- The queues are legal by their works alone. -/
theorem queuesLegal_iff {s : State} : QueuesLegal s ↔ ∀ q, (∀ w, (s.works q).1 = some w → w.queue = q)
    ∧ (∀ w ∈ (s.works q).2, w.queue = q) ∧ ((s.works q).1 = none → (s.works q).2 = []) := by
  constructor
  · intro h q
    simp only [State.works_queue, Queue.works]
    refine ⟨fun w hw => ?_, fun w hw => ?_, fun hn => ?_⟩
    · obtain ⟨ro, hr, rfl⟩ := Option.map_eq_some_iff.mp hw
      exact h.running q ro hr
    · obtain ⟨o, ho, rfl⟩ := List.mem_map.mp hw
      exact h.waiting q o ho
    · rw [h.behind q (Option.map_eq_none_iff.mp hn), List.map_nil]
  · intro h
    simp only [State.works_queue, Queue.works] at h
    refine ⟨fun q ro hr => ?_, fun q o ho => ?_, fun q hn => ?_⟩
    · exact (h q).1 _ (Option.map_eq_some_iff.mpr ⟨ro, hr, rfl⟩)
    · exact (h q).2.1 _ (List.mem_map.mpr ⟨o, ho, rfl⟩)
    · exact List.map_eq_nil_iff.mp ((h q).2.2 (Option.map_eq_none_iff.mpr hn))

variable {s} {t : State}

/-- States with the same works have legal queues together. -/
theorem QueuesLegal.congr (h : QueuesLegal s) (e : t.works = s.works) : QueuesLegal t := by
  rw [queuesLegal_iff] at h ⊢; rwa [e]

/-- Empty queues are legal. -/
theorem queuesLegal_of_empty (h : ∀ q, s.intake.queue q = Queue.empty) : QueuesLegal s := by
  rw [queuesLegal_iff]; intro q; simp [State.works_queue, h, Queue.works, Queue.empty]

/-- The queues but for one, where no order need run before orders that wait: how they stand when an order has left. -/
def QueuesButOne (q : QueueId) (s : State) : Prop :=
  ∀ r, (∀ w, (s.works r).1 = some w → w.queue = r) ∧ (∀ w ∈ (s.works r).2, w.queue = r)
    ∧ (r ≠ q → (s.works r).1 = none → (s.works r).2 = [])

theorem QueuesButOne.congr {q : QueueId} (h : QueuesButOne q s) (e : t.works = s.works) : QueuesButOne q t := by
  unfold QueuesButOne; rwa [e]

/-- One queue is replaced by one that holds works of its own. -/
theorem QueuesLegal.replace (h : QueuesLegal s) {q : QueueId} {x : Queue}
    (e : t.works = fun r => if r = q then x.works else s.works r) (running : ∀ w, x.works.1 = some w → w.queue = q)
    (waiting : ∀ w ∈ x.works.2, w.queue = q) : QueuesButOne q t := by
  intro r
  rw [e]
  by_cases hr : r = q
  · subst hr; simp only [↓reduceIte]; exact ⟨running, waiting, fun hne => absurd rfl hne⟩
  · simp only [if_neg hr]
    obtain ⟨h1, h2, h3⟩ := queuesLegal_iff.mp h r
    exact ⟨h1, h2, fun _ => h3⟩

/-- The oldest waiting order of a queue starts where none runs: then the queues are legal. -/
theorem State.startNext_queues {q : QueueId} (h : QueuesButOne q s) : QueuesLegal (s.startNext q) := by
  unfold State.startNext
  split
  · next o rest hn hw =>
    refine QueuesLegal.congr ?_ (State.startOrder_works _ q o)
    have own := (h q).2.1
    simp only [State.works_queue, Queue.works, hw, List.map_cons, List.forall_mem_cons] at own
    rw [queuesLegal_iff]
    intro r
    rw [State.withQueue_works_eq]
    by_cases hr : r = q
    · subst hr
      simp only [↓reduceIte, Queue.works, Option.map_some, Option.some.injEq, reduceCtorEq, false_implies, and_true]
      exact ⟨fun w hw => hw ▸ own.1, own.2⟩
    · simp only [if_neg hr]
      exact ⟨(h r).1, (h r).2.1, (h r).2.2 hr⟩
  · next hno =>
    rw [queuesLegal_iff]
    intro r
    refine ⟨(h r).1, (h r).2.1, fun hn => ?_⟩
    by_cases e : r = q
    · subst e
      simp only [State.works_queue, Queue.works, Option.map_eq_none_iff, List.map_eq_nil_iff] at hn ⊢
      cases hw : (s.intake.queue r).waiting with
      | nil => rfl
      | cons o rest => exact absurd hw (hno o rest hn)
    · exact (h r).2.2 e hn

/-- The order in the dispatch place enters its own queue (R33). -/
theorem State.dispatch_queues (h : QueuesLegal s) : QueuesLegal s.dispatch := by
  unfold State.dispatch
  split
  · exact h
  · next o _ =>
    dsimp only
    split
    · apply State.startNext_queues
      obtain ⟨h1, h2, -⟩ := queuesLegal_iff.mp h o.work.queue
      simp only [State.works_queue, Queue.works] at h1 h2
      refine h.replace (x := { (s.intake.queue o.work.queue) with
        waiting := (s.intake.queue o.work.queue).waiting ++ [o] }) ?_ h1 fun w hw => ?_
      · funext r
        rw [State.works_queue, State.works_queue, State.withIntake_intake, Intake.toWaiting_queues,
          Intake.advanceN_queues, Intake.queue_withQueue]
        split
        · rfl
        · cases r <;> rfl
      · simp only [Queue.works, List.map_append, List.mem_append, List.map_cons, List.map_nil,
          List.mem_singleton] at hw
        rcases hw with hw | rfl
        · exact h2 w hw
        · rfl
    · exact h

theorem State.handOver_queues (hq : QueuesLegal s) (h : InHand) (w : Work) : QueuesLegal (s.handOver h w) := by
  unfold State.handOver
  exact State.dispatch_queues (hq.congr (s.leaveFetching_works _ _))

/-- An order leaves its queue, the next one starts, and the order in the dispatch place may enter (R33, R36, R37). -/
theorem State.leaveQueue_queues (h : QueuesLegal s) (q : QueueId) (ro : Running) :
    QueuesLegal (s.leaveQueue q ro) := by
  obtain ⟨-, h2, -⟩ := queuesLegal_iff.mp h q
  rw [State.works_queue] at h2
  have left : QueuesButOne q (((s.withSlot ro.order.slot
      { s.intake.slot ro.order.slot with state := .free }).withRunning q none).clearEngine ro.order.work) := by
    refine QueuesButOne.congr ?_ (State.clearEngine_works _ _)
    refine h.replace (x := { (s.intake.queue q) with running := none }) ?_ (fun w hw => by cases hw) h2
    simp only [State.withRunning]
    exact (State.withQueue_works_eq _ _ _).trans (by cases q <;> rfl)
  unfold State.leaveQueue
  dsimp only
  apply State.dispatch_queues
  apply State.startNext_queues
  split
  · exact left.congr (State.testOpenEnd_works _)
  all_goals exact left

theorem State.endFinalWrite_queues (h : QueuesLegal s) (w : FinalWrite) : QueuesLegal (s.endFinalWrite w) := by
  unfold State.endFinalWrite
  split
  · exact h.congr rfl
  · split
    · split
      · exact State.leaveQueue_queues h _ _
      · exact h
    · exact h

/-! ### ABORT leaves the works alone (R39) -/

theorem State.markWaiting_works (s : State) (q : QueueId) : (s.withIntake (s.intake.markWaiting q)).works = s.works := by
  have : Order.work ∘ Order.mark = Order.work := rfl
  funext r
  cases q <;> cases r <;>
    simp [State.works, worksOf, Intake.markWaiting, Intake.withQueue, Intake.queue, Queue.works, this]

theorem State.abortEnding_works {s : State} {ro : Running} (h : s.running .mover = some ro) :
    (s.abortEnding ro).works = s.works := by
  simp only [State.abortEnding, State.withPort_works, State.withIntake_works, State.worksOf_intake]
  exact State.withRunning_works h rfl

theorem State.abortQueue_works (h : QueuesLegal s) (q : QueueId) : (s.abortQueue q).works = s.works := by
  have h1 : QueuesLegal (s.withIntake (s.intake.markWaiting q)) := h.congr (s.markWaiting_works q)
  refine Eq.trans ?_ (s.markWaiting_works q)
  unfold State.abortQueue
  dsimp only
  split
  · rfl
  · next ro hr =>
    split
    · rfl
    · split
      · rw [State.stopWork_works]; exact State.withRunning_works hr rfl
      · rw [State.abortRecord_works]; exact State.withRunning_works hr rfl
      · split
        · next hw =>
          have own := h1.running q ro hr
          rw [hw] at own
          subst own
          exact State.abortEnding_works hr
        all_goals exact State.withRunning_works hr rfl

theorem State.abortQueue_queues (h : QueuesLegal s) (q : QueueId) : QueuesLegal (s.abortQueue q) :=
  h.congr (State.abortQueue_works h q)

/-! ### Settle -/

@[simp] theorem State.settleCapture_works : (s.settleCapture).works = s.works := by
  simp only [State.settleCapture]; (repeat' split) <;> simp
@[simp] theorem State.settleEmit_works : (s.settleEmit).works = s.works := by
  simp only [State.settleEmit]; (repeat' split) <;> simp
@[simp] theorem State.settleProcessor_works : (s.settleProcessor).works = s.works := by
  simp only [State.settleProcessor]; (repeat' split) <;> simp
@[simp] theorem State.settle_works : (s.settle).works = s.works := by
  simp [State.settle]

/-! ### Commands -/

section

variable (s)

@[simp] theorem State.store_works (c) : (s.store c).works = s.works := rfl
@[simp] theorem State.freePort_works : s.freePort.works = s.works := rfl
@[simp] theorem State.endGrant_works (g) : (s.endGrant g).works = s.works := by simp [State.endGrant]
@[simp] theorem State.cutGrant_works (g) : (s.cutGrant g).works = s.works := by
  simp only [State.cutGrant]; split <;> simp
theorem State.loadEntry_works (x) (e) : (State.loadEntry x s e).works = s.works := by
  simp only [State.loadEntry]; (repeat' split) <;> simp
theorem State.loadEntries_works (x) (l : List (Fin 8)) : (l.foldl (State.loadEntry x) s).works = s.works := by
  induction l generalizing s with
  | nil => rfl
  | cons a l ih => exact (ih _).trans (State.loadEntry_works s x a)
@[simp] theorem State.applyHeader_works (x) : (s.applyHeader x).works = s.works := by
  simp [State.applyHeader, State.loadEntries_works]
@[simp] theorem State.applyDefaults_works : (s.applyDefaults).works = s.works := by
  simp [State.applyDefaults]
@[simp] theorem State.judgeHeader_works (x) : (s.judgeHeader x).works = s.works := by
  simp only [State.judgeHeader, State.configure]; (repeat' split) <;> simp
@[simp] theorem State.releaseProcessor_works : s.releaseProcessor.works = s.works := by
  simp [State.releaseProcessor]
@[simp] theorem State.grantTo_works (g) : (s.grantTo g).works = s.works := by simp [State.grantTo]
@[simp] theorem State.grantFetch_works : s.grantFetch.works = s.works := by
  simp only [State.grantFetch]; (repeat' split) <;> simp
@[simp] theorem State.grantCpu_works (x) : (s.grantCpu x).works = s.works := by
  simp only [State.grantCpu]; (repeat' split) <;> simp
@[simp] theorem State.grantProcessor_works : s.grantProcessor.works = s.works := by
  simp only [State.grantProcessor]; (repeat' split) <;> simp
@[simp] theorem State.grantMover_works : s.grantMover.works = s.works := by
  simp only [State.grantMover]; (repeat' split) <;> simp
@[simp] theorem State.grantNext_works : s.grantNext.works = s.works := by
  simp only [State.grantNext, State.grantRefresh]; (repeat' split) <;> simp
@[simp] theorem State.consumeReport_works : s.consumeReport.works = s.works := rfl
@[simp] theorem State.observeCpu_works (x) : (s.observeCpu x).works = s.works := by
  simp only [State.observeCpu]; (repeat' split) <;> simp
@[simp] theorem State.admitOne_works : s.admitOne.works = s.works := by
  simp only [State.admitOne]; (repeat' split) <;> simp
@[simp] theorem State.replaceEntry_works (e w) : (s.replaceEntry e w).works = s.works := by
  simp only [State.replaceEntry]; split <;> simp
@[simp] theorem State.replaceBand_works (b x) : (s.replaceBand b x).works = s.works := by
  simp [State.replaceBand]
@[simp] theorem Intake.advanceN_works (i : Intake) :
    worksOf i.advanceN.dQueue i.advanceN.pQueue i.advanceN.mQueue = worksOf i.dQueue i.pQueue i.mQueue := by
  funext q; cases q
  · exact congrArg Queue.works (i.advanceN_queues .d)
  · exact congrArg Queue.works (i.advanceN_queues .p)
  · exact congrArg Queue.works (i.advanceN_queues .mover)
@[simp] theorem State.acceptSleep_works (x w) : (s.acceptSleep x w).works = s.works := by
  simp [State.acceptSleep]
@[simp] theorem State.sensorD_works (x w) : (s.sensorD x w).works = s.works := by
  simp only [State.sensorD]; (repeat' split) <;> simp
@[simp] theorem State.sensorP_works (x w) : (s.sensorP x w).works = s.works := by
  simp only [State.sensorP]; (repeat' split) <;> simp
@[simp] theorem State.deliver_works (x w a b) : (s.deliver x w a b).works = s.works := by
  simp only [State.deliver, State.sensorChannels]; (repeat' split) <;> simp
@[simp] theorem State.lineCaptured_works (p r i w) : (s.lineCaptured p r i w).works = s.works := by
  simp only [State.lineCaptured]; (repeat' split) <;> simp
@[simp] theorem State.lineStrobed_works (p r i) : (s.lineStrobed p r i).works = s.works := by
  simp only [State.lineStrobed]; (repeat' split) <;> simp
@[simp] theorem State.lineFetched_works (i) : (s.lineFetched i).works = s.works := by
  simp only [State.lineFetched]; (repeat' split) <;> simp
@[simp] theorem State.stepExpired_works (i) : (s.stepExpired i).works = s.works := by
  simp only [State.stepExpired]; (repeat' split) <;> simp
@[simp] theorem State.pauseExpired_works (c) : (s.pauseExpired c).works = s.works := by
  simp only [State.pauseExpired]; (repeat' split) <;> simp
@[simp] theorem State.withResetLine_works (x) : (s.withResetLine x).works = s.works := rfl

end

theorem State.resetPart_queues (c w) : QueuesLegal (s.resetPart c w) :=
  queuesLegal_of_empty fun q => by cases q <;> rfl

theorem State.losePower_queues : QueuesLegal s.losePower :=
  queuesLegal_of_empty fun q => by cases q <;> rfl

theorem State.risePower_queues : QueuesLegal s.risePower :=
  queuesLegal_of_empty fun q => by cases q <;> rfl

theorem State.settleQueued_queues (h : QueuesLegal s) (x) (e) : QueuesLegal (s.settleQueued x e) := by
  simp only [State.settleQueued]; split
  · exact State.handOver_queues h _ _
  · exact h.congr (by simp)

theorem State.settleOrder_queues (h : QueuesLegal s) (x) (e : Except Result State)
    (he : ∀ t, e = .ok t → t.works = s.works) : QueuesLegal (s.settleOrder x e) := by
  simp only [State.settleOrder]; split
  · next t => exact h.congr ((State.completeOrder_works t x).trans (he t rfl))
  · exact h.congr (by simp)

theorem State.settle_queues (h : QueuesLegal s) : QueuesLegal s.settle := h.congr (by simp)

theorem finish_queues (h : QueuesLegal s) (ht : finish s = .next t) : QueuesLegal t := by
  cases ht; exact State.settle_queues h

theorem onOrder_queues {k f} (h : QueuesLegal s) (ht : onOrder k f s = .next t) (hf : ∀ x, QueuesLegal (f x s)) :
    QueuesLegal t := by
  unfold onOrder at ht; split at ht
  · exact finish_queues (hf _) ht
  · cases ht; exact h

end Sys2Proof.Machine
end

