-- ==== Sys2Proof/Laws/Settle.lean ====
section
/-! SUPPORT. What follows of itself after an event, said once: `State.settle_follows`, from the same fact of each block's
part; and how a command that ends with `finish` leads to a state. -/

namespace Sys2Proof.Machine

open Sys2Proof

variable {s t u : State}

theorem Channel.follows_refl (c : Channel) : c.Follows c := .inl rfl

@[simp] theorem Channel.deEnergise_twice (c : Channel) : c.deEnergise.deEnergise = c.deEnergise := by
  by_cases h : c.state = .holding <;> simp [Channel.deEnergise, Channel.enterOff, h]

theorem Channel.Follows.trans {c d e : Channel} (h : c.Follows d) (k : d.Follows e) : c.Follows e := by
  obtain rfl | rfl := h
  · exact k
  · obtain rfl | rfl := k
    · exact .inr rfl
    · exact .inr (by simp)

theorem Follows.refl (u : State) : Follows u u where
  outside := rfl
  page := rfl
  passage := rfl
  pins := rfl
  clock := id
  dramState := rfl
  refresh := ⟨rfl, rfl⟩
  grant := rfl
  chanD := .inl rfl
  chanP := .inl rfl
  power := rfl
  area := ⟨rfl, rfl, rfl, rfl, rfl⟩
  line := ⟨rfl, rfl, rfl⟩
  pending := List.prefix_rfl
  waiting := List.prefix_rfl
  queues := ⟨rfl, rfl, rfl, rfl⟩
  turn := ⟨rfl, rfl⟩
  hand := fun _ hs => ⟨hs, fun _ => ⟨rfl, rfl⟩⟩
  slotCount := rfl
  slots := fun _ => .inl rfl
  writes := .inl ⟨[], by simp⟩
  requests := ⟨id, fun _ => rfl, fun _ => rfl, fun _ => rfl, fun _ => rfl⟩
  quiet := fun _ => ⟨rfl, rfl, rfl, rfl, rfl⟩
  awake := fun _ => ⟨rfl, rfl, rfl, rfl, rfl⟩

/-- Whether the mover has a word to go on with depends on the mover and its place at the port alone. -/
theorem State.moverFree_congr (hm : t.mover = u.mover) (hr : t.port.moverReq = u.port.moverReq)
    (hg : t.port.grant = u.port.grant) : t.moverFree = u.moverFree := by
  simp only [State.moverFree, State.moverGranted, hm, hr, hg]

theorem Follows.trans (h : Follows s t) (k : Follows t u) : Follows s u where
  outside := k.outside.trans h.outside
  page := k.page.trans h.page
  passage := by rw [k.passage, h.passage]
  pins := by rw [k.pins, h.pins]
  clock := h.clock ∘ k.clock
  dramState := k.dramState.trans h.dramState
  refresh := ⟨k.refresh.1.trans h.refresh.1, k.refresh.2.trans h.refresh.2⟩
  grant := k.grant.trans h.grant
  chanD := h.chanD.trans k.chanD
  chanP := h.chanP.trans k.chanP
  power := by rw [k.power, h.power]
  area := by
    obtain ⟨a, b, c, d, e⟩ := h.area
    obtain ⟨a', b', c', d', e'⟩ := k.area
    exact ⟨a'.trans a, b'.trans b, c'.trans c, d'.trans d, e'.trans e⟩
  line := ⟨k.line.1.trans h.line.1, k.line.2.1.trans h.line.2.1, k.line.2.2.trans h.line.2.2⟩
  pending := h.pending.trans k.pending
  waiting := h.waiting.trans k.waiting
  queues := by
    obtain ⟨a, b, c, d⟩ := h.queues
    obtain ⟨a', b', c', d'⟩ := k.queues
    exact ⟨a'.trans a, b'.trans b, c'.trans c, d'.trans d⟩
  turn := ⟨k.turn.1.trans h.turn.1, k.turn.2.trans h.turn.2⟩
  hand := fun x hs => by
    obtain ⟨a, b⟩ := h.hand x hs
    obtain ⟨a', b'⟩ := k.hand x a
    exact ⟨a', fun hx => ⟨(b' hx).1.trans (b hx).1, (b' hx).2.trans (b hx).2⟩⟩
  slotCount := k.slotCount.trans h.slotCount
  slots := fun i => by
    rcases h.slots i with a | ⟨p, a, n, e, r, o⟩
    · rcases k.slots i with b | ⟨q, b, n, e, r, o⟩
      · exact .inl (b.trans a)
      · rw [a] at q b
        refine .inr ⟨q, b, ?_, ?_, r, o⟩
        · by_contra hn
          rw [h.requests.2.2.2.1 (Option.isSome_iff_ne_none.mpr hn)] at n
          exact hn n
        · rcases h.writes with ⟨m, x⟩ | ⟨-, m, w, -, x⟩
          · rw [x] at e; exact (List.append_eq_nil_iff.mp e).1
          · rw [x] at n; cases n
    · rcases k.slots i with b | ⟨q, b, -, -, -⟩
      · obtain ⟨x, hx, -⟩ := Option.map_eq_some_iff.mp o
        exact .inr ⟨p, b.trans a, n, e, by rw [k.requests.2.2.2.1 (by simp [r]), r], by rw [(k.hand x hx).1, ← hx, o]⟩
      · rw [a] at q; cases q
  writes := by
    rcases h.writes with ⟨m, a⟩ | ⟨n, m, w, a, r⟩
    · rcases k.writes with ⟨m', b⟩ | ⟨n', m', w', b, r'⟩
      · exact .inl ⟨m ++ m', by rw [b, a, List.append_assoc]⟩
      · refine .inr ⟨?_, m ++ m', w', by rw [← List.append_assoc, ← a, b], r'⟩
        by_contra hn
        rw [h.requests.2.2.2.1 (Option.isSome_iff_ne_none.mpr hn)] at n'
        exact hn n'
    · have hsome : t.port.intakeReq.isSome := by simp [r]
      rcases k.writes with ⟨m', b⟩ | ⟨n', -⟩
      · exact .inr ⟨n, m ++ m', w, by rw [← List.append_assoc, a, b, List.cons_append],
          by rw [k.requests.2.2.2.1 hsome, r]⟩
      · rw [n'] at r; cases r
  requests := by
    obtain ⟨a, b, c, d, e⟩ := h.requests
    obtain ⟨a', b', c', d', e'⟩ := k.requests
    refine ⟨a' ∘ a, fun x => ?_, fun x => ?_, fun x => ?_, fun x => ?_⟩
    · rw [b' (by rw [b x]; exact x), b x]
    · rw [c' (by rw [c x]; exact x), c x]
    · rw [d' (by rw [d x]; exact x), d x]
    · rw [e' (by rw [e x]; exact x), e x]
  quiet := fun hf => by
    obtain ⟨a, b, c, d, e⟩ := h.quiet hf
    obtain ⟨a', b', c', d', e'⟩ := k.quiet (by rw [State.moverFree_congr a b h.grant]; exact hf)
    exact ⟨a'.trans a, b'.trans b, c'.trans c, d'.trans d, e'.trans e⟩
  awake := fun hw => by
    obtain ⟨a, b, c, d, e⟩ := h.awake hw
    obtain ⟨a', b', c', d', e'⟩ := k.awake (by unfold State.Returning; rw [a]; exact hw)
    exact ⟨a'.trans a, b'.trans b, c'.trans c, d'.trans d, e'.trans e⟩

/-! ### Requests at the Memory Port -/

/-- A state in which only requests of the port that were not waiting have been asked. -/
theorem Follows.ofPort {p : Port} (h1 : p.dram = s.port.dram)
    (h2 : p.refreshTimer = s.port.refreshTimer ∧ p.refreshDue = s.port.refreshDue) (h3 : p.grant = s.port.grant)
    (h4 : (s.port.fetchReq = true → p.fetchReq = true)
      ∧ (s.port.captureReq.isSome → p.captureReq = s.port.captureReq)
      ∧ (s.port.procReq.isSome → p.procReq = s.port.procReq)
      ∧ (s.port.intakeReq.isSome → p.intakeReq = s.port.intakeReq)
      ∧ (s.port.moverReq.isSome → p.moverReq = s.port.moverReq))
    (h5 : s.moverFree = false → p.moverReq = s.port.moverReq) (h6 : p.selfAsked = s.port.selfAsked) :
    Follows s (s.withPort p) :=
  { Follows.refl s with
    dramState := h1
    refresh := h2
    grant := h3
    requests := h4
    slots := fun _ => .inl rfl
    writes := .inl ⟨[], by simp⟩
    quiet := fun hf => ⟨rfl, h5 hf, rfl, rfl, rfl⟩
    awake := fun _ => ⟨rfl, rfl, rfl, rfl, h6⟩ }

theorem State.settleCapture_follows (s : State) : Follows s s.settleCapture := by
  unfold State.settleCapture
  split
  · next h =>
    rw [Bool.and_eq_true, Option.isNone_iff_eq_none] at h
    exact Follows.ofPort rfl ⟨rfl, rfl⟩ rfl ⟨id, by simp [h.1], fun _ => rfl, fun _ => rfl, fun _ => rfl⟩ (fun _ => rfl) rfl
  · exact Follows.refl s

theorem State.settleEmit_follows (s : State) : Follows s s.settleEmit := by
  unfold State.settleEmit
  split
  · exact Follows.ofPort rfl ⟨rfl, rfl⟩ rfl ⟨fun _ => rfl, fun _ => rfl, fun _ => rfl, fun _ => rfl, fun _ => rfl⟩
      (fun _ => rfl) rfl
  · exact Follows.refl s

theorem State.settleProcessor_follows (s : State) : Follows s s.settleProcessor := by
  unfold State.settleProcessor
  split
  · next h =>
    rw [Bool.and_eq_true, Option.isNone_iff_eq_none] at h
    (repeat' split) <;> first
      | exact Follows.refl s
      | exact Follows.ofPort rfl ⟨rfl, rfl⟩ rfl ⟨id, fun _ => rfl, by simp [h.1], fun _ => rfl, fun _ => rfl⟩
          (fun _ => rfl) rfl
  · exact Follows.refl s

/-! ### The Intake -/

/-- A slot record that is replaced reads as the new one, and every other as it was. -/
theorem Intake.slot_withSlot (i : Intake) (n m : Nat) (x : SlotRecord) :
    (i.withSlot n x).slot m = if n = m ∧ n < i.slots.length then x else i.slot m := by
  simp only [Intake.slot, Intake.withSlot, List.getD_eq_getElem?_getD, List.getElem?_set]
  split
  · next h => subst h; split <;> simp_all
  · next h => simp [h]

/-- A slot with a record that is POSTED is a slot of the area. -/
theorem Intake.lt_of_posted {i : Intake} {n : Nat} (h : (i.slot n).state = .posted) : n < i.slots.length := by
  by_contra hn
  simp [Intake.slot, List.getD_eq_getElem?_getD, List.getElem?_eq_none (Nat.le_of_not_lt hn), SlotRecord.reset] at h

/-- The Intake begins to take a slot. -/
theorem State.takeSlot_follows (hh : s.intake.inHand = none) (i : Nat) (b : Bool) : Follows s (s.takeSlot i b) :=
  { Follows.refl s with hand := by simp [hh], slots := fun _ => .inl rfl }

theorem State.settleTake_follows (s : State) : Follows s s.settleTake := by
  unfold State.settleTake
  split
  · exact Follows.refl s
  · split
    · next hh _ => split <;> first | exact State.takeSlot_follows hh _ _ | exact Follows.refl s
    · next hh _ => split <;> first | exact State.takeSlot_follows hh _ _ | exact Follows.refl s
    · exact Follows.refl s

/-- The request of the body fetch, with the Intake's request free and no final write that waits. -/
theorem State.requestFetch_follows {h : InHand} (hr : s.port.intakeReq = none) (hw : s.intake.finalWrites = [])
    (hh : s.intake.inHand = some h) (hs : h.stage = .fetch) : Follows s (s.requestFetch h) := by
  have hand (t : State) (e : t.intake.inHand = some h) : ∀ x, s.intake.inHand = some x → t.intake.inHand = some x
      ∧ (x.stage ≠ .fetch → t.intake.slots = s.intake.slots ∧ t.intake.state = s.intake.state) := by
    rintro x hx
    obtain rfl := Option.some.inj (hh.symm.trans hx)
    exact ⟨e, absurd hs⟩
  have requests : ∀ x, s.port.intakeReq.isSome → x = s.port.intakeReq := by simp [hr]
  unfold State.requestFetch
  simp only
  split
  · next hp =>
    exact { Follows.refl s with
      requests := ⟨id, fun _ => rfl, fun _ => rfl, requests _, fun _ => rfl⟩
      hand := hand _ hh
      slotCount := by simp [State.withSlot, State.withIntake, State.withPort, Intake.withSlot]
      writes := .inl ⟨[], (List.append_nil _).symm⟩
      slots := fun j => by
        have e : ((((s.withSlot h.slot { s.intake.slot h.slot with state := .fetching }).withIntake
            { (s.withSlot h.slot { s.intake.slot h.slot with state := .fetching }).intake with
              state := .fetching }).withPort { s.port with intakeReq := some .fetch }).intake.slot j)
            = (s.intake.withSlot h.slot { s.intake.slot h.slot with state := .fetching }).slot j := rfl
        rw [e, Intake.slot_withSlot]
        split
        · next hj =>
          obtain ⟨rfl, -⟩ := hj
          exact .inr ⟨hp, rfl, hr, hw, rfl, congrArg (Option.map (·.slot)) hh⟩
        · exact .inl rfl }
  · exact { Follows.refl s with
      requests := ⟨id, fun _ => rfl, fun _ => rfl, requests _, fun _ => rfl⟩
      hand := hand _ hh
      writes := .inl ⟨[], (List.append_nil _).symm⟩
      slots := fun _ => .inl rfl }

/-- A body fetch is the Intake's next request only with no final write that waits. -/
theorem Intake.nextJob_fetch {i : Intake} {h : InHand} (hj : i.nextJob = some .fetch) (hh : i.inHand = some h) :
    i.finalWrites = [] ∧ h.stage = .fetch := by
  unfold Intake.nextJob at hj
  split at hj
  · cases hj
  · next e e' =>
    rw [hh] at e'
    obtain rfl := Option.some.inj e'
    split at hj <;> simp_all
  · cases hj

/-- A final write is the Intake's next request only as the oldest that waits. -/
theorem Intake.nextJob_final {i : Intake} {w : FinalWrite} (hj : i.nextJob = some (.final w)) :
    i.finalWrites = w :: i.finalWrites.drop 1 := by
  unfold Intake.nextJob at hj
  split at hj
  · next e => cases hj; simp [e]
  · split at hj <;> cases hj
  · cases hj

theorem State.settleIntake_follows (s : State) : Follows s s.settleIntake := by
  unfold State.settleIntake
  split
  · next h =>
    rw [Bool.and_eq_true, Option.isNone_iff_eq_none] at h
    have hq : ∀ x : Option IntakeJob, s.port.intakeReq.isSome → x = s.port.intakeReq := by simp [h.1]
    split
    · next w hw =>
      exact { Follows.refl s with
        requests := ⟨id, fun _ => rfl, fun _ => rfl, hq _, fun _ => rfl⟩
        writes := .inr ⟨h.1, [], w, by simpa using Intake.nextJob_final hw, rfl⟩
        slots := fun _ => .inl rfl }
    · next hj hh =>
      obtain ⟨hw, hs⟩ := Intake.nextJob_fetch hj hh
      exact State.requestFetch_follows h.1 hw hh hs
    · exact Follows.ofPort rfl ⟨rfl, rfl⟩ rfl ⟨id, fun _ => rfl, fun _ => rfl, hq _, fun _ => rfl⟩ (fun _ => rfl) rfl
    · exact Follows.refl s
  · exact Follows.refl s

/-! ### The mover -/

/-- A report that the mover raises enters behind those that are pending, or waits behind those that wait. -/
theorem State.raiseFault_follows (hf : s.moverFree = true) (f : PassageFault) : Follows s (s.raiseFault f) := by
  have quiet {α : Prop} (h : s.moverFree = false) : α := by rw [hf] at h; cases h
  unfold State.raiseFault State.enter
  (repeat' split)
  · exact { Follows.refl s with passage := rfl, pending := List.prefix_append _ _, quiet := quiet }
  · exact { Follows.refl s with passage := rfl, quiet := quiet }
  · exact { Follows.refl s with passage := rfl, quiet := quiet }

theorem State.withMover_follows (hf : s.moverFree = true) (m : Mover) : Follows s (s.withMover m) := by
  have quiet {α : Prop} (h : s.moverFree = false) : α := by rw [hf] at h; cases h
  exact { Follows.refl s with quiet := quiet }

/-- The mover that has a word to go on with has no request waiting. -/
theorem State.moverReq_of_free (hf : s.moverFree = true) : s.port.moverReq = none := by
  simp only [State.moverFree, Bool.and_eq_true, Option.isNone_iff_eq_none] at hf
  exact hf.1.2

/-- With a word to go on with, the mover is not quiet. -/
theorem State.not_quiet (hf : s.moverFree = true) {α : Prop} (h : s.moverFree = false) : α := by rw [hf] at h; cases h

/-- The mover's running order at another stage of its end. -/
theorem Follows.stageEnd (hf : s.moverFree = true) {ro x : Running} (hr : s.running .mover = some ro)
    (hx : x.order = ro.order) : Follows s (s.withRunning .mover (some x)) :=
  { Follows.refl s with
    queues := ⟨rfl, rfl, rfl, by rw [show s.intake.mQueue.running = some ro from hr]; exact congrArg some hx⟩
    quiet := s.not_quiet hf }

/-- A report enters. -/
theorem Follows.entered (hf : s.moverFree = true) (r : Report) : Follows s (s.enter r) := by
  unfold State.enter
  split
  · exact { Follows.refl s with pending := List.prefix_append _ _, quiet := s.not_quiet hf }
  · exact Follows.refl s

/-- A report waits. -/
theorem Follows.waits (hf : s.moverFree = true) (w : Waiting) :
    Follows s (s.withReports { s.reports with waiting := s.reports.waiting ++ [w] }) :=
  { Follows.refl s with waiting := List.prefix_append _ _, quiet := s.not_quiet hf }

/-- A final write falls due. -/
theorem Follows.owes (hf : s.moverFree = true) (w : FinalWrite) :
    Follows s (s.withIntake { s.intake with finalWrites := s.intake.finalWrites ++ [w] }) :=
  { Follows.refl s with writes := .inl ⟨_, rfl⟩, quiet := s.not_quiet hf }

theorem State.enter_keeps (s : State) (r : Report) :
    (s.enter r).moverFree = s.moverFree ∧ (s.enter r).running .mover = s.running .mover := by
  unfold State.enter
  split <;> exact ⟨rfl, rfl⟩

/-- A TRANSFER that the mover ends while it goes on: its COMPLETION report enters or waits, and its order stands. -/
theorem State.endOrder_mover_follows (hf : s.moverFree = true) (r : Result) (figures : List Word) :
    Follows s (s.endOrder .mover .mover r figures) := by
  unfold State.endOrder
  split
  · exact Follows.refl s
  · next ro hro =>
    refine (Follows.stageEnd hf hro (x := { ro with stage := .offered, result := r, figures := figures }) rfl).trans ?_
    have hf1 : (s.withRunning .mover
      (some { ro with stage := .offered, result := r, figures := figures })).moverFree = true := hf
    have hr1 : (s.withRunning .mover
      (some { ro with stage := .offered, result := r, figures := figures })).running .mover
        = some { ro with stage := .offered, result := r, figures := figures } := rfl
    revert hf1 hr1
    generalize s.withRunning .mover (some { ro with stage := .offered, result := r, figures := figures }) = v
    intro hf1 hr1
    unfold State.offer
    split
    · simp only [State.enterItem, State.enterCompletion, hr1]
      generalize completionReport { ro with stage := .offered, result := r, figures := figures } = rep
      have hk := v.enter_keeps rep
      rw [hf1, hr1] at hk
      refine (Follows.entered hf1 rep).trans ((Follows.stageEnd hk.1 hk.2
        (x := { ro with stage := .entered, result := r, figures := figures }) rfl).trans (Follows.owes ?_ _))
      exact hk.1
    · exact Follows.waits hf1 _

/-- A report enters whatever the mover's record holds. -/
theorem State.enter_withMover (s : State) (m : Mover) (r : Report) :
    (s.withMover m).enter r = (s.enter r).withMover m := by
  have h : (s.withMover m).hasReports = s.hasReports := rfl
  unfold State.enter
  rw [h]
  split <;> rfl

/-- An order ends whatever the mover's record holds. -/
theorem State.endOrder_withMover (s : State) (m : Mover) (r : Result) (figures : List Word) :
    (s.withMover m).endOrder .mover .mover r figures = (s.endOrder .mover .mover r figures).withMover m := by
  have h : (s.withMover m).running .mover = s.running .mover := rfl
  unfold State.endOrder
  rw [h]
  split
  · rfl
  · next ro _ =>
    have h2 (x : Option Running) : (s.withMover m).withRunning .mover x = (s.withRunning .mover x).withMover m := rfl
    have h3 (v : State) : (v.withMover m).hasRoom = v.hasRoom := rfl
    have h4 (v : State) : (v.withMover m).running .mover = v.running .mover := rfl
    rw [h2]
    unfold State.offer
    rw [h3]
    split
    · simp only [State.enterItem, State.enterCompletion]
      rw [h4]
      split
      · rfl
      · rw [State.enter_withMover]; rfl
    · rfl

theorem State.withPort_self (s : State) : s.withPort s.port = s := rfl

/-- A TRANSFER that the mover ends while it goes on. -/
theorem State.endTransfer_follows (hf : s.moverFree = true) (r : Result) : Follows s (s.endTransfer r) := by
  have hp : ({ s.port with moverReq := none } : Port) = s.port := by rw [← State.moverReq_of_free hf]
  have hg := (State.endOrder_mover_follows hf r s.mover.figures)
  unfold State.endTransfer
  rw [hp, State.withPort_self, State.endOrder_withMover]
  have quiet {α : Prop} (h : s.moverFree = false) : α := by rw [hf] at h; cases h
  exact { hg with
    passage := hg.passage
    writes := hg.writes
    quiet := quiet }

theorem State.turnChunk_follows (hf : s.moverFree = true) : Follows s s.turnChunk := by
  unfold State.turnChunk
  simp only
  (repeat' split) <;> first
    | exact Follows.refl s
    | exact State.withMover_follows hf _
    | exact State.endTransfer_follows hf _

/-- The mover skips a word with a fault. -/
theorem State.dropWord_follows (hf : s.moverFree = true) (m : Mover) (f : PassageFault) :
    Follows s ((s.withMover m).raiseFault f) := by
  have quiet {α : Prop} (h : s.moverFree = false) : α := by rw [hf] at h; cases h
  have hr := State.raiseFault_follows hf f
  have hc : (s.withMover m).raiseFault f = (s.raiseFault f).withMover m := by
    have h : (s.withMover m).hasRoom = s.hasRoom := rfl
    unfold State.raiseFault
    rw [h]
    split
    · rw [State.enter_withMover]; rfl
    · rfl
  rw [hc]
  exact { hr with passage := hr.passage, writes := hr.writes, quiet := quiet }

theorem State.moverAct_follows (hf : s.moverFree = true) : Follows s s.moverAct := by
  have quiet {α : Prop} (h : s.moverFree = false) : α := by rw [hf] at h; cases h
  have hr := State.moverReq_of_free hf
  unfold State.moverAct
  simp only
  split
  · exact State.turnChunk_follows hf
  · split
    · exact State.withMover_follows hf _
    · split
      · exact Follows.ofPort rfl ⟨rfl, rfl⟩ rfl ⟨id, fun _ => rfl, fun _ => rfl, fun _ => rfl, by simp [hr]⟩ quiet rfl
      · have hp : ({ s.port with moverReq := none } : Port) = s.port := by rw [← hr]
        unfold State.holdMover
        rw [hp, State.withPort_self]
        exact State.withMover_follows hf _
      · exact Follows.refl s
      · exact Follows.refl s
      · exact State.dropWord_follows hf _ _

theorem State.runMover_follows (s : State) (n : Nat) : Follows s (s.runMover n) := by
  induction n generalizing s with
  | zero => exact Follows.refl s
  | succ n ih =>
    simp only [State.runMover]
    split
    · next h => exact (State.moverAct_follows h).trans (ih _)
    · exact Follows.refl s

theorem State.settleMover_follows (s : State) : Follows s s.settleMover := by
  unfold State.settleMover
  split
  · exact State.runMover_follows s _
  · exact Follows.refl s

/-! ### A return to sleep -/

/-- Both channels de-energised by a return to sleep. -/
theorem Follows.deEnergise (h : u.Returning) : Follows u u.deEnergiseBoth :=
  { Follows.refl u with chanD := .inr rfl, chanP := .inr rfl, awake := fun k => absurd h k }

/-- Self-refresh asked by a return to sleep. -/
theorem Follows.ask (h : u.Returning) : Follows u (u.askSelfRefresh true) :=
  { Follows.refl u with awake := fun k => absurd h k }

/-- A return to sleep at another stage. -/
theorem Follows.stage (h : u.Returning) (x : ConfirmStage) : Follows u (u.withPower { u.power with stage := x }) :=
  { Follows.refl u with power := rfl, awake := fun k => absurd h k }

theorem State.settleLapse_follows (s : State) : Follows s s.settleLapse := by
  by_cases hw : s.Returning
  · have awake {α : Prop} (h : ¬ s.Returning) : α := absurd hw h
    have hstop : Follows s
        (if s.power.stage = .stopClock ∧ s.passage.cpu = none then
          (s.withClock false).withPower { s.power with stage := .postReports } else s) := by
      split
      · exact { Follows.refl s with pins := rfl, clock := by simp [State.withClock], power := rfl, awake := awake }
      · exact Follows.refl s
    unfold State.settleLapse
    rw [if_pos hw.1]
    simp only
    generalize (if s.power.stage = .stopClock ∧ s.passage.cpu = none then
          (s.withClock false).withPower { s.power with stage := .postReports } else s) = v at hstop ⊢
    split
    · next hv =>
      have hr : v.Returning := by
        unfold State.Returning
        exact ⟨(congrArg Power.state hstop.power).trans hw.1, Or.inr hv.1⟩
      have h1 : v.deEnergiseBoth.Returning := hr
      have h2 : (v.deEnergiseBoth.askSelfRefresh true).Returning := hr
      exact hstop.trans ((Follows.deEnergise hr).trans ((Follows.ask h1).trans (Follows.stage h2 .awaitRefresh)))
    · exact hstop
  · have hs : s.settleLapse = s := by
      unfold State.settleLapse
      split
      · next h =>
        have h1 : ¬ s.power.stage = .stopClock := fun e => hw ⟨h, .inl e⟩
        have h2 : ¬ s.power.stage = .postReports := fun e => hw ⟨h, .inr e⟩
        simp [h1, h2]
      · rfl
    rw [hs]
    exact Follows.refl s

/-! ### The whole -/

/-- What follows of itself after an event changes no more than `Follows` says. -/
theorem State.settle_follows (s : State) : Follows s s.settle :=
  (State.settleMover_follows _).trans <| (State.settleCapture_follows _).trans <|
    (State.settleEmit_follows _).trans <| (State.settleProcessor_follows _).trans <|
      (State.settleTake_follows _).trans <| (State.settleIntake_follows _).trans (State.settleLapse_follows _)

/-- A command that ends with what follows of itself leads to the state right after its event. -/
theorem leads_of_finish {c : Instr} (h : exec c s = finish u) : Leads c s u :=
  ⟨u.settle, h, u.settle_follows⟩

/-- A command after which nothing follows leads to the state right after its event. -/
theorem leads_of_next {c : Instr} (h : exec c s = .next u) : Leads c s u := ⟨u, h, Follows.refl u⟩

/-- The order in hand of a kind is carried out. -/
theorem onOrder_eq {k : Byte} {h : InHand} (hs : s.orderInHand k = some h) (f : InHand → State → State) :
    onOrder k f s = finish (f h s) := by
  simp only [onOrder, hs]

/-- With no order of the kind in hand the command changes nothing. -/
theorem onOrder_none {k : Byte} (hs : s.orderInHand k = none) (f : InHand → State → State) :
    onOrder k f s = .next s := by
  simp only [onOrder, hs]

end Sys2Proof.Machine
end

