-- ==== Sys2Proof/Tests/Slice0.lean ====
section
/-! SUPPORT. Tests: ill-formed commands, check values and worked cases of the spec, and for each statement of
Certificates/Slice0/Obligations.lean that has hypotheses a witness: a state and operands that meet them, for each of
its clauses. -/

namespace Sys2Proof.Tests

open Sys2Proof Sys2Proof.Machine

/-! ### States to test on -/

/-- A window entry without a band. -/
def entry (k : WindowKind) (base length : Nat) : Window := { kind := k, base := base, length := length, band := 0 }

/-- A band of four lines of 32 bytes with its first line ready. -/
def bandOn (role : Role) (e : Fin 8) : Band :=
  { Band.reset with
    role := role, entry := some e, pitch := 32, width := 32, lines := 4, holdLimit := 255, noticeLevel := 2, f := 1, c := 1 }

/-- A part that has booted: 1 MB of DRAM, an order area of 4 slots at 1000h, a report area of 4 slots at 1100h, a CAPTURE
band 0 at 2000h, an EMIT band 1 at 2100h, a COPY band 2 at 2200h, a GUARD window at 2300h, profile 0 of two levels. -/
def booted : State :=
  { State.reset with
    pins := { supply := true, resetLine := false, procReset := false, clock := true }
    passage := { Passage.reset 1 with mode := .shadow, imageLength := 0x800, guard := true }
    port := { Port.powerOn with dram := .active, refreshTimer := true }
    windows := #v[entry .orders 0x1000 0x100, entry .reports 0x1100 0x100, entry .band 0x2000 0x100,
      { entry .band 0x2100 0x100 with band := 1 }, { entry .band 0x2200 0x100 with band := 2 },
      entry .guard 0x2300 0x100, Window.none, Window.none]
    intake := { Intake.reset with slots := List.replicate 4 SlotRecord.reset }
    reports := { Reports.reset with count := 4 }
    bands := #v[bandOn .capture 2, bandOn .emit 3, bandOn .copy 4, Band.reset]
    profiles := #v[[⟨100, 2⟩, ⟨50, 3⟩], [], [], [], [], [], [], []]
    boot := { Boot.reset .powerOn false false with state := .done } }

/-- The part with a grant in progress. -/
def granted (g : Grant) (s : State) : State := s.withPort { s.port with grant := some g }

/-- The part with an order of a kind in hand, taken from slot 0. -/
def holding (k : Byte) (stage : Stage) (body : List Word) (s : State) : State :=
  s.withIntake { s.intake with
    state := .fetching
    slots := s.intake.slots.set 0 { state := .fetching, kind := some k, early := false }
    inHand := some { slot := 0, kind := k, body := body, urgent := false, stage := stage } }

/-- An order of slot 1 that asks for a work. -/
def orderOf (w : Work) : Order := { slot := 1, kind := kindMove, work := w, marked := false }

/-- The part with a queue that runs an order at a stage. -/
def running (q : QueueId) (w : Work) (stage : RunStage) (s : State) : State :=
  s.withRunning q (some { order := orderOf w, stage := stage, result := .ok, figures := [] })

/-- The part with a processor access outstanding. -/
def accessing (addr : Nat) (op : AccessOp) (status : CpuStatus) (s : State) : State :=
  s.withPassage { s.passage with cpu := some ⟨⟨addr, op⟩, status, .unused⟩ }

/-- The part with its pending queue full. -/
def crowded (s : State) : State :=
  s.withReports { s.reports with pending := List.replicate 8 ⟨.sensor, 1, List.replicate 7 0⟩ }

/-- The part without a report area. -/
def noArea (s : State) : State := s.withWindows (s.windows.set 1 Window.none)

/-- A MOVE of three steps on channel D, or with an edge. -/
def moveParams (e : Option EdgeParams) : MoveParams := { chan := .d, profile := 0, dir := .forward, count := 3, edge := e }

/-- A CAPTURE into band 0. -/
def captureParams : CaptureParams :=
  { band := 0, profile := 0, stepsPerLine := 2, rate := 0, skipLines := 1, tailLines := 1, lineLimit := 0, jam := 5,
    maxLength := 10, ejectSteps := 4, pauseLimit := 3 }

/-- An EMIT of two lines from band 1. -/
def emitParams : EmitParams :=
  { band := 1, profile := 0, stepsPerLine := 2, groups := 2, heat := 10, lineCount := 2, tailFeed := 3, pauseLimit := 3 }

/-- A COPY transfer of one segment of 64 bytes. -/
def transferParams : TransferParams := { mode := .copy, seg1 := ⟨0x4000, 0x5000, 64⟩, seg2 := ⟨0, 0, 0⟩ }

/-- Channel D in a state, with its step, hold and pause timers running. -/
def chanDIn (x : ChanState) (s : State) : State :=
  s.withChanD { s.chanD with state := x, stepTimer := some 100, holdTimer := some 50, pauseTimer := some 3 }

/-- Channel P in a state, with its step and pause timers running. -/
def chanPIn (x : ChanState) (s : State) : State :=
  s.withChanP { s.chanP with state := x, stepTimer := some 100, pauseTimer := some 3 }

/-- The part carrying out the CAPTURE in a phase, channel D moving. -/
def capturing (phase : CapturePhase) : State :=
  chanDIn .moving ((running .d (.capture captureParams) .active booted).withCapture
    { booted.capture with record := some { CaptureRecord.start with phase := phase } })

/-- The part carrying out the EMIT in a phase, channel P moving. -/
def emitting (phase : EmitPhase) : State :=
  chanPIn .moving ((running .p (.emit emitParams) .active booted).withEmit
    { booted.emit with record := some { EmitRecord.start with phase := phase } })

/-- The settings of a SLEEP with every cause enabled. -/
def wakeSettings : WakeSettings :=
  { rest := 0x6000, confirm := 5, ringing := true, patternOn := 0xF, timerOn := true, timer := 7,
    patterns := Vector.replicate 4 ⟨1, 0, 2⟩, slot := 2, ended := false }

/-- The part in a power state with those settings and every timer of the Power Unit running. -/
def powered (x : PowerState) (stage : ConfirmStage) : State :=
  booted.withPower { Power.reset with
    state := x, stage := stage, settings := some wakeSettings, sleepLimit := true, wakeTimer := some 7,
    confirmTimer := some 5, patternTimers := Vector.replicate 4 true }

/-- The state that a command leads to. -/
def after (c : Instr) (s : State) : State :=
  match exec c s with
  | .next t => t
  | .fault f => nomatch f
  | .refused _ => s

/-! ### Ill-formed commands, which the check refuses -/

theorem test_misread_place_refused : WellFormed (.headerReadEnd [(16, 0)]) = false := by decide
theorem test_misread_twice_refused : WellFormed (.bootBurstEnd [(3, 0), (3, 1)]) = false := by decide
theorem test_cut_words_refused : WellFormed (.resetLineAssert 129) = false := by decide
theorem test_lapse_words_refused : WellFormed (.confirmTimerExpiry 129) = false := by decide
theorem test_odd_width_refused : WellFormed (.clockingEnd (List.replicate 136 true)) = false := by decide +kernel
theorem test_narrow_line_refused : WellFormed (.clockingEnd (List.replicate 112 true)) = false := by decide +kernel
theorem test_gap_of_nothing_refused : WellFormed (.ringingPulse 0) = false := by decide
theorem test_bounds_accepted : WellFormed (.bootBurstEnd [(15, 0)]) ∧ WellFormed (.resetLineAssert 128)
    ∧ WellFormed (.clockingEnd (List.replicate 128 true)) ∧ WellFormed (.ringingPulse 1) := by decide +kernel

/-- No row of spec/opcode_table.json gives bits, so no word spells a command. -/
theorem test_no_word_spells_a_command (nbits w : Nat) (s : State) :
    decodeTableWord nbits w = none ∧ s.withFetchWord nbits w = s := ⟨rfl, rfl⟩

/-! ### Witnesses: the machine as a whole -/

/-- A booted part meets the invariant. -/
theorem booted_inv : Inv booted where
  memory := by decide
  marks := fun b => by
    refine ⟨?_, ?_, ?_, ?_, ?_, ?_⟩ <;> revert b <;> decide
  pending := by decide
  unposted := by decide
  seqLow := by decide
  seqHigh := by decide

/-- The queues are legal, as a check of the works in them. -/
def queuesOk (s : State) : Bool :=
  [QueueId.d, .p, .mover].all fun q =>
    (match (s.works q).1 with
      | some w => decide (w.queue = q)
      | none => (s.works q).2.isEmpty) && (s.works q).2.all fun w => decide (w.queue = q)

theorem queuesLegal_of_ok {s : State} (h : queuesOk s = true) : QueuesLegal s := by
  rw [queuesLegal_iff]
  intro q
  simp only [queuesOk, List.all_cons, List.all_nil, Bool.and_true, Bool.and_eq_true] at h
  have own : (match (s.works q).1 with
      | some w => decide (w.queue = q)
      | none => (s.works q).2.isEmpty) = true ∧ ((s.works q).2.all fun w => decide (w.queue = q)) = true := by
    cases q
    exacts [h.1, h.2.1, h.2.2]
  refine ⟨fun w hw => ?_, fun w hw => ?_, fun hn => ?_⟩
  · have := own.1
    rw [hw] at this
    exact of_decide_eq_true this
  · exact of_decide_eq_true (List.all_eq_true.mp own.2 w hw)
  · have := own.1
    rw [hn] at this
    exact List.isEmpty_iff.mp this

/-- A booted part has a legal Window Table. -/
theorem booted_windowsLegal : WindowsLegal booted where
  zero := by decide
  one := by decide
  others := by decide
  multiples := by decide
  length := by decide
  inside := by decide
  image := by decide
  apart := by decide

/-- A booted part has a legal report area, also while a report is being posted. -/
theorem posting_areaLegal : AreaLegal (granted .report booted) where
  fits := by decide
  ring := by decide
  room := by decide

theorem witness_StepRunsFrontCommand :
    (booted.withPending [.burstEnd, .refreshDue]).pending = .burstEnd :: [.refreshDue] ∧ booted.pending = [] :=
  ⟨rfl, rfl⟩

theorem witness_StepKeepsInvariant : Inv (booted.withPending [.refreshDue])
    ∧ QueuesLegal (booted.withPending [.refreshDue]) ∧ ∃ t, step (booted.withPending [.refreshDue]) = .next t :=
  ⟨{ booted_inv with }, queuesLegal_of_ok (by decide), _, rfl⟩

/-- The processor writes the word at 3000h: the byte after it is not transferred to. -/
theorem witness_DramChangesByGrantAlone :
    let s := granted (.processor .nothing) (accessing 0x3000 (.writeWord 0x1234) (.passing .plain) booted)
    Memory.wf s.dram ∧ (∃ t, exec .processorGrantEnd s = .next t)
      ∧ ∀ g, s.port.grant = some g → ∀ cell ∈ (s.grantTransfers g).flatten, cell.1 ≠ 0x3002 :=
  ⟨by decide, ⟨_, rfl⟩, by rintro g ⟨⟩; decide⟩

theorem witness_PartsHaveTheirWriters : (∃ t, exec (.sensorInputChange .hook true) booted = .next t)
    ∧ mayReset (.sensorInputChange .hook true) = false := ⟨⟨_, rfl⟩, rfl⟩

theorem witness_WindowTableStaysLegal : WindowsLegal booted ∧ booted.boot.state = .done ∧ booted.bootGrant = none
    ∧ ∃ t, exec .refreshDue booted = .next t := ⟨booted_windowsLegal, rfl, rfl, _, rfl⟩

theorem witness_PhaseMovesByStepsAlone : (∃ t, exec (.stepTimerExpiry .d) (capturing .approach) = .next t)
    ∧ mayReset (.stepTimerExpiry .d) = false ∧ Instr.stepTimerExpiry .d ≠ .stepTimerExpiry .p := ⟨⟨_, rfl⟩, rfl, by decide⟩

theorem witness_ReportAreaStaysRing : AreaLegal (granted .report booted) ∧ (∀ m, Instr.reportPostEnd ≠ .headerReadEnd m)
    ∧ ∃ t, exec .reportPostEnd (granted .report booted) = .next t :=
  ⟨posting_areaLegal, by rintro m ⟨⟩, _, rfl⟩

theorem witness_MemoryIsCanonical : Memory.wf [(4, 0x12), (5, 0x34)]
    ∧ ∀ a, Memory.read Config.unlistedDram (Memory.write [(4, 0x12)] 5 0x34) a
      = Memory.read Config.unlistedDram [(4, 0x12), (5, 0x34)] a := ⟨by decide, fun _ => rfl⟩

/-! ### Witnesses: bands and reports -/

/-- A band with no line FILLING or DRAINING, one with two of each, and one with no line left for a claim. -/
theorem witness_BandEventsMoveLinesAndMarks :
    let quiet := bandOn .copy 4
    let busy := { quiet with c := 2, f := 2, filling := 2, draining := 2 }
    let inside (b : Band) := (b.f = (b.d + b.c) % b.lines ∧ (b.d < b.lines ∨ (b.lines = 0 ∧ b.d = 0)))
      ∧ (b.c + b.filling ≤ b.lines ∧ b.draining ≤ b.c) ∧ b.filling ≤ 2 ∧ b.draining ≤ 2
    inside quiet ∧ inside busy ∧ 3 < quiet.lines ∧ 3 < busy.lines
      ∧ (quiet.c + quiet.filling < quiet.lines ∧ quiet.filling < 2) ∧ 0 < busy.filling
      ∧ (quiet.c < quiet.lines ∧ quiet.filling = 0) ∧ (0 < quiet.c ∧ quiet.draining = 0)
      ∧ (quiet.draining < quiet.c ∧ quiet.draining < 2) ∧ 0 < busy.draining := by decide

/-- Each row of the tables of R62 to R64: line 0 of a band is FULL, line 1 EMPTY, and offset 30 of 32 closes a line. -/
theorem witness_BandJudgesByTables :
    let line (r : Role) (n : Nat) := (bandOn r 2).lineState n
    let fetched := { bandOn .emit 3 with draining := 1 }
    (line .capture 1 = .empty ∧ line .capture 0 = .full)
      ∧ (opIsWord .readWord ∧ 30 + 2 = (bandOn .capture 2).width ∧ opIsWrite .readWord = false)
      ∧ (28 + 2 ≠ (bandOn .capture 2).width ∧ opIsWrite (.writeWord 0))
      ∧ (line .emit 0 = .full ∧ fetched.lineState 0 = .draining ∧ line .emit 1 = .empty)
      ∧ (line .copy 0 ≠ .empty ∧ line .copy 1 = .empty) := by decide

/-- Line 1 of band 0 becomes FULL and line 0 stays so, under a processor access to line 1 and a mover burst over both; an access
given to band 0 whose address lies in no line, and a mover word of the plain path. -/
theorem witness_BandJudgesByTables_again :
    let s := accessing 0x2020 .readWord (.passing (.band 0 (some .nothing))) booted
    let x : Band := { s.bands[0] with c := 2, f := 2 }
    let m := (s.withPort { s.port with moverReq := some [.band 0 (some (.drain 0 0)), .band 0 (some .nothing), .plain] }).withMover
      { Mover.reset with state := .reading, chunkSize := 16, params := { transferParams with seg1 := ⟨0x201E, 0x5000, 64⟩ } }
    (booted.bandPlace 0x3000 = none ∧ booted.bandPlace 0x2020 = some (0, 1, 0))
      ∧ (s.bands[0].lineState 1 ≠ x.lineState 1 ∧ s.bands[0].lineState 0 = x.lineState 0)
      ∧ s.passage.cpu.map (fun y => (y.acc.at, y.status)) = some (0x2020, .passing (.band 0 (some .nothing)))
      ∧ (m.mover.state ≠ .writing ∧ m.mover.sourceAddr (m.mover.next + 0) = 0x201E
        ∧ m.mover.sourceAddr (m.mover.next + 1) = 0x2020 ∧ m.port.moverReq.map (·.length) = some 3) := by decide

/-- HIGH and LOW at the notice level, and the two ways to arm again on either side of it. -/
theorem witness_NoticeTestFollowsTable :
    let b (r : Role) (c : Nat) (armed : Bool) : Band := { bandOn r 2 with c := c, armed := armed }
    ((b .capture 2 true).c = (b .capture 2 true).noticeLevel ∧ (b .capture 2 true).armed ∧ (b .capture 2 true).noticeLevel ≠ 0)
      ∧ ((b .emit 2 true).c = (b .emit 2 true).noticeLevel ∧ (b .emit 2 true).armed)
      ∧ ((b .copy 1 false).c < (b .copy 1 false).noticeLevel ∧ (b .copy 1 false).armed = false)
      ∧ ((b .emit 3 false).noticeLevel < (b .emit 3 false).c ∧ (b .emit 3 false).armed = false)
      ∧ (b .off 2 true).role ≠ .capture := by decide

/-- A notice raised with room in the pending queue, with the queue full, with one of the band waiting, with one of another band
waiting, and with no report area; and a test that raises none. -/
theorem witness_NoticeTestFollowsTable_offered :
    let x : Band := { bandOn .capture 2 with c := 2 }
    let note (b : Fin 4) (s : State) : State := s.withReports
      { s.reports with waiting := [⟨.band, .notice b ⟨.band, 1, List.replicate 7 0⟩⟩] }
    ((x.noticeTest true).2 = some .high ∧ ((bandOn .capture 2).noticeTest true).2 = none)
      ∧ (booted.hasReports = true ∧ booted.reports.pending.length < 8 ∧ booted.reports.waiting = [])
      ∧ ((crowded booted).hasReports = true ∧ 8 ≤ (crowded booted).reports.pending.length
        ∧ (crowded booted).reports.waiting = [])
      ∧ ((note 0 (crowded booted)).noticeWaits 0 = true ∧ (note 1 (crowded booted)).noticeWaits 0 = false)
      ∧ (noArea booted).hasReports = false := by decide

/-- Seven reports leave room, eight do not, and a part may have no report area. -/
theorem witness_FaultsTakeUpTheCount :
    let seven := booted.withReports { booted.reports with pending := List.replicate 7 ⟨.sensor, 1, List.replicate 7 0⟩ }
    (seven.hasReports = true ∧ seven.reports.pending.length < 8)
      ∧ ((crowded booted).hasReports = true ∧ 8 ≤ (crowded booted).reports.pending.length)
      ∧ (noArea booted).hasReports = false := by decide

theorem witness_EndedOrdersReport :
    let s := running .d (.move (moveParams none)) .active booted
    (s.running .d).isSome ∧ s.hasReports = true ∧ s.reports.pending.length < 8
      ∧ ((crowded s).running .d).isSome ∧ (crowded s).hasReports = true ∧ 8 ≤ (crowded s).reports.pending.length := by
  decide

theorem witness_AdmissionFollowsClaims :
    admitNext [⟨.mover, .completion .mover⟩, ⟨.band, .notice 0 ⟨.band, 1, []⟩⟩, ⟨.band, .notice 1 ⟨.band, 1, []⟩⟩]
      = some (⟨.band, .notice 0 ⟨.band, 1, []⟩⟩,
        [⟨.mover, .completion .mover⟩, ⟨.band, .notice 1 ⟨.band, 1, []⟩⟩]) := by decide

/-- A posting with nothing waiting, with a report waiting, and with a COMPLETION report waiting. -/
theorem witness_PostingAdvancesTheArea :
    let x : Report := ⟨.boot, 1, List.replicate 7 0⟩
    let s := granted .report (running .p (.emit emitParams) .offered
      (booted.withReports { booted.reports with pending := [x] }))
    let waits (w : Waiting) : State := s.withReports { s.reports with waiting := [w] }
    (s.port.grant = some .report ∧ s.reports.pending = x :: [] ∧ s.reports.waiting = [] ∧ Memory.wf s.dram
        ∧ x.body.length = 7)
      ∧ ((waits ⟨.power, .report x⟩).hasReports = true
        ∧ admitNext (waits ⟨.power, .report x⟩).reports.waiting = some (⟨.power, .report x⟩, []))
      ∧ (admitNext (waits ⟨.emit, .completion .p⟩).reports.waiting = some (⟨.emit, .completion .p⟩, [])
        ∧ ((waits ⟨.emit, .completion .p⟩).running .p).isSome) := by decide

/-! ### Witnesses: the processor's accesses -/

/-- The part in ROM_DIRECT with an overlay of 64 KB. -/
def direct : State :=
  booted.withPassage { booted.passage with mode := .romDirect, overlayLength := 0x10000, overlayBase := 0x100, guard := false }

/-- The last byte below the overlay length, the first of the ROM region, the first above 1 MB, the last of the guarded
image. -/
theorem witness_ChecksDropAccesses :
    (direct.busFree = true ∧ outsidePart 0xFFFF = false ∧ direct.Overlaid ⟨0xFFFF, .writeByte 1⟩
        ∧ opIsWrite (.writeByte 1) = true)
      ∧ (booted.busFree = true ∧ outsidePart 0xE00000 = false ∧ ¬ booted.Overlaid ⟨0xE00000, .writeWord 1⟩
        ∧ 0xE00000 ≤ Access.at ⟨0xE00000, .writeWord 1⟩)
      ∧ (outsidePart 0x100000 = false ∧ ¬ booted.Overlaid ⟨0x100000, .readByte⟩
        ∧ Access.at ⟨0x100000, .readByte⟩ < 0xE00000 ∧ booted.installed ≤ Access.at ⟨0x100000, .readByte⟩)
      ∧ (¬ booted.Overlaid ⟨0x7FF, .writeByte 1⟩ ∧ Access.at ⟨0x7FF, .writeByte 1⟩ < booted.installed
        ∧ booted.passage.mode = .shadow ∧ booted.passage.guard = true
        ∧ Access.at ⟨0x7FF, .writeByte 1⟩ < booted.passage.imageLength) := by
  unfold State.Overlaid; decide

/-- An access that reaches the window check of a booted part. -/
theorem reaches {a : Access} {s : State} (hp : s.passage = booted.passage) (low : 0x800 ≤ a.at) (high : a.at < 0x100000) :
    s.ReachesWindows a where
  overlay := by rintro ⟨h, -⟩; rw [hp] at h; cases h
  rom := by omega
  memory := by simp only [State.installed, hp]; exact high
  image := by rintro ⟨-, -, -, h⟩; rw [hp] at h; exact absurd h (Nat.not_lt.mpr low)

/-- The bounds of the range outside the part, a read below the overlay length and one at its end, the first byte of the ROM
region, an address beyond every window, and the rest address of a pending sleep. -/
theorem witness_ChecksForwardAccesses :
    (outsidePart 0x800000 = true ∧ outsidePart 0xDFFFFF = true ∧ outsidePart 0x7FFFFF = false)
      ∧ (direct.busFree = true ∧ direct.Overlaid ⟨0xFFFE, .readWord⟩ ∧ opIsWrite .readWord = false)
      ∧ (¬ direct.Overlaid ⟨0xE00000, .readWord⟩ ∧ 0xE00000 ≤ Access.at ⟨0xE00000, .readWord⟩)
      ∧ (booted.ReachesWindows ⟨0x2400, .readWord⟩ ∧ booted.restAddress ≠ some (Access.at ⟨0x2400, .readWord⟩)
        ∧ booted.windowAt (Access.at ⟨0x2400, .readWord⟩) = none)
      ∧ ((powered .sleepPending .confirming).ReachesWindows ⟨0x6000, .readWord⟩
        ∧ (powered .sleepPending .confirming).restAddress = some (Access.at ⟨0x6000, .readWord⟩)) :=
  ⟨by decide, by unfold State.Overlaid; decide, by unfold State.Overlaid; decide,
    ⟨reaches rfl (by decide) (by decide), by decide, by decide⟩, reaches rfl (by decide) (by decide), by decide⟩

/-- With the processor's request free: a read that passes, one that is held, one that is dropped, and a wake word still to be
written. -/
theorem witness_ChecksForwardAccesses_asked :
    let cpu (addr : Nat) := (after (.processorAccess addr .readWord) booted).passage.cpu.map (·.status)
    let wakes := booted.withPower { booted.power with wakeWrites := [(0x6000, 5)] }
    (booted.busFree = true ∧ booted.port.procReq = none ∧ booted.port.grant = none ∧ booted.power.wakeWrites = [])
      ∧ (cpu 0x2400 = some (.passing .plain) ∧ cpu 0x2020 = some (.held (.line 0 1)) ∧ cpu 0x100000 = none)
      ∧ (wakes.busFree = true ∧ wakes.port.procReq = none ∧ wakes.power.wakeWrites ≠ []) := by decide

/-- The band with another hold limit. -/
def withLimit (n : Nat) : State := booted.withBand 0 { booted.bands[0] with holdLimit := n }

/-- A write to the last byte of the GUARD window; a FETCHING slot; an unconsumed report slot; the first byte beyond a band's
lines; a line that passes; a line held with a limit, and with none. -/
theorem witness_WindowsTreatAccesses :
    let slots := holding kindMove .fetch [] booted
    let posted := booted.withReports { booted.reports with post := 1, unconsumed := [.boot] }
    (booted.busFree = true ∧ booted.ReachesWindows ⟨0x23FF, .writeByte 0⟩
        ∧ booted.windowAt (Access.at ⟨0x23FF, .writeByte 0⟩) = some 5 ∧ booted.windows[5].kind = .guard)
      ∧ (slots.busFree = true ∧ slots.ReachesWindows ⟨0x100F, .readByte⟩
        ∧ slots.windowAt (Access.at ⟨0x100F, .readByte⟩) = some 0 ∧ (slots.intake.slot 0).state = .fetching)
      ∧ (posted.busFree = true ∧ posted.ReachesWindows ⟨0x1100, .writeWord 0⟩
        ∧ posted.windowAt (Access.at ⟨0x1100, .writeWord 0⟩) = some 1 ∧ posted.reports.unconsumedSlot 0 = true)
      ∧ (booted.ReachesWindows ⟨0x2080, .readWord⟩ ∧ booted.windowAt (Access.at ⟨0x2080, .readWord⟩) = some 2
        ∧ booted.bandPlace (Access.at ⟨0x2080, .readWord⟩) = none)
      ∧ (booted.ReachesWindows ⟨0x201E, .readWord⟩ ∧ booted.bandPlace (Access.at ⟨0x201E, .readWord⟩) = some (0, 0, 30)
        ∧ booted.bands[0].judge 0 0 30 .readWord = .pass (.drain 0 0))
      ∧ (booted.ReachesWindows ⟨0x2020, .readWord⟩ ∧ booted.bandPlace (Access.at ⟨0x2020, .readWord⟩) = some (0, 1, 0)
        ∧ booted.bands[0].judge 0 1 0 .readWord = .hold ∧ booted.bands[0].holdLimit ≠ 0)
      ∧ ((withLimit 0).ReachesWindows ⟨0x2020, .writeWord 0⟩
        ∧ (withLimit 0).bandPlace (Access.at ⟨0x2020, .writeWord 0⟩) = some (0, 1, 0)
        ∧ (withLimit 0).bands[0].judge 0 1 0 (.writeWord 0) = .hold ∧ (withLimit 0).bands[0].holdLimit = 0)
      ∧ ((withLimit 0).ReachesWindows ⟨0x2020, .readWord⟩ ∧ (withLimit 0).bands[0].judge 0 1 0 .readWord = .hold) := by
  refine ⟨⟨?_, ?_, ?_⟩, ⟨?_, ?_, ?_⟩, ⟨?_, ?_, ?_⟩, ⟨?_, ?_⟩, ⟨?_, ?_⟩, ⟨?_, ?_⟩, ⟨?_, ?_⟩, ?_, ?_⟩
  all_goals first | exact reaches rfl (by decide) (by decide) | decide

theorem witness_HoldExpiryEndsTheHold :
    let x (op : AccessOp) : CpuAccess := ⟨⟨0x2020, op⟩, .held (.line 0 1), .running 255⟩
    let s (op : AccessOp) : State := booted.withCpu (some (x op))
    ((s (.writeWord 1)).passage.cpu = some (x (.writeWord 1)) ∧ opIsWrite (x (.writeWord 1)).acc.op = true)
      ∧ ((s .readByte).passage.cpu = some (x .readByte) ∧ opIsWrite (x .readByte).acc.op = false) := by decide

/-- A read of DRAM and a read of ROM. -/
theorem witness_GrantEndCompletesTheAccess :
    let s (st : CpuStatus) : State := granted (.processor .nothing) (accessing 0x3001 .readByte st booted)
    ((s (.passing .plain)).port.grant = some (.processor .nothing) ∧ (s (.passing .plain)).passage.cpu.isSome
        ∧ ∀ offset, CpuStatus.passing .plain ≠ .passing (.rom offset))
      ∧ (s (.passing (.rom 5))).passage.cpu.map (·.status) = some (.passing (.rom 5)) :=
  ⟨⟨rfl, rfl, by rintro o ⟨⟩⟩, rfl⟩

/-- Observations of an access given to the Band Unit: none; a fill of line F of the EMIT band, and one that the band no longer
takes; a drain of line D of the CAPTURE band, and one of a band now empty; an access out of turn. -/
theorem witness_GrantEndCompletesTheAccess_observed :
    let s (addr : Nat) (op : AccessOp) (b : Fin 4) (obs : Obs) : State :=
      granted (.processor obs) (accessing addr op (.passing (.band b (some obs))) booted)
    let fill := s 0x213E (.writeWord 7) 1 (.fill 1 1)
    let drain := s 0x201E .readWord 0 (.drain 0 0)
    let empty := drain.withBand 0 { drain.bands[0] with c := 0, f := 0 }
    let given (v : State) (obs : Obs) := v.port.grant = some (.processor obs) ∧ v.passage.cpu.isSome
      ∧ v.emitNow = none ∧ v.captureNow = none
    given (s 0x2000 .readWord 0 .nothing) .nothing
      ∧ (given fill (.fill 1 1) ∧ fill.bands[1].role = .emit ∧ fill.bands[1].f = 1
        ∧ fill.bands[1].c + fill.bands[1].filling < fill.bands[1].lines)
      ∧ (given (s 0x203E (.writeWord 7) 0 (.fill 0 1)) (.fill 0 1) ∧ booted.bands[0].role ≠ .emit)
      ∧ (given drain (.drain 0 0) ∧ drain.bands[0].role = .capture ∧ drain.bands[0].d = 0
        ∧ drain.bands[0].draining < drain.bands[0].c)
      ∧ (given empty (.drain 0 0) ∧ empty.bands[0].c = 0)
      ∧ given (s 0x203E .readWord 0 (.bandOrder 0)) (.bandOrder 0) := by decide

/-- A head write that posts slot 3, one that finds it POSTED, one that does not post; a head read that consumes a report,
and one with nothing to consume. -/
theorem witness_HeadAccessesAreObserved :
    let write (w : Word) (s : State) := granted (.processor .nothing) (accessing 0x1030 (.writeWord w) (.passing .plain) s)
    let busy := booted.withSlot 3 { state := .posted, kind := some 1, early := false }
    let read (s : State) := granted (.processor .nothing) (accessing 0x1110 .readWord (.passing .plain) s)
    let posted := booted.withReports { booted.reports with post := 2, consume := 1, unconsumed := [.boot] }
    ((write 0x1010 booted).hasOrders = true ∧ 3 < (write 0x1010 booted).intake.slots.length
        ∧ Access.at ⟨0x1030, .writeWord 0x1010⟩ = (write 0x1010 booted).slotAddr 3 ∧ bits 0x1010 5 4 = 1
        ∧ ((write 0x1010 booted).intake.slot 3).state = .free)
      ∧ ((write 0x1010 busy).intake.slot 3).state ≠ .free ∧ bits 0x1030 5 4 ≠ 1
      ∧ ((read posted).hasReports = true ∧ (read posted).reports.unconsumed ≠ []
        ∧ Access.at ⟨0x1110, .readWord⟩ = (read posted).reportAddr (read posted).reports.consume)
      ∧ (read booted).reports.unconsumed = [] := by decide

/-- A final write owed to the slot of a SLEEP, of slot 2. -/
def owing (s : State) : State :=
  s.withIntake { s.intake with finalWrites := [⟨.sleep, 2, kindSleep, .ok⟩] }

/-- A slot posted for an Intake that waits for it, its request free, in use, and with a final write that waits; and an
urgent one posted while the Intake waits for a queue. -/
theorem witness_HeadAccessesAreObserved_taken :
    let write (a : Nat) (w : Word) (s : State) := granted (.processor .nothing) (accessing a (.writeWord w) (.passing .plain) s)
    let next := write 0x1000 0x1010 booted
    let urgent := write 0x1030 0x0B10 (booted.withIntake { booted.intake with state := .dispatchWait })
    ((next.intake.slot 0).state = .free ∧ next.intake.inHand = none ∧ next.intake.state = .waiting ∧ next.intake.next = 0)
      ∧ (next.port.intakeReq = none ∧ next.intake.finalWrites = [] ∧ next.moverFree = false)
      ∧ ((next.withPort { next.port with intakeReq := some (.final ⟨.queue .p, 2, kindEmit, .ok⟩) }).port.intakeReq ≠ none
        ∧ (owing next).intake.finalWrites ≠ [] ∧ (owing next).intake.inHand = none)
      ∧ (urgent.intake.state = .dispatchWait ∧ 3 ≠ urgent.intake.next ∧ urgent.intake.next < urgent.intake.slots.length
        ∧ urgent.intake.urgentSlot = none ∧ BitVec.extractLsb' 8 8 (0x0B10 : Word) = kindAbort) := by decide

/-! ### Witnesses: the Memory Port, resets and boot -/

/-- One state for each claim of Table 1-5, with nothing of higher claim. -/
theorem witness_GrantsFollowTheClaims :
    let ask (p : Port) : State := booted.withPort p
    let p := booted.port
    let fetch := (emitting .printing).withPort { p with fetchReq := true }
    let report := booted.withReports { booted.reports with pending := [⟨.boot, 1, List.replicate 7 0⟩] }
    let mover : State := (ask { p with moverReq := some [.plain] }).withMover
      { Mover.reset with state := .reading, params := transferParams, chunkSize := 16 }
    let boot : State := booted.withBoot { booted.boot with state := .fill }
    ((granted .report booted).port.grant ≠ none ∧ booted.port.grant = none ∧ booted.port.dram = .active)
      ∧ (ask { p with refreshDue := true }).port.refreshDue = true
      ∧ (fetch.port.refreshDue = false ∧ fetch.port.selfAsked = false ∧ fetch.port.fetchReq = true
        ∧ fetch.emitNow.isSome ∧ fetch.emit.freeStore = some .a)
      ∧ (booted.fetchClaim = false ∧ (ask { p with captureReq := some .b }).port.captureReq = some .b)
      ∧ (booted.port.captureReq = none ∧ (ask { p with procReq := some .wakeWord }).port.procReq = some .wakeWord)
      ∧ ((accessing 0x3000 .readByte (.passing .plain) (ask { p with procReq := some .access })).passage.cpu.map (·.status)
          = some (.passing .plain))
      ∧ (booted.port.procReq = none ∧ (ask { p with intakeReq := some .fetch }).port.intakeReq = some .fetch)
      ∧ (booted.port.intakeReq = none ∧ report.reports.pending ≠ [] ∧ report.hasReports = true
        ∧ report.reports.unconsumed.length < report.reports.count)
      ∧ (mover.reportClaim = false ∧ mover.port.moverReq = some [.plain]
        ∧ mover.moverCut [.plain] mover.mover.next = (0 + 1, .nothing))
      ∧ (boot.port.grant = none ∧ boot.port.refreshDue = false ∧ boot.port.selfAsked = false ∧ boot.fetchClaim = false
        ∧ boot.port.captureReq = none ∧ boot.port.procReq = none ∧ boot.port.intakeReq = none ∧ boot.reportClaim = false
        ∧ boot.port.moverReq = none ∧ boot.bootJob = some (.fill 0))
      ∧ booted.port.refreshTimer = true ∧ (granted .refresh booted).port.grant = some .refresh := by decide

/-- Self-refresh asked with no refresh due; an access that completes, one of ROM, one of a band by its first judgement, and
one judged again that passes, is held with its limit, is held with none, and finds the band unmapped; a mover burst cut before its first word and before
its second. -/
theorem witness_GrantsFollowTheClaims_judged :
    let p := booted.port
    let asked := booted.withPort { p with selfAsked := true }
    let reads (addr : Nat) (st : CpuStatus) (s : State) : State :=
      accessing addr .readWord st (s.withPort { s.port with procReq := some .access })
    let unmapped := booted.withWindows (booted.windows.set 2 Window.none)
    let burst (a : Nat) (paths : List Path) : State := (booted.withPort { p with moverReq := some paths }).withMover
      { Mover.reset with state := .reading, chunkSize := 16, params := { transferParams with seg1 := ⟨a, 0x5000, 64⟩ } }
    let two := (burst 0x1FFE [.plain, .band 0 none]).withBand 0 { booted.bands[0] with c := 0, f := 0 }
    (asked.port.selfAsked = true ∧ asked.port.refreshDue = false)
      ∧ ((reads 0x3000 .completing booted).passage.cpu.map (·.status) = some .completing)
      ∧ ((reads 0x3000 (.passing (.rom 5)) booted).passage.cpu.map (·.status) = some (.passing (.rom 5)))
      ∧ ((reads 0x201E (.passing (.band 0 (some (.bandOrder 0)))) booted).passage.cpu.map (·.status)
          = some (.passing (.band 0 (some (.bandOrder 0)))))
      ∧ ((reads 0x2000 (.passing (.band 0 none)) booted).bandPlace 0x2000 = some (0, 0, 0)
        ∧ booted.bands[0].judge 0 0 0 .readWord = .pass .nothing)
      ∧ ((reads 0x2020 (.passing (.band 0 none)) booted).bandPlace 0x2020 = some (0, 1, 0)
        ∧ booted.bands[0].judge 0 1 0 .readWord = .hold ∧ booted.bands[0].holdLimit ≠ 0 ∧ (withLimit 0).bands[0].holdLimit = 0
        ∧ (withLimit 0).bands[0].judge 0 1 0 .readWord = .hold)
      ∧ (unmapped.bandPlace 0x2000 = none)
      ∧ ((burst 0x201E [.band 0 none]).moverCut [.band 0 none] 0 = (1, .drain 0 0)
        ∧ (burst 0x2020 [.band 0 none]).moverCut [.band 0 none] 0 = (0, .nothing)
        ∧ (burst 0x2020 [.band 0 none]).mover.access (0 + 0) = some ⟨0x2020, .readWord⟩)
      ∧ (two.moverCut [.plain, .band 0 none] 0 = (1, .nothing) ∧ two.mover.access (0 + 1) = some ⟨0x2000, .readWord⟩
        ∧ two.bandPlace 0x2000 = some (0, 0, 0)) := by decide

/-- With DRAM not ACTIVE: a ROM read of the processor, one of the Boot Unit, and a read of DRAM. -/
theorem witness_GrantsFollowTheClaims_rom :
    let slept := booted.withPort { booted.port with dram := .selfRefresh, procReq := some .access }
    let rom := accessing 0xE00000 .readWord (.passing (.rom 0)) slept
    let dram := accessing 0x3000 .readWord (.passing .plain) slept
    let boot : State := State.reset.withBoot { State.reset.boot with state := .header }
    (slept.port.dram ≠ .active ∧ rom.port.selfAsked = false ∧ rom.port.procReq = some .access
        ∧ rom.passage.cpu.map (·.status) = some (.passing (.rom 0)))
      ∧ (dram.passage.cpu.map (·.status) = some (.passing .plain) ∧ dram.bootJob = none)
      ∧ (boot.port.grant = none ∧ boot.port.dram = .unsized ∧ boot.passage.cpu = none ∧ boot.bootJob = some (.header 0x1FFF80))
      ∧ (booted.withPort { booted.port with refreshTimer := false }).port.refreshTimer = false := by decide

theorem witness_SupplyAndLineMoveThePart :
    let down := booted.losePower
    let line := State.reset.withResetLine true
    (down.pins.supply = false ∧ booted.pins.supply = true)
      ∧ (line.pins.resetLine = true ∧ line.pins.supply = true ∧ line.boot.state = .hold ∧ booted.pins.resetLine = false)
      ∧ (State.reset.boot.state = .hold ∧ State.reset.boot.holdDelay = true ∧ booted.boot.state ≠ .hold) := by decide

/-- A reset with a grant in progress, with none, and out of self-refresh; and the expiry that is the third lapse. -/
theorem witness_ResetsKeepTheDram :
    let slept := booted.withPort { booted.port with dram := .selfRefresh }
    let lapsing : State := (powered .wakeConfirm .confirming).withPower
      { (powered .wakeConfirm .confirming).power with lapse := 2 }
    (booted.pins.resetLine = false ∧ booted.pins.supply = true ∧ booted.port.grant = none ∧ booted.port.dram ≠ .selfRefresh)
      ∧ (granted .report booted).port.grant = some .report ∧ slept.port.dram = .selfRefresh
      ∧ (booted.withResetLine true).pins.resetLine = true
      ∧ (lapsing.power.state = .wakeConfirm ∧ lapsing.power.confirmTimer.isSome ∧ 2 ≤ lapsing.power.lapse) := by decide

theorem witness_RestartResetsAfterItsFinalWrite :
    let s := holding kindRestart .validate [] booted
    let t := granted (.intake (.own .ok)) (holding kindRestart (.ending .ok) [] booted)
    (s.orderInHand kindRestart).isSome
      ∧ (t.intake.inHand.map (·.kind) = some kindRestart ∧ t.port.grant = some (.intake (.own .ok)) ∧ Memory.wf t.dram) := by
  decide

/-! ### The boot header and its CRC -/

/-- The check values that R160 gives: the nine ASCII digits 1 to 9, and the single byte 00h. -/
theorem test_crc_check_values :
    [0x31, 0x32, 0x33, 0x34, 0x35, 0x36, 0x37, 0x38, 0x39].foldl crcByte crcPreset = 0x29B1
      ∧ crcByte crcPreset 0 = 0xE1F0 := by decide +kernel

/-- The first 48 words of the boot header of EXAMPLE 13, for a DRAM size: a guarded image of 60000h bytes at ROM offset 10000h,
32 order slots, 64 report slots, and its window entries. -/
def headerStart (mb : Word) : List Word :=
  [0x3140, mb, 1, 0x3F, 1, 0, 6, 0, 0x1234, 32, 64, 0]
    ++ [3, 0x3F00, 4, 4, 0x3F04, 8, 2, 0x1000, 0x200, 1, 0x0F00, 0x100, 0x102, 0x0400, 0x100, 0x202, 0x1100, 0x100]
    ++ List.replicate 18 0

/-- Its last 16 words, with the header CRC in word 62. -/
def headerEnd (mb : Word) : List Word :=
  List.replicate 14 0 ++ [crcWords crcPreset (headerStart mb ++ List.replicate 14 0), 0]

/-- A part that reads the last burst of its header, after some attempts. -/
def readingHeader (first last : List Word) (attempts : Nat) : State :=
  let s := State.reset
  granted (.boot (.header 0x1FFFE0)) { s with
    rom := (wordTransfers 0x1FFFE0 last).flatten
    boot := { s.boot with state := .header, headerWords := first, headerAttempts := attempts } }

/-- EXAMPLE 13, event 4: the header is applied, entries 4 and 5 are set OFF and counted, and FILL follows. -/
theorem test_example13_header_applied :
    let t := after (.headerReadEnd []) (readingHeader (headerStart 4) (headerEnd 4) 0)
    t.boot.entriesOff = 2 ∧ t.windows.toList.map (·.kind) = [.orders, .reports, .band, .guard, .off, .off, .off, .off]
      ∧ t.boot.state = .fill ∧ t.port.dram = .active ∧ t.boot.headerAttempts = 1 := by decide +kernel

/-! ### Witnesses: boot -/

/-- A good header of the largest DRAM size. -/
theorem witness_GoodHeadersSetUpTheMachine :
    let s := readingHeader (headerStart 8) (headerEnd 8) 0
    let ws := s.boot.headerWords ++ misreadWords [] (s.romWords 0x1FFFE0 16)
    s.port.grant = some (.boot (.header 0x1FFFE0)) ∧ s.boot.headerWords.length = 48 ∧ headerGood ws = true
      ∧ (headerOf ws).usable = true ∧ s.passage.mode = .noOverlay ∧ (∀ e : Fin 8, s.windows[e].kind = .off)
      ∧ s.boot.outcome = none := by decide +kernel

/-- In that header entry 0 suits and lies within the limits, and entry 4 begins below the image's end. -/
theorem witness_GoodHeadersSetUpTheMachine_entries :
    let h := headerOf (headerStart 8 ++ headerEnd 8)
    let x := h.entries[0]
    (x.kind = 3 ∧ 4 ≤ h.orderSlots ∧ h.orderSlots ≤ 64 ∧ 16 * h.orderSlots ≤ x.length)
      ∧ (x.base % 256 = 0 ∧ x.length % 256 = 0 ∧ 256 ≤ x.length ∧ x.base + x.length ≤ h.dramMb * 0x100000
        ∧ h.imageLength ≤ x.base)
      ∧ (h.entries[4].kind = 2 ∧ h.entries[4].base < h.imageLength) := by decide +kernel

/-- A bad header at the seventh attempt and at the eighth, and a good header of 9 MB. -/
theorem witness_BadHeadersGiveTheDefaults :
    let bad (attempts : Nat) := readingHeader (headerStart 8) (List.replicate 16 0) attempts
    let nine := readingHeader (headerStart 9) (headerEnd 9) 0
    let ws (s : State) := s.boot.headerWords ++ misreadWords [] (s.romWords 0x1FFFE0 16)
    (48 ≤ (bad 6).boot.headerWords.length ∧ headerGood (ws (bad 6)) = false ∧ (bad 6).boot.headerAttempts + 1 < 8)
      ∧ (headerGood (ws (bad 7)) = false ∧ 8 ≤ (bad 7).boot.headerAttempts + 1)
      ∧ headerGood (ws nine) = true ∧ (headerOf (ws nine)).usable = false := by decide +kernel

/-- The part in a boot state, with a header of an image length, at a place, with a Boot Unit grant. -/
def booting (x : BootState) (length pos : Nat) (job : BootJob) : State :=
  granted (.boot job) (booted.withBoot { booted.boot with
    state := x, header := some { headerOf (headerStart 4) with imageLength := length }, pos := pos
    outcome := some .noHeader })

/-- A burst in the course of a header, a fill and a copy, and the last of each; a CRC that is right, wrong, and wrong at the
eighth attempt. -/
theorem witness_BootBurstsReadAndWrite :
    let s := readingHeader [] [] 0
    let copy (pos : Nat) : State :=
      let v := booting .copy 64 pos (.copyWrite pos (List.replicate 16 0))
      v.withBoot { v.boot with buffer := List.replicate 16 0 }
    let tried (n : Nat) : State := (copy 32).withBoot { (copy 32).boot with copyAttempts := n, crc := 1 }
    let crc := (headerOf (headerStart 4)).imageCrc
    (s.port.grant = some (.boot (.header 0x1FFFE0)) ∧ s.boot.headerWords.length < 48)
      ∧ ((booting .fill 64 0xFFFC0 (.fill 0xFFFC0)).boot.pos + 32 < booted.installed)
      ∧ (booting .copy 64 0 (.copyRead 0 16)).port.grant = some (.boot (.copyRead 0 16))
      ∧ ((copy 0).boot.header.isSome ∧ (copy 0).boot.pos + 2 * (copy 0).boot.buffer.length < 64)
      ∧ booted.installed ≤ (booting .fill 64 0xFFFE0 (.fill 0xFFFE0)).boot.pos + 32
      ∧ (64 ≤ (copy 32).boot.pos + 2 * (copy 32).boot.buffer.length)
      ∧ ((copy 32).withBoot { (copy 32).boot with crc := crc }).boot.crc = crc
      ∧ ((tried 6).boot.crc ≠ crc ∧ (tried 6).boot.copyAttempts + 1 < 8)
      ∧ ((tried 7).boot.crc ≠ crc ∧ 8 ≤ (tried 7).boot.copyAttempts + 1) := by decide +kernel

/-- What is asked in each boot state, with the copy buffer empty and filled. -/
theorem witness_BootBurstsReadAndWrite_asked :
    let s (x : BootState) (buffer : List Word) : State :=
      let v := booting x 64 32 .record
      v.withBoot { v.boot with buffer := buffer }
    ((s .header []).boot.state = .header ∧ (s .fill []).bootJob = some (.fill 32))
      ∧ ((s .copy []).boot.header.map (·.imageOffset) = some 0x10000 ∧ (s .copy []).boot.buffer = [])
      ∧ ((s .copy []).bootJob = some (.copyRead 0x10020 16) ∧ (s .copy [7]).bootJob = some (.copyWrite 32 [7]))
      ∧ ((s .release []).bootJob = some .record ∧ (s .done []).bootJob = none) := by decide +kernel

/-- The three outcomes. -/
theorem witness_ReleaseSetsTheOverlay :
    let s (x : BootOutcome) : State :=
      let v := booting .release 64 0 .record
      v.withBoot { v.boot with outcome := some x }
    ((s .shadow).port.grant = some (.boot .record) ∧ (s .shadow).boot.outcome = some .shadow
        ∧ (s .shadow).boot.header.map (·.imageLength) = some 64)
      ∧ ((s .checkFailed).boot.outcome = some .checkFailed ∧ (s .checkFailed).boot.header.map (·.imageLength) = some 64)
      ∧ (s .noHeader).boot.outcome = some .noHeader ∧ (s .noHeader).hasReports = true
      ∧ (s .noHeader).reports.pending = [] := by decide

/-! ### Witnesses: the Order Intake -/

/-- An order whose body is fetched; taken orders in RUNNING, in SLEEP_PENDING, and in the stages of WAKE_CONFIRM. -/
theorem witness_TakenOrdersAreInHand :
    let fetched := granted (.intake .fetch) (holding kindMove .fetch [] booted)
    let taken (s : State) := granted (.intake .taken) (holding 0x77 .taken [] s)
    (fetched.intake.inHand.isSome ∧ fetched.port.grant = some (.intake .fetch))
      ∧ ((taken booted).intake.inHand.isSome ∧ (taken booted).port.grant = some (.intake .taken)
        ∧ (taken booted).power.state = .running)
      ∧ ((taken (powered .sleepPending .confirming)).power.state = .sleepPending
        ∧ (taken (powered .sleepPending .confirming)).power.settings.isSome)
      ∧ (∀ st : Fin 5, let stage := [ConfirmStage.waking, .confirming, .stopClock, .postReports, .awaitRefresh][st]
        (taken (powered .wakeConfirm stage)).power.state = .wakeConfirm
          ∧ (taken (powered .wakeConfirm stage)).power.stage = stage) := by decide

/-- The final writes of an order taken in turn, of one taken out of turn, of a SLEEP, and of a queued order with and
without one that waits behind it. -/
theorem witness_FinalWritesFreeTheSlot :
    let own := granted (.intake (.own .ok)) (holding kindSetBand (.ending .ok) [] booted)
    let urgent := own.withIntake { own.intake with next := 3, inHand := own.intake.inHand.map fun h => { h with urgent := true } }
    let w (o : WriteOwner) : FinalWrite := { owner := o, slot := 1, kind := kindMove, result := .ok }
    let ended := granted (.intake (.final (w (.queue .d)))) (running .d (.move (moveParams none)) .entered booted)
    let next := ended.withIntake { ended.intake with
      dQueue := { ended.intake.dQueue with waiting := [{ orderOf (.move (moveParams none)) with slot := 2 }] } }
    (own.intake.inHand.map (fun h => (h.slot, h.kind, h.urgent)) = some (0, kindSetBand, false)
        ∧ own.port.grant = some (.intake (.own .ok)) ∧ kindSetBand ≠ kindRestart
        ∧ (∀ i : Fin 4, (own.intake.slot i).early = false) ∧ own.passage.cpu = none)
      ∧ (urgent.intake.inHand.map (·.urgent) = some true ∧ urgent.intake.next ≠ 0)
      ∧ (granted (.intake (.final (w .sleep))) booted).port.grant = some (.intake (.final (w .sleep)))
      ∧ ((ended.running .d).map (·.stage) = some .entered ∧ (ended.intake.queue .d).waiting = [] ∧ ended.intake.dispatch = none)
      ∧ ((next.running .d).map (·.stage) = some .entered ∧ (next.intake.queue .d).waiting ≠ []) := by decide

/-- The next slot POSTED with no order that waits for a queue, and a processor access held on the slot that becomes FREE. -/
theorem witness_FinalWritesFreeTheSlot_next :
    let own := granted (.intake (.own .ok)) (holding kindSetBand (.ending .ok) [] booted)
    let posted := own.withSlot 1 { state := .posted, kind := some kindMove, early := false }
    let held := accessing 0x1002 .readWord (.held (.slot 0)) own
    ((own.intake.next + 1) % own.intake.slots.length = 1 ∧ posted.hasOrders = true ∧ posted.intake.dispatch = none
        ∧ posted.intake.finalWrites = [] ∧ posted.port.intakeReq = none ∧ posted.moverFree = false
        ∧ (posted.intake.slot 1).state = .posted ∧ (posted.intake.slot 1).kind = some kindMove)
      ∧ (0 < held.intake.slots.length ∧ held.passage.cpu.map (·.status) = some (.held (.slot 0))
        ∧ held.classify .processor ⟨0x1002, .readWord⟩ = .hold (.slot 0)) := by decide

/-- A marked order behind one that leaves its queue: a MOVE of queue D, and a TRANSFER. -/
theorem witness_FinalWritesFreeTheSlot_marked :
    let w (q : QueueId) : FinalWrite := { owner := .queue q, slot := 1, kind := kindMove, result := .ok }
    let s (q : QueueId) (x : Work) : State := granted (.intake (.final (w q))) (running q x .entered booted)
    let behind (q : QueueId) (x : Work) : State := (s q x).withIntake
      ((s q x).intake.withQueue q { (s q x).intake.queue q with waiting := [{ orderOf x with slot := 2, marked := true }] })
    let d := behind .d (.move (moveParams none))
    let m := behind .mover (.transfer transferParams)
    (QueuesLegal d ∧ QueuesLegal m)
      ∧ (d.port.grant = some (.intake (.final (w .d))) ∧ (d.running .d).map (·.stage) = some .entered
        ∧ (d.intake.queue .d).waiting.map (·.marked) = [true])
      ∧ (m.port.grant = some (.intake (.final (w .mover)))
        ∧ (m.running .mover).map (fun r => (r.stage, r.order.work)) = some (.entered, .transfer transferParams)
        ∧ (m.intake.queue .mover).waiting.map (·.marked) = [true])
      ∧ (d.hasReports = true ∧ d.reports.pending.length < 8 ∧ d.emitNow = none) :=
  ⟨⟨queuesLegal_of_ok (by decide), queuesLegal_of_ok (by decide)⟩, by decide, by decide, by decide⟩

/-- The part whose running MOVE of queue D has made its final write, with four orders behind it and one in the dispatch
place. -/
def makesRoom (x : Work) : State :=
  let o (n : Nat) (w : Work) : Order := { orderOf w with slot := n }
  let move := Work.move (moveParams none)
  let s := granted (.intake (.final ⟨.queue .d, 1, kindMove, .ok⟩)) (running .d move .entered booted)
  s.withIntake { s.intake with
    next := 3, state := .dispatchWait, dispatch := some (o 3 x)
    dQueue := { s.intake.dQueue with waiting := [o 2 move, o 2 move, o 2 move, o 2 move] }
    pQueue := { running := some { order := o 2 (.emit emitParams), stage := .offered, result := .ok, figures := [] },
                waiting := List.replicate 4 (o 2 (.emit emitParams)) } }

/-- Room made for the order in the dispatch place, slot N then POSTED or not, and with an urgent order in hand; and an order
in the dispatch place that is bound for another queue, which is full. -/
theorem witness_FinalWritesFreeTheSlot_enters :
    let room := makesRoom (.move (moveParams none))
    let posted := room.withSlot 0 { state := .posted, kind := some kindMove, early := false }
    let urgent := holding kindAbort .validate [0] room
    let other := makesRoom (.emit emitParams)
    (QueuesLegal room ∧ QueuesLegal other)
      ∧ ((room.running .d).map (·.stage) = some .entered ∧ room.intake.dispatch.map (·.work.queue) = some .d
        ∧ (room.intake.queue .d).waiting.length = 4 ∧ (∀ i : Fin 4, (room.intake.slot i).early = false)
        ∧ (room.intake.slot ((room.intake.next + 1) % 4)).state ≠ .posted ∧ room.intake.inHand = none)
      ∧ ((posted.intake.slot 0).state = .posted ∧ posted.hasOrders = true
        ∧ (posted.running .d).map (·.order.slot) ≠ some 0)
      ∧ (urgent.intake.inHand.map (·.stage) = some .validate)
      ∧ (other.intake.dispatch.map (·.work.queue) = some .p ∧ 4 ≤ (other.intake.queue .p).waiting.length) :=
  ⟨⟨queuesLegal_of_ok (by decide), queuesLegal_of_ok (by decide)⟩, by decide, by decide, by decide, by decide⟩

/-- R33: the order in the dispatch place enters its queue when a final write makes room there, and N advances. -/
theorem test_room_lets_the_dispatched_order_enter :
    let t := after .finalWriteEnd (makesRoom (.move (moveParams none)))
    (t.intake.queue .d).waiting.map (·.slot) = [2, 2, 2, 3] ∧ t.intake.dispatch = none ∧ t.intake.next = 0
      ∧ t.intake.state = .waiting := by decide +kernel

/-- The last slot has the early mark and slot 0 has not: N goes on from slot 2 past slot 3. -/
theorem witness_PointerPassesMarkedSlots :
    let i : Intake := { booted.intake with next := 2, slots := booted.intake.slots.set 3 { SlotRecord.reset with early := true } }
    let n := i.slots.length
    i.next < n ∧ 1 < n ∧ (∀ j, j < 1 → (i.slot ((i.next + 1 + j) % n)).early = true)
      ∧ (i.slot ((i.next + 1 + 1) % n)).early = false := by decide

/-! ### Witnesses: immediate orders -/

/-- SET WINDOW on entry 6: entries out of range on either side, kind 3, a range that meets another entry, band number 4, a
GUARD of 256 bytes at the end of DRAM, a BAND of band 3; and on the entry of a band that an order uses and of one that
none does. -/
theorem witness_WindowOrdersAreJudged :
    let asks (ws : List Word) (s : State) := holding kindSetWindow .validate ws s
    let used := running .d (.capture captureParams) .active booted
    ((asks [0x0006] booted).orderInHand kindSetWindow).isSome
      ∧ (bits 0x0001 7 0 < 2 ∧ 7 < bits 0x0008 7 0 ∧ 2 < bits 0x0306 11 8)
      ∧ (bits 0x0106 7 0 = 6 ∧ bits 0x0106 11 8 = 1 ∧ booted.rangeOk 6 0x2300 256 = false)
      ∧ (bits 0x4206 11 8 = 2 ∧ 3 < bits 0x4206 15 12)
      ∧ booted.rangeOk 6 0xFFF00 256 = true ∧ (bits 0x3206 11 8 = 2 ∧ bits 0x3206 15 12 ≤ 3)
      ∧ booted.entryBand 6 = none ∧ (used.entryBand 2 = some 0 ∧ used.bandInUse 0 = true)
      ∧ (booted.entryBand 2 = some 0 ∧ booted.bandInUse 0 = false)
      ∧ ((holding kindClearWindow .validate [2] booted).orderInHand kindClearWindow).isSome := by decide

/-- CLEAR WINDOW on the entry of band 0, with an access and a mover word held on the band and its notice waiting: one event
ends all three. -/
theorem test_unmapping_ends_holds_and_notice :
    let s := accessing 0x2020 (.writeWord 1) (.held (.line 0 1)) (holding kindClearWindow .validate [2] booted)
    let m := s.withMover { Mover.reset with
      state := .held, heldOn := some (0, 2), chunkSize := 16, params := { transferParams with seg1 := ⟨0x2040, 0x5000, 64⟩ } }
    let t := after .clearWindow
      (m.withReports { m.reports with waiting := [⟨.band, .notice 0 ⟨.band, 1, List.replicate 7 0⟩⟩] })
    m.entryBand 2 = some 0 ∧ m.bandInUse 0 = false ∧ t.windows[2] = Window.none ∧ t.bands[0].role = .off
      ∧ t.passage.cpu = none ∧ t.mover.heldOn = none ∧ t.reports.waiting = []
      ∧ t.reports.pending.map (fun r => (r.cls, r.code)) = [(.passage, 4), (.passage, 4)] := by decide

/-- A processor write and a mover word held on band 0, and a part with neither. -/
theorem witness_CancellationsEndHolds :
    let cpu := accessing 0x2020 (.writeWord 1) (.held (.line 0 1)) booted
    let mover := booted.withMover { Mover.reset with state := .held, heldOn := some (0, 1), params := transferParams }
    (cpu.passage.cpu.map (·.status) = some (.held (.line 0 1)))
      ∧ (booted.passage.cpu = none ∧ booted.mover.state ≠ .held)
      ∧ (mover.mover.state = .held ∧ mover.mover.heldOn = some (0, 1)) := by decide

/-- A mover word held on band 0 while the mover's own grant runs, an access not held on band 0, and accesses held on a line
that is FULL again and on one that is not. -/
theorem witness_CancellationsEndHolds_more :
    let mover := booted.withMover { Mover.reset with state := .held, heldOn := some (0, 1), params := transferParams }
    let cut := granted (.mover 1 .nothing) mover
    let other := accessing 0x2120 (.writeWord 1) (.held (.line 1 0)) booted
    let held (line : Nat) : State := booted.withCpu
      (some ⟨⟨0x2000 + 32 * line, .readWord⟩, .held (.line 0 line), .running 255⟩)
    (cut.mover.state = .held ∧ cut.mover.heldOn = some (0, 1) ∧ cut.port.grant = some (.mover 1 .nothing))
      ∧ other.passage.cpu.map (·.status) = some (.held (.line 1 0))
      ∧ (held 0).classify .processor ⟨0x2000, .readWord⟩ = .pass (.band 0 (some .nothing))
      ∧ (held 1).classify .processor ⟨0x2020, .readWord⟩ = .hold (.line 0 1) := by decide

/-- Bands 4 and roles 4; a band of 1024 lines is too long for its entry, one of 8 lines of 32 bytes fits it exactly. -/
theorem witness_SetBandMakesTheRecord :
    let asks (ws : List Word) (s : State) := holding kindSetBand .validate ws s
    let fit : List Word := [0x2100, 32, 32, 8, 255, 8]
    let used := running .d (.capture captureParams) .active booted
    ((asks fit booted).orderInHand kindSetBand).isSome ∧ (3 < bits 0x2004 7 0 ∧ 3 < bits 0x2400 11 8)
      ∧ (bits 0x2100 7 0 = 0 ∧ bits 0x2100 11 8 = 1 ∧ booted.bandFits 0 (bandOf .capture [0x2100, 32, 32, 9, 0, 0]) = false)
      ∧ booted.bandFits 0 (bandOf .capture fit) = true ∧ used.bandFits 0 (bandOf .capture fit) = true
      ∧ used.bandInUse 0 = true ∧ booted.bandInUse 0 = false ∧ bits 0x2000 11 8 = 0 := by decide

theorem witness_ResetBandBeginsAPage :
    let asks (w : Word) (s : State) := holding kindResetBand .validate [w] s
    let used := running .d (.capture captureParams) .active booted
    ((asks 4 booted).orderInHand kindResetBand).isSome ∧ 3 < bits 4 7 0 ∧ bits 0xFF03 7 0 = 3
      ∧ (asks 0 used).bandInUse 0 = true ∧ (asks 0 booted).bandInUse 0 = false := by decide

/-- SET PROFILE of profile 8, from an odd address, from 65 bytes below the end of DRAM and from 66; of a running order; and
the reads of a header word of 0, 16 and 17 levels, of a part of the levels, of a bad level and of the extreme ones. -/
theorem witness_ProfilesAreReadWhole :
    let asks (n hi lo : Word) (s : State) := holding kindSetProfile .validate [n, hi, lo] s
    let runs := running .d (.move (moveParams none)) .active booted
    let reads (ws : List Word) (total k : Nat) : State := granted (.intake (.read 0x3000 k))
      (holding kindSetProfile (.reading 0x3000 ws total) [0, 0, 0x3000] booted)
    ((asks 8 0 0x3000 booted).orderInHand kindSetProfile).isSome
      ∧ (7 < bits 8 7 0 ∧ addressPair 0 0x3001 % 2 = 1 ∧ booted.installed < addressPair 0xF 0xFFC0 + 66)
      ∧ addressPair 0xF 0xFFBE + 66 ≤ booted.installed
      ∧ (runs.profileRuns .d 0 = true ∧ runs.profileRuns .d 1 = false ∧ runs.profileRuns .p 1 = false)
      ∧ ((reads [] 1 1).intake.inHand.map (·.stage) = some (.reading 0x3000 [] 1)
        ∧ (reads [] 1 1).port.grant = some (.intake (.read 0x3000 1))
        ∧ ((([] ++ (reads [] 1 1).dramWords 0x3000 1).getD 0 0).toNat < 1))
      ∧ (((reads [] 1 1).store (wordBytes 0x3000 16)).dramWords 0x3000 1 = [16]
        ∧ ((reads [] 1 1).store (wordBytes 0x3000 17)).dramWords 0x3000 1 = [17])
      ∧ ([2] ++ (reads [2] 5 2).dramWords 0x3000 2).length < 5
      ∧ (profileLevels [16, 1, 4095, 255] = [⟨16, 1⟩, ⟨4095, 255⟩] ∧ (profileLevels [16, 1, 4095, 255]).all Level.inRange
        ∧ Level.inRange ⟨15, 1⟩ = false ∧ Level.inRange ⟨4096, 1⟩ = false ∧ Level.inRange ⟨16, 256⟩ = false) := by decide

/-- SET CHANNEL with a channel, mode or level out of range and at its bound; a channel that runs an order, that is OFF and
that is HOLDING; hold times 0, 254 and 255; masks of 63 and 64. -/
theorem witness_SettingsAreReplaced :
    let asks (k : Byte) (ws : List Word) (s : State) := holding k .validate ws s
    let runs := running .p (.emit emitParams) .active booted
    ((asks kindSetChannel [0x0100, 0x1010, 0] booted).orderInHand kindSetChannel).isSome
      ∧ (1 < bits 0x0102 7 0 ∧ 1 < bits 0x0200 15 8 ∧ 16 < bits 0x0011 7 0 ∧ 16 < bits 0x1100 15 8)
      ∧ (bits 0x0100 7 0 = 0 ∧ bits 0x0101 7 0 = 1 ∧ bits 0x0100 15 8 ≤ 1 ∧ bits 0x1010 7 0 ≤ 16 ∧ bits 0x1010 15 8 ≤ 16)
      ∧ (runs.running (chanQueue .p) ≠ none ∧ runs.running (chanQueue .d) = none)
      ∧ ((booted.chan .d).state ≠ .holding ∧ ((chanDIn .holding booted).chan .d).state = .holding)
      ∧ (bits 0x0100 7 0 = 0 ∧ bits 0x00FF 7 0 = 255 ∧ bits 0x00FE 7 0 ≠ 255)
      ∧ ((asks kindSetAttention [63, 63] booted).orderInHand kindSetAttention).isSome
      ∧ ((64 : Word).toNat ≥ 64 ∧ (63 : Word).toNat < 64) := by decide

/-- The bounds of the settings, and one beyond them; the qualifier as a SET RINGING leaves it. -/
theorem witness_SetRingingStartsAfresh :
    let low : List Word := [10, 10, 0x0101, 0x0101, 1]
    let high : List Word := [100, 100, 0x3C3C, 0x3C0F, 255]
    let s := holding kindSetRinging .validate low booted
    (s.orderInHand kindSetRinging).isSome ∧ (ringSettingsOf low).valid = true ∧ (ringSettingsOf high).valid = true
      ∧ (ringSettingsOf [9, 10, 0x0101, 0x0101, 1]).valid = false
      ∧ (ringSettingsOf [11, 10, 0x0101, 0x0101, 1]).valid = false
      ∧ (booted.ring = { settings := booted.ring.settings, burst := none, qualified := 0, window := false, noise := 0,
                         muted := false, heldMuted := booted.ring.heldMuted } ∧ booted.boot.state = .done) := by decide

/-- SLEEP with an odd rest address; with no source; with RINGING while muted; while an order runs; with a pattern and
without. The pattern table read in part, whole and good, and whole with a hold time of 0. -/
theorem witness_SleepIsJudgedAndAccepted :
    let body (rest causes : Word) : List Word := [0, rest, causes, 9, 0, 0x3000]
    let asks (rest causes : Word) (s : State) := holding kindSleep .validate (body rest causes) s
    let params (rest causes : Word) := booted.sleepParams (wakeSettingsOf (body rest causes) 0) 0x3000
    let muted := booted.withRing { booted.ring with muted := true }
    let reads (ws : List Word) : State := granted (.intake (.read 0x3000 1))
      (holding kindSleep (.reading 0x3000 ws 8) (body 0x6000 0x0201) booted)
    ((asks 0x6001 0x2001 booted).orderInHand kindSleep).isSome
      ∧ (params 0x6001 0x2001 = false ∧ params 0x6000 0x2000 = false ∧ params 0x6000 0x2001 = true)
      ∧ (let w := wakeSettingsOf (body 0x6000 0x0001) 0
        params 0x6000 0x0001 = true ∧ w.ringing = false ∧ w.timerOn = false ∧ w.patternOn = 0)
      ∧ (params 0x6000 0x0101 = true ∧ (wakeSettingsOf (body 0x6000 0x0101) 0).ringing = true ∧ muted.ring.muted = true)
      ∧ ((running .d (.move (moveParams none)) .active booted).running .d ≠ none)
      ∧ ((∀ q : Fin 3, let x := [QueueId.d, .p, .mover][q]
          booted.running x = none ∧ (booted.intake.queue x).waiting = []) ∧ booted.intake.dispatch = none
        ∧ booted.power.state = .running)
      ∧ (params 0x6000 0x1E01 = true ∧ (wakeSettingsOf (body 0x6000 0x1E01) 0).patternOn = 0xF
        ∧ (wakeSettingsOf (body 0x6000 0x2001) 0).patternOn = 0)
      ∧ (∀ i : Fin 4, (booted.intake.slot i).early = false) ∧ booted.passage.cpu = none
      ∧ ((reads []).port.grant = some (.intake (.read 0x3000 1))
        ∧ ([] ++ (reads []).dramWords 0x3000 1).length < 8
        ∧ 8 ≤ (List.replicate 7 (0 : Word) ++ (reads (List.replicate 7 0)).dramWords 0x3000 1).length)
      ∧ ((patternAt [0x003F, 1] 0).valid = true ∧ (patternAt [0x003F, 0] 0).valid = false
        ∧ (patternAt [0x0040, 1] 0).valid = false) := by decide

/-- ABORT of queue 3; of a queue that runs a MOVE in motion and of ones whose report waits; EMIT END with an open EMIT and
with none. -/
theorem witness_UrgentOrdersAct :
    let asks (w : Word) (s : State) := holding kindAbort .validate [w] s
    let scanned := asks 0 (running .d (.capture captureParams) .offered (capturing .done))
    let printed := asks 1 (running .p (.emit emitParams) .offered (emitting .done))
    let moves := asks 0 (chanDIn .moving (running .d (.move (moveParams none)) .active booted))
    let offered := asks 1 (running .p (.emit emitParams) .offered booted)
    let closes (s : State) := holding kindEmitEnd .validate [] s
    let opened := closes ((emitting .printing).withRunning .p
      (some { order := orderOf (.emit { emitParams with lineCount := 0 }), stage := .active, result := .ok, figures := [] }))
    ((asks 3 booted).orderInHand kindAbort).isSome ∧ 2 < bits 3 7 0 ∧ bits 2 7 0 = 2
      ∧ ((moves.running .d).map (fun r => (r.order.marked, r.stage)) = some (false, .active)
        ∧ (moves.chan .d).state = .moving ∧ moves.power.state ≠ .wakeConfirm)
      ∧ (offered.running .p).map (fun r => (r.order.marked, r.stage)) = some (false, .offered)
      ∧ ((scanned.running .d).map (fun r => (r.order.marked, r.stage, r.order.work))
          = some (false, .offered, .capture captureParams) ∧ scanned.capture.record.isSome)
      ∧ ((printed.running .p).map (fun r => (r.order.marked, r.stage, r.order.work))
          = some (false, .offered, .emit emitParams) ∧ printed.emit.record.isSome)
      ∧ ((closes booted).orderInHand kindEmitEnd).isSome ∧ (closes booted).openEmitRuns = false
      ∧ (opened.orderInHand kindEmitEnd).isSome ∧ opened.openEmitRuns = true ∧ opened.emitNow.isSome := by decide

/-- ABORT of a CAPTURE with a line CLOCKING and one WRITING, with none, and in DONE; of an EMIT with and without a line under
heat; of a TRANSFER without and with its grant running, and found in ENDING with its final write owed. -/
theorem witness_UrgentOrdersAct_engines :
    let asks (w : Word) (s : State) := holding kindAbort .validate [w] s
    let busy := asks 0 ((capturing .scanning).withCapture
      { (capturing .scanning).capture with storeA := .clocking 2, storeB := .writing 1 [] })
    let idle (phase : CapturePhase) := asks 0 (capturing phase)
    let print (x : PrintState) := asks 1 ((emitting .printing).withEmit
      { (emitting .printing).emit with storeA := { state := x, line := 0, words := [] } })
    let move (stage : RunStage) (x : MoverState) := asks 2 ((running .mover (.transfer transferParams) stage booted).withMover
      { Mover.reset with state := x, params := transferParams, chunkSize := 16, heldOn := some (0, 1) })
    let owed := (move .entered .ending).withIntake
      { (move .entered .ending).intake with finalWrites := [⟨.queue .mover, 1, kindTransfer, .ok⟩] }
    (busy.captureNow.map (·.2.phase) = some .scanning ∧ busy.capture.clocking = some .a
        ∧ busy.capture.store .b = .writing 1 [] ∧ busy.chanD.state = .moving)
      ∧ ((idle .done).captureNow.map (·.2.phase) = some .done ∧ (idle .scanning).capture.clocking = none
        ∧ (idle .scanning).capture.storeA = .empty ∧ (idle .scanning).capture.storeB = .empty)
      ∧ ((print .strobing).emitNow.map (·.2.phase) = some .printing ∧ (print .strobing).emit.strobing = some .a)
      ∧ ((print .fetched).emitNow.map (·.2.phase) = some .printing ∧ (print .fetched).emit.strobing = none
        ∧ (print .fetched).chanP.state = .moving)
      ∧ ((move .active .held).running .mover).map (fun x => (x.stage, x.order.marked)) = some (.active, false)
      ∧ ((move .active .held).mover.state = .held ∧ (move .active .held).port.grant = none)
      ∧ (granted (.mover 4 .nothing) (move .active .writing)).port.grant = some (.mover 4 .nothing)
      ∧ ((owed.running .mover).map (·.stage) = some .entered ∧ owed.mover.state = .ending) := by decide

/-- R142: an ABORT leaves none of the words that a TRANSFER has read and not written. -/
theorem test_abort_discards_the_chunk_buffer :
    let s := holding kindAbort .validate [2] ((running .mover (.transfer transferParams) .active booted).withMover
      { Mover.reset with state := .writing, params := transferParams, chunkSize := 16, buffer := [some 1, some 2] })
    (after .abort s).mover.state = .ending ∧ (after .abort s).mover.buffer = [] := by decide

/-- EMIT END for an open EMIT in motion, PAUSED with a line ready, and PAUSED with none, with a tail feed and without. -/
theorem witness_UrgentOrdersAct_closes :
    let opened (x : ChanState) (tail c : Nat) : State :=
      let p := { emitParams with lineCount := 0, tailFeed := tail }
      let v := chanPIn x ((running .p (.emit p) .active booted).withEmit
        { booted.emit with record := some { EmitRecord.start with phase := .printing } })
      holding kindEmitEnd .validate [] (v.withBand 1 { v.bands[1] with c := c, f := c })
    ((opened .moving 3 0).openEmitRuns = true ∧ (opened .moving 3 0).chanP.state ≠ .paused)
      ∧ ((opened .paused 3 1).openEmitRuns = true ∧ (opened .paused 3 1).bands[1].c ≠ 0)
      ∧ ((opened .paused 0 0).emitNow.map (·.1.tailFeed) = some 0 ∧ (opened .paused 0 0).chanP.state = .paused
        ∧ (opened .paused 0 0).bands[1].c = 0)
      ∧ ((opened .paused 3 0).openEmitRuns = true ∧ (opened .paused 3 0).emitNow.map (·.1.tailFeed) = some 3
        ∧ ((opened .paused 3 0).orderInHand kindEmitEnd).isSome) := by decide

/-! ### Witnesses: queued orders -/

/-- The part whose queue D runs an order and has four more waiting. -/
def fullD : State :=
  (running .d (.move (moveParams none)) .active booted).withIntake
    { (running .d (.move (moveParams none)) .active booted).intake with
      dQueue := { running := some { order := orderOf (.move (moveParams none)), stage := .active, result := .ok, figures := [] },
                  waiting := List.replicate 4 (orderOf (.move (moveParams none))) } }

/-- A MOVE on channel D that passes and one of count 0; its queue full, empty, and running; a CAPTURE and an EMIT that
pass. -/
theorem witness_QueuedOrdersAreHandedOrRefused :
    let body : List Word := [0x0000, 0x0000, 3]
    let asks (ws : List Word) (s : State) := holding kindMove .validate ws s
    ((asks body booted).orderInHand kindMove).isSome ∧ booted.moveOf body = .ok (.move (moveParams none))
      ∧ booted.moveOf [0, 0, 0] = .error .refusedParam
      ∧ (4 ≤ ((asks body fullD).intake.queue (Work.move (moveParams none)).queue).waiting.length ∧ fullD.passage.cpu = none)
      ∧ ((booted.intake.queue .d).waiting.length < 4 ∧ booted.running .d = none ∧ (booted.intake.queue .d).waiting = [])
      ∧ ((asks body (running .d (.move (moveParams none)) .active booted)).running .d ≠ none)
      ∧ booted.captureOf [0x0200, 0x0101, 0, 5, 10, 4, 3] = .ok (.capture captureParams)
      ∧ booted.emitOf [0x2201, 0x030A, 2, 3] = .ok (.emit emitParams) := by decide

/-- The part with the level sensors at levels, none of them unstable. -/
def sensing (doc line paper cover : Bool) : State :=
  let cell (x : Bool) : SensorCell := { input := x, level := x, timer := false }
  booted.withSensors #v[cell doc, cell line, cell paper, cell cover, cell false, cell false]

/-- Orders that start: with the cover open and closed, without and with a document, at the line or before it, without and
with paper, with a line ready and with none. -/
theorem witness_QueuedOrdersAreHandedOrRefused_starts :
    let level (s : State) (x : Sensor) := s.sensors[sensorNumber x].level
    let s := sensing true true true true
    (level booted .coverClosed = false ∧ level s .coverClosed = true)
      ∧ ((holding kindMove .validate [0, 0, 3] s).orderInHand kindMove).isSome
      ∧ (s.captureOf [0x0200, 0x0101, 0, 5, 10, 4, 3] = .ok (.capture captureParams) ∧ captureParams.skipLines ≠ 0
        ∧ s.capture.storeA = .empty ∧ s.capture.storeB = .empty)
      ∧ (level (sensing false true true true) .docPresent = false ∧ level s .docPresent = true
        ∧ level (sensing true false true true) .docAtLine = false ∧ level s .docAtLine = true)
      ∧ (s.emitOf [0x2201, 0x030A, 2, 3] = .ok (.emit emitParams) ∧ s.emit.shifted = none)
      ∧ (level (sensing true true false true) .paperPresent = false ∧ level s .paperPresent = true)
      ∧ (s.bands[1].c ≠ 0 ∧ emitParams.lineCount ≠ 0
        ∧ (s.withBand 1 { s.bands[1] with c := 0, f := 0 }).bands[1].c = 0)
      ∧ (s.running .p = none ∧ (s.intake.queue .p).waiting = [] ∧ s.power.state ≠ .wakeConfirm) := by decide

/-- A CAPTURE with skip lines of 0 that starts with the document at the line, with supply and with none. -/
theorem witness_QueuedOrdersAreHandedOrRefused_noSkip :
    let s := holding kindCapture .validate [0x0200, 0x0100, 0, 5, 10, 4, 3] (sensing true true true true)
    let full := s.withBand 0 { s.bands[0] with c := 4, f := 0 }
    let p := { captureParams with skipLines := 0 }
    (s.captureOf [0x0200, 0x0100, 0, 5, 10, 4, 3] = .ok (.capture p) ∧ p.skipLines = 0 ∧ (s.orderInHand kindCapture).isSome)
      ∧ (s.sensors[sensorNumber .coverClosed].level = true ∧ s.sensors[sensorNumber .docPresent].level = true
        ∧ s.sensors[sensorNumber .docAtLine].level = true)
      ∧ (s.running .d = none ∧ (s.intake.queue .d).waiting = [] ∧ s.capture.storeA = .empty ∧ s.capture.storeB = .empty)
      ∧ (s.noticeWaits 0 = false ∧ s.bands[0].lines - s.bands[0].c - s.bands[0].filling ≠ 0)
      ∧ full.bands[0].lines - full.bands[0].c - full.bands[0].filling = 0 := by decide

/-- Orders at the bounds of their fields, which pass, and one beyond each, which is refused: a profile that is empty, an edge
sensor that is the cover, a jam distance of 0, nine steps per line, three strobe groups. -/
theorem witness_QueuedOrdersAreChecked :
    booted.moveOf [0x0001, 0x0101, 0xFFFF, 0x0105, 0, 1]
        = .ok (.move { chan := .p, profile := 0, dir := .reverse, count := 65535,
                       edge := some { sensor := .key, rising := false, extra := 0, jam := 1 } })
      ∧ booted.moveOf [0x0101, 0, 1] = .error .refusedParam
      ∧ booted.moveOf [0, 0x0100, 1, 0x0003, 0, 1] = .error .refusedParam
      ∧ booted.moveOf [0, 0x0100, 1, 0x0002, 0, 0] = .error .refusedParam
      ∧ (booted.captureOf [0x3802, 0, 0, 1, 1, 0, 0]).toOption.isSome
      ∧ booted.captureOf [0x3902, 0, 0, 1, 1, 0, 0] = .error .refusedParam
      ∧ booted.captureOf [0x3801, 0, 0, 1, 1, 0, 0] = .error .refusedParam
      ∧ (booted.emitOf [0x4802, 0x0001]).toOption.isSome ∧ booted.emitOf [0x3802, 0x0001] = .error .refusedParam := by decide

/-- TRANSFER of mode 2, from an odd record address, from 23 bytes below the end of DRAM and from 24; its record read in part,
whole with a length of 0, whole and good, with the mover's queue running and empty. -/
theorem witness_TransfersAreReadAndJudged :
    let asks (m hi lo : Word) (s : State) := holding kindTransfer .validate [m, hi, lo] s
    let record : List Word := [0, 0x4000, 0, 0x5000, 0, 64, 0, 0, 0, 0, 0, 0]
    let reads (ws : List Word) (s : State) : State := granted (.intake (.read 0x3000 1))
      (holding kindTransfer (.reading 0x3000 ws 12) [0, 0, 0x3000] s)
    let runs := running .mover (.transfer transferParams) .active booted
    ((asks 2 0 0x3000 booted).orderInHand kindTransfer).isSome
      ∧ (1 < bits 2 7 0 ∧ addressPair 0 0x3001 % 2 = 1 ∧ booted.installed < addressPair 0xF 0xFFEA + 24)
      ∧ (bits 1 7 0 ≤ 1 ∧ addressPair 0xF 0xFFE8 % 2 = 0 ∧ addressPair 0xF 0xFFE8 + 24 ≤ booted.installed)
      ∧ ((reads [] booted).port.grant = some (.intake (.read 0x3000 1))
        ∧ ([] ++ (reads [] booted).dramWords 0x3000 1).length < 12
        ∧ 12 ≤ (record.take 11 ++ (reads (record.take 11) booted).dramWords 0x3000 1).length)
      ∧ booted.transferOf .copy record = .ok (.transfer transferParams)
      ∧ booted.transferOf .copy (record.set 5 0) = .error .refusedParam
      ∧ (runs.running .mover ≠ none ∧ runs.intake.mQueue.waiting.length < 4) ∧ booted.intake.mQueue = Queue.empty := by
  decide

/-- The first word of a transfer that starts passes, and the queue of the mover full. -/
theorem witness_TransfersAreReadAndJudged_starts :
    let order := { orderOf (.transfer transferParams) with slot := 2 }
    let full := booted.withIntake { booted.intake with mQueue :=
      { running := some { order := order, stage := .active, result := .ok, figures := [] }, waiting := List.replicate 4 order } }
    booted.port.moverReq = none ∧ booted.classify .mover ⟨0x4000, .readWord⟩ = .pass .plain
      ∧ 4 ≤ full.intake.mQueue.waiting.length ∧ full.passage.cpu = none := by decide

/-! ### Witnesses: motor channels -/

theorem witness_ChannelsChopAndHold :
    let s := chanDIn .holding booted
    ((s.chan .d).state = .holding ∧ (s.chan .d).holdTimer.isSome)
      ∧ ((booted.chan .d).state ≠ .holding ∧ (booted.chan .p).holdTimer = none)
      ∧ ((booted.chan .d).state = .off ∧ (s.chan .d).state ≠ .off) := by decide

/-- R108: with the latch full of black dots, group 1 of 4 heats dots 32 to 63 of 128 and no others. -/
theorem test_strobe_group_heats_its_dots :
    let e := { EmitEngine.reset with
      storeA := { state := .strobing, line := 0, words := [] }, group := 1, latch := some (List.replicate 8 0xFFFF) }
    (e.strobeOutput 1 ∧ !e.strobeOutput 0) ∧ (!e.heats 4 31 ∧ e.heats 4 32 ∧ e.heats 4 63 ∧ !e.heats 4 64) := by
  decide

/-- Two levels with a descent length of 2: three steps left allow level 1, two do not. -/
theorem witness_RampRuleChoosesTheLevel :
    let p : List Level := [⟨100, 2⟩, ⟨50, 3⟩]
    (p ≠ [] ∧ 0 ≤ topLevel p ∧ 1 ≤ topLevel p ∧ ((p.take 1).map (·.dwell)).sum ≤ 3 - 1 ∧ topLevel p = 1)
      ∧ (((p.take 0).map (·.dwell)).sum ≤ 2 - 1 ∧ 2 - 1 < ((p.take 1).map (·.dwell)).sum) := by decide

/-- A MOVE on channel D with a count or an edge, after some steps, before or after the edge. -/
def moving (e : Option EdgeParams) (made before : Nat) (edge : Bool) : State :=
  let s := chanDIn .moving (running .d (.move (moveParams e)) .active booted)
  s.withChanD { s.chanD with made := made, before := before, edge := edge, r := 3 - made }

/-- The document edge, with two extra steps and a jam distance of 5. -/
def docEdge : EdgeParams := { sensor := .docAtLine, rising := true, extra := 2, jam := 5 }

theorem witness_MovesStepAndEnd :
    let e := some docEdge
    ((moving none 0 0 false).running (chanQueue .d)).map (fun r => (r.stage, r.order.work))
        = some (.active, .move (moveParams none))
      ∧ ((moving none 0 0 false).chanD.state = .moving ∧ (moving none 0 0 false).chanD.stepTimer.isSome)
      ∧ ((moving none 1 0 false).chanD.made + 1 ≠ (moveParams none).count)
      ∧ ((moving none 2 0 false).chanD.made + 1 = (moveParams none).count ∧ (moving none 2 0 false).chanD.edge = false)
      ∧ ((moving e 5 0 false).chanD.edge = false ∧ docEdge.jam ≤ (moving e 5 0 false).chanD.made)
      ∧ (moving e 4 0 false).chanD.made < docEdge.jam
      ∧ ((moving e 3 3 true).chanD.edge = true ∧ (moving e 3 3 true).chanD.made + 1 ≠ (moving e 3 3 true).chanD.before + docEdge.extra)
      ∧ ((moving e 4 3 true).chanD.made + 1 = (moving e 4 3 true).chanD.before + docEdge.extra) := by decide

/-- The part with a sensor whose input has changed and whose stability timer runs. -/
def unstable (x : Sensor) (level : Bool) (s : State) : State :=
  s.withSensors (s.sensors.set (sensorNumber x) { input := level, level := !level, timer := true })

theorem witness_SensorsAreDebouncedAndDelivered :
    let s := unstable .hook true booted
    let masked := s.withReports { s.reports with sensorMask := 0x3F }
    let cover := unstable .coverClosed false (moving none 0 0 false)
    let edge := unstable .docAtLine true (moving (some docEdge) 0 0 false)
    let approach := unstable .docAtLine true (capturing .approach)
    let skip := unstable .docAtLine false (capturing .skip)
    let paper := unstable .paperPresent false (emitting .printing)
    ((booted.sensors[sensorNumber .hook]).timer = false
        ∧ (s.sensors[sensorNumber .hook]).timer = true ∧ (s.sensors[sensorNumber .hook]).input = true
        ∧ true ≠ (s.sensors[sensorNumber .hook]).level)
      ∧ (s.activeWork (chanQueue .d) = none ∧ s.activeWork (chanQueue .p) = none ∧ s.power.state = .running
        ∧ s.reports.sensorMask.getLsbD 4 = false)
      ∧ (masked.reports.sensorMask.getLsbD (sensorNumber .hook).val = true ∧ masked.hasReports = true
        ∧ masked.reports.pending.length < 8 ∧ masked.sensorWaits = false)
      ∧ cover.activeWork (chanQueue .d) = some (.move (moveParams none))
      ∧ (edge.activeWork (chanQueue .d) = some (.move (moveParams (some docEdge))) ∧ docEdge.sensor = .docAtLine
        ∧ docEdge.rising = true ∧ docEdge.extra ≠ 0 ∧ (edge.chan .d).state = .moving ∧ (edge.chan .d).edge = false)
      ∧ (approach.captureNow.map (fun x => (x.1, x.2.phase)) = some (captureParams, .approach)
        ∧ captureParams.skipLines ≠ 0 ∧ approach.chanD.state = .moving)
      ∧ skip.captureNow.map (·.2.phase) = some .skip
      ∧ (paper.emitNow.map (·.2.phase) = some .printing ∧ paper.chanP.state = .moving) := by decide

/-- The cover falls on a CAPTURE with a line CLOCKING, on one in DONE, and on an EMIT; the paper goes while channel P is
PAUSED, waits before the latch, and waits with a line under heat. -/
theorem witness_SensorsAreDebouncedAndDelivered_stops :
    let cover (s : State) := unstable .coverClosed false s
    let scan (x : CaptureStore) := cover ((capturing .scanning).withCapture { (capturing .scanning).capture with storeA := x })
    let paper (x : ChanState) (st : PrintState) := unstable .paperPresent false
      (chanPIn x ((emitting .printing).withEmit
        { (emitting .printing).emit with storeA := { state := st, line := 0, words := [] } }))
    ((scan (.clocking 1)).captureNow.map (·.2.phase) = some .scanning ∧ (scan (.clocking 1)).capture.clocking = some .a)
      ∧ ((scan (.writing 1 [])).capture.clocking = none ∧ (scan (.writing 1 [])).capture.store .a = .writing 1 [])
      ∧ (cover (capturing .done)).captureNow.map (·.2.phase) = some .done
      ∧ ((cover (emitting .tail)).emitNow.map (·.2.phase) = some .tail ∧ (cover (emitting .tail)).chanP.state = .moving)
      ∧ (cover (emitting .done)).emitNow.map (·.2.phase) = some .done
      ∧ ((paper .paused .fetched).emitNow.map (·.2.phase) = some .printing ∧ (paper .paused .fetched).chanP.state = .paused)
      ∧ ((paper .boundaryWait .shifting).chanP.state = .boundaryWait ∧ (paper .boundaryWait .shifting).emit.strobing = none)
      ∧ (paper .boundaryWait .strobing).emit.strobing = some .a := by decide

/-- A change with the pending queue full, and with a SENSOR report that waits among others; in a pending and in an entered
sleep; a leading edge in APPROACH for skip lines of 0, with supply, with none, and with both stores taken. -/
theorem witness_SensorsAreDebouncedAndDelivered_waits :
    let masked (s : State) := s.withReports { s.reports with sensorMask := 0x3F }
    let full := masked (unstable .hook true (crowded booted))
    let note : Waiting := ⟨.band, .notice 0 ⟨.band, 1, List.replicate 7 0⟩⟩
    let merges := full.withReports { full.reports with waiting := [note] ++ ⟨.motor, .sensor 1 0⟩ :: [note] }
    let sleeps (x : PowerState) := unstable .key true (powered x .confirming)
    let p := { captureParams with skipLines := 0 }
    let lead (c : Nat) (a : CaptureStore) : State :=
      let v := unstable .docAtLine true (chanDIn .moving ((running .d (.capture p) .active booted).withCapture
        { booted.capture with storeA := a, storeB := .writing 1 [], record := some { CaptureRecord.start with phase := .approach } }))
      v.withBand 0 { v.bands[0] with c := c, f := c % 4 }
    (full.activeWork (chanQueue .d) = none ∧ full.activeWork (chanQueue .p) = none ∧ full.power.state = .running
        ∧ full.reports.sensorMask.getLsbD (sensorNumber .hook).val = true ∧ full.hasReports = true
        ∧ 8 ≤ full.reports.pending.length ∧ full.sensorWaits = false)
      ∧ (merges.reports.waiting = [note] ++ ⟨.motor, .sensor 1 0⟩ :: [note] ∧ note.item = .notice 0 ⟨.band, 1, List.replicate 7 0⟩)
      ∧ ((sleeps .sleepPending).power.state = .sleepPending ∧ (sleeps .sleeping).power.settings = some wakeSettings
        ∧ (sleeps .sleeping).power.state = .sleeping ∧ (sleeps .sleeping).sensors[sensorNumber .key].level = false)
      ∧ ((lead 1 .empty).captureNow.map (fun x => (x.1, x.2.phase, x.2.trailing)) = some (p, .approach, false)
        ∧ p.lineLimit = 0 ∧ p.maxLength ≠ 0 ∧ (lead 1 .empty).chanD.state = .moving)
      ∧ ((lead 1 .empty).bands[0].lines - (lead 1 .empty).bands[0].c ≠ 0 ∧ (lead 4 .empty).bands[0].lines - 4 = 0)
      ∧ ((lead 1 .empty).capture.freeStore = some .a ∧ (lead 1 .empty).capture.clocking = none
        ∧ (lead 1 (.writing 2 [])).capture.freeStore = none ∧ (lead 1 (.clocking 2)).capture.clocking ≠ none) := by decide

theorem witness_PauseLimitsStarve :
    let scan := chanDIn .paused (capturing .scanning)
    let store (x : CaptureStore) : State := scan.withCapture { scan.capture with storeB := x }
    let print := chanPIn .paused (emitting .printing)
    ((booted.chan .d).state ≠ .paused ∧ (booted.chan .p).pauseTimer = none)
      ∧ (scan.captureNow.map (·.2.phase) = some .scanning ∧ scan.chanD.state = .paused ∧ scan.chanD.pauseTimer.isSome
        ∧ scan.capture.storeA = .empty ∧ scan.capture.storeB = .empty)
      ∧ ((store (.writing 1 [])).capture.clocking = none ∧ (store (.writing 1 [])).capture.storeB ≠ .empty)
      ∧ (store (.clocking 1)).capture.clocking = some .b
      ∧ (print.emitNow.isSome ∧ print.chanP.state = .paused ∧ print.chanP.pauseTimer.isSome) := by decide

/-- The events that resume a paused CAPTURE, a waiting BAND NOTICE and its admission, and those that resume a paused EMIT. -/
theorem witness_PauseLimitsStarve_resumes :
    let scan := chanDIn .paused (capturing .scanning)
    let cpu (obs : Obs) (s : State) := granted (.processor obs) (accessing 0x201E .readWord (.passing (.band 0 (some obs))) s)
    let mover (n : Nat) (obs : Obs) (s : State) := granted (.mover n obs) (s.withMover { Mover.reset with
      state := .reading, chunkSize := 16, params := transferParams })
    let note : Report := ⟨.band, 1, List.replicate 7 0⟩
    let waits := scan.withReports { scan.reports with waiting := [⟨.band, .notice 0 note⟩] }
    let posts := granted .report (waits.withReports { waits.reports with pending := [note] })
    let copying := (running .p (.emit { emitParams with band := 0 }) .active scan).withEmit { scan.emit with
      record := some EmitRecord.start, group := 1, storeA := { state := .strobing, line := 0, words := [] } }
    let copied := copying.withBand 0 { scan.bands[0] with role := .copy, draining := 1 }
    let print := chanPIn .paused (emitting .printing)
    let written := granted (.writeBack .b) (running .d (.capture { captureParams with band := 1 }) .active
      ((print.withCapture { print.capture with storeB := .writing 1 [], record := some CaptureRecord.start }).withBand 1
        { print.bands[1] with filling := 1 }))
    (scan.captureNow.isSome ∧ scan.chanD.state = .paused ∧ scan.bands[0].c + scan.bands[0].filling ≤ scan.bands[0].lines
        ∧ 0 < scan.bands[0].c ∧ scan.bands[0].draining = 0 ∧ scan.bands[0].role = .capture)
      ∧ ((cpu (.drain 0 0) scan).port.grant = some (.processor (.drain 0 scan.bands[0].d))
        ∧ (cpu (.drain 0 0) scan).noticeWaits 0 = false ∧ (cpu (.drain 0 0) waits).noticeWaits 0 = true)
      ∧ ((mover 4 (.drain 0 0) scan).mover.access (0 + 4 - 1)).isSome
      ∧ (copied.emitNow.map (fun x => (x.1.band, x.1.groups)) = some (0, 2) ∧ copied.emit.strobing = some .a
        ∧ 2 ≤ copied.emit.group + 1 ∧ copied.bands[0].role = .copy ∧ 0 < copied.bands[0].draining ∧ copied.captureNow.isSome)
      ∧ (posts.port.grant = some .report ∧ posts.reports.pending ≠ []
        ∧ admitNext posts.reports.waiting = some (⟨.band, .notice 0 note⟩, [])
        ∧ posts.bands[0].c + posts.bands[0].filling < posts.bands[0].lines)
      ∧ (scan.capture.freeStore = some .a ∧ scan.capture.clocking = none)
      ∧ (print.emitNow.isSome ∧ print.chanP.state = .paused ∧ print.emit.shifted = none ∧ print.bands[1].role = .emit
        ∧ (cpu (.fill 1 1) print).port.grant = some (.processor (.fill 1 print.bands[1].f))
        ∧ print.bands[1].c + print.bands[1].filling < print.bands[1].lines)
      ∧ (written.emitNow.map (·.1.band) = some 1 ∧ written.captureNow.map (·.1.band) = some 1
        ∧ written.capture.store .b = .writing 1 [] ∧ 0 < written.bands[1].filling) := by decide

/-! ### Witnesses: the engines -/

/-- The CAPTURE with another record and band 0. -/
def capturingAt (r : CaptureRecord) (b : Band) : State :=
  ((capturing r.phase).withCaptureRecord r).withBand 0 b

/-- A jam and a step of APPROACH; a step inside a line; a boundary at the maximum length, with no supply, and with supply,
with a store free and with one CLOCKING; the last step of EJECT. -/
theorem witness_CapturesStepAndPace :
    let r := CaptureRecord.start
    let b := bandOn .capture 2
    let line := capturingAt { r with phase := .scanning, stepsInLine := 1 } b
    let clocked := line.withCapture { line.capture with storeA := .clocking 1 }
    (line.captureNow.map (·.1) = some captureParams ∧ line.chanD.state = .moving ∧ line.chanD.stepTimer.isSome)
      ∧ (captureParams.jam ≤ 5 ∧ 4 < captureParams.jam)
      ∧ ((capturingAt { r with phase := .tail } b).captureNow.map (fun x => x.2.stepsInLine + 1) = some 1
        ∧ captureParams.stepsPerLine = 1 + 1 ∧ captureParams.lineLimit = 0)
      ∧ ((capturingAt { r with phase := .scanning, stepsInLine := 1, docLines := 9 } b).captureNow.map (·.2.docLines)
        = some 9 ∧ captureParams.maxLength ≤ 9 + 1 ∧ 8 + 1 < captureParams.maxLength)
      ∧ ((capturingAt r { b with c := 4, f := 0 }).captureCount 0 = 0 ∧ line.captureCount 0 ≠ 0)
      ∧ (line.capture.freeStore = some .a ∧ line.capture.clocking = none ∧ clocked.capture.clocking ≠ none)
      ∧ ((capturingAt { r with phase := .eject, stepsInPhase := 3 } b).captureNow.map (fun x => x.2.stepsInPhase + 1)
        = some captureParams.ejectSteps) := by decide

/-- SKIP at its last step, at the maximum length, and inside; SCANNING with the trailing edge taken and at the line limit;
TAIL with no line left and with one; EJECT of no steps and of some; the supply with and without a waiting notice. -/
theorem witness_CapturesStepAndPace_phases :
    let r := CaptureRecord.start
    let b := bandOn .capture 2
    let at' (phase : CapturePhase) (n : Nat) : CaptureRecord := { r with phase := phase, stepsInPhase := n, stepsInLine := 1 }
    let in' (x : CaptureRecord) := (capturingAt x b).captureNow.map (·.2)
    let limited := { captureParams with lineLimit := 3, ejectSteps := 0 }
    let note := (capturing .scanning).withReports
      { booted.reports with waiting := [⟨.band, .notice 0 ⟨.band, 1, List.replicate 7 0⟩⟩] }
    (in' (at' .skip 1) = some (at' .skip 1) ∧ 1 + 1 = captureParams.skipLines * captureParams.stepsPerLine
        ∧ 0 + 1 ≠ captureParams.skipLines * captureParams.stepsPerLine)
      ∧ (in' { at' .skip 5 with docLines := 9 } = some { at' .skip 5 with docLines := 9 } ∧ captureParams.maxLength ≤ 9 + 1)
      ∧ (in' { at' .scanning 0 with trailing := true } = some { at' .scanning 0 with trailing := true }
        ∧ captureParams.tailLines ≠ 0)
      ∧ (in' { at' .tail 0 with tailLeft := 0 } = some { at' .tail 0 with tailLeft := 0 }
        ∧ in' { at' .tail 0 with tailLeft := 1 } = some { at' .tail 0 with tailLeft := 1 })
      ∧ (limited.lineLimit ≠ 0 ∧ limited.lineLimit ≤ 3 ∧ limited.ejectSteps = 0 ∧ captureParams.ejectSteps ≠ 0)
      ∧ (in' (at' .eject 2) = some (at' .eject 2) ∧ 2 + 1 ≠ captureParams.ejectSteps)
      ∧ (note.noticeWaits 0 = true ∧ (capturing .scanning).noticeWaits 0 = false
        ∧ b.lines - b.c - b.filling ≠ 0) := by decide

theorem witness_LinesAreCaptured :
    let s := (capturing .scanning).withCapture { (capturing .scanning).capture with storeB := .clocking 1 }
    let w := granted (.writeBack .b)
      ((capturing .scanning).withCapture { (capturing .scanning).capture with storeB := .writing 1 [0x8000] })
    (s.captureNow.isSome ∧ s.capture.clocking = some .b ∧ s.capture.store .b = .clocking 1)
      ∧ (w.captureNow.isSome ∧ w.port.grant = some (.writeBack .b) ∧ w.capture.store .b = .writing 1 [0x8000]) := by decide

/-- A processor read held on the line that the write-back makes FULL. -/
theorem witness_LinesAreCaptured_release :
    let s := (capturing .scanning).withCapture { (capturing .scanning).capture with storeB := .writing 1 [0x8000] }
    let w := granted (.writeBack .b) (accessing 0x2020 .readWord (.held (.line 0 1))
      (s.withBand 0 { s.bands[0] with filling := 1 }))
    let b := w.bands[0]
    b.Legal ∧ (b.role = .capture ∧ 0 < b.filling ∧ b.f = 1 ∧ w.captureNow.isSome)
      ∧ w.passage.cpu.map (·.status) = some (.held (.line 0 1)) ∧ w.restAddress ≠ some 0x2020
      ∧ (w.windowAt 0x2020 = some 2 ∧ w.windows[2].kind = .band ∧ w.bandPlace 0x2020 = some (0, 1, 0)) :=
  ⟨⟨by decide, by decide, by decide, by decide, by decide, by decide⟩, by decide, by decide, by decide, by decide⟩

/-- A clocking that ends with the write-back request free, and a write-back that ends beside another WRITING line and beside
none. -/
theorem witness_LinesAreCaptured_asks :
    let s (a b : CaptureStore) : State := (capturing .scanning).withCapture
      { (capturing .scanning).capture with storeA := a, storeB := b }
    let w (a : CaptureStore) : State := granted (.writeBack .b) (s a (.writing 1 [0x8000]))
    ((s .empty (.clocking 1)).capture.clocking = some .b ∧ (s .empty (.clocking 1)).capture.store .b = .clocking 1
        ∧ (s .empty (.clocking 1)).port.captureReq = none ∧ (s .empty (.clocking 1)).port.grant = none
        ∧ (s .empty (.clocking 1)).capture.store .a = .empty ∧ (s .empty (.clocking 1)).captureNow.isSome)
      ∧ ((w (.writing 2 [])).port.grant = some (.writeBack .b) ∧ (w (.writing 2 [])).capture.store .b = .writing 1 [0x8000]
        ∧ (w (.writing 2 [])).port.captureReq = none ∧ (w (.writing 2 [])).capture.store .a = .writing 2 [])
      ∧ (w .empty).capture.store .a = .empty := by decide

/-- R94: the line-start pulse is in the event that begins a line and in no other. -/
theorem test_line_start_pulse :
    let s := (capturing .scanning).capture
    s.lineStartPulse { s with storeA := .clocking 1 } = true ∧ s.lineStartPulse s = false
      ∧ { s with storeA := .clocking 1 }.lineStartPulse { s with storeA := .writing 1 [] } = false := by decide

/-- The EMIT with another record and band 1. -/
def emittingAt (r : EmitRecord) (b : Band) : State := ((emitting r.phase).withEmitRecord r).withBand 1 b

/-- A step inside a line; boundaries with the paper lost, with the count reached, with no supply, and with supply; the last
step of TAIL. -/
theorem witness_EmitsStepAndPace :
    let r := { EmitRecord.start with phase := .printing, stepsInLine := 1 }
    let b := bandOn .emit 3
    let s := emittingAt r b
    let shifted := s.withEmit { s.emit with storeA := { state := .shifted, line := 0, words := [] } }
    let tail := (emittingAt { r with phase := .tail } b).withChanP { s.chanP with r := 1 }
    (s.emitNow = some (emitParams, r) ∧ s.chanP.state = .moving ∧ s.chanP.stepTimer.isSome)
      ∧ (r.stepsInLine + 1 = emitParams.stepsPerLine ∧ EmitRecord.start.stepsInLine + 1 ≠ emitParams.stepsPerLine)
      ∧ (emittingAt { r with paperLost := true } b).emitNow.map (·.2.paperLost) = some true
      ∧ ((emittingAt { r with printed := 2 } b).emitNow.map (·.2.printed) = some emitParams.lineCount
        ∧ emitParams.lineCount ≠ 0 ∧ emitParams.tailFeed ≠ 0)
      ∧ (r.paperLost = false ∧ ¬ (emitParams.lineCount ≠ 0 ∧ emitParams.lineCount ≤ r.printed)
        ∧ (emittingAt r { b with c := 0, f := 0 }).bands[1].c = 0 ∧ s.bands[1].c ≠ 0)
      ∧ (shifted.emit.strobing = none ∧ shifted.emit.shifted = some .a)
      ∧ (tail.emitNow.map (·.2.phase) = some .tail ∧ tail.chanP.r = 1) := by decide

/-- An open EMIT at a boundary with C of 0: closed in an EMIT band, and in a COPY band with no CAPTURE of it in queue D, with a
tail feed and without; a step of TAIL that is not its last; and a CAPTURE that leaves queue D, a MOVE and a CAPTURE of another
band behind it, while such an EMIT is PAUSED. -/
theorem witness_EmitsStepAndPace_open :
    let open' (tail : Nat) : EmitParams := { emitParams with lineCount := 0, tailFeed := tail }
    let r := { EmitRecord.start with phase := .printing, stepsInLine := 1, closed := true }
    let s (x : ChanState) (role : Role) (tail : Nat) : State :=
      let v := chanPIn x ((running .p (.emit (open' tail)) .active booted).withEmit { booted.emit with record := some r })
      v.withBand 1 { v.bands[1] with role := role, c := 0, f := 0 }
    let w : FinalWrite := { owner := .queue .d, slot := 1, kind := kindCapture, result := .ok }
    let leaves (tail : Nat) : State :=
      let v := granted (.intake (.final w)) (running .d (.capture { captureParams with band := 1 }) .entered (s .paused .copy tail))
      v.withIntake { v.intake with dQueue := { v.intake.dQueue with
        waiting := [orderOf (.move (moveParams none)), orderOf (.capture captureParams)] } }
    let tail := (emittingAt { r with phase := .tail } booted.bands[1]).withChanP { (emitting .tail).chanP with r := 2 }
    QueuesLegal (leaves 0) ∧ QueuesLegal (leaves 3)
      ∧ ((s .moving .emit 3).emitNow.map (fun x => (x.1, x.2.closed)) = some (open' 3, true) ∧ r.stepsInLine + 1 = 2
        ∧ (s .moving .emit 3).bands[1].c = 0 ∧ (s .moving .emit 3).bands[1].role = .emit)
      ∧ ((s .moving .copy 0).emitNow.map (·.1) = some (open' 0) ∧ (s .moving .copy 0).bands[1].role = .copy
        ∧ (s .moving .copy 0).intake.dQueue = Queue.empty)
      ∧ (tail.emitNow.map (·.2.phase) = some .tail ∧ tail.chanP.state = .moving ∧ 2 ≤ tail.chanP.r)
      ∧ ((leaves 0).emitNow.map (·.1) = some (open' 0) ∧ (leaves 3).emitNow.map (·.1) = some (open' 3)
        ∧ (leaves 3).chanP.state = .paused ∧ (leaves 3).bands[1].role = .copy ∧ (leaves 3).bands[1].c = 0)
      ∧ ((leaves 3).port.grant = some (.intake (.final w)) ∧ ((leaves 3).running .d).map (·.stage) = some .entered
        ∧ captureParams.band ≠ 1 ∧ (moveParams none).chan = .d) :=
  ⟨queuesLegal_of_ok (by decide), queuesLegal_of_ok (by decide), by decide, by decide, by decide, by decide, by decide⟩

/-- The EMIT with its store A in a state. -/
def storing (x : PrintState) : State :=
  (emitting .printing).withEmit { (emitting .printing).emit with storeA := { state := x, line := 0, words := [0xFFFF] } }

theorem witness_LinesArePrinted :
    let wait (s : State) : State := s.withChanP { s.chanP with state := .boundaryWait }
    let last := (storing .strobing).withEmit { (storing .strobing).emit with group := 1 }
    ((granted (.fetch .a) (storing .loading)).emitNow.isSome ∧ (storing .loading).emit.shifting = none
        ∧ (storing .loading).emit.shifted = none ∧ ((storing .loading).emit.store .b).state = .empty)
      ∧ ((storing .shifting).emit.shifting = some .a ∧ (storing .shifting).chanP.state ≠ .boundaryWait)
      ∧ ((wait (storing .shifting)).chanP.state = .boundaryWait ∧ (storing .shifting).emit.strobing = none)
      ∧ ((storing .strobing).emit.strobing = some .a ∧ (storing .strobing).emit.group + 1 < emitParams.groups)
      ∧ (last.emit.strobing = some .a ∧ emitParams.groups ≤ last.emit.group + 1
        ∧ last.emitNow.map (·.2.stopAsked) = some false) := by decide

/-- A fetch that ends beside a line under heat, and beside a FETCHED line. -/
theorem witness_LinesArePrinted_beside :
    let beside (x : PrintState) : State := (storing .loading).withEmit
      { (storing .loading).emit with storeB := { state := x, line := 1, words := [0xFFFF] } }
    let t := after .fetchGrantEnd (granted (.fetch .a) (beside .strobing))
    ((beside .strobing).emit.shifting = none ∧ (beside .strobing).emit.shifted = none
        ∧ ((beside .strobing).emit.store .b).state ≠ .fetched ∧ ((beside .strobing).emit.store .a).state = .loading)
      ∧ (t.emit.storeA.state = .shifting ∧ t.emit.storeB.state = .strobing)
      ∧ (((beside .fetched).emit.store .b).state = .fetched ∧ (beside .fetched).emit.shifting = none) := by decide

/-- The last group of an EMIT told to stop; a fetch asked at the end of a shift, of a strobe, and of a grant of the processor,
the mover, and a write-back; and one not asked, the line count being reached. -/
theorem witness_LinesArePrinted_asks :
    let last (stop : Bool) : State := ((storing .strobing).withEmit { (storing .strobing).emit with group := 1 }).withEmitRecord
      { EmitRecord.start with phase := .printing, stopAsked := stop }
    let wide (s : State) : State := s.withBand 1 { s.bands[1] with c := 3, f := 3 }
    let cpu := granted (.processor .nothing) (accessing 0x3000 .readWord (.passing .plain) (wide (emitting .printing)))
    let mover := granted (.mover 4 .nothing) (wide (emitting .printing))
    let back := granted (.writeBack .b) (wide (running .d (.capture captureParams) .active ((emitting .printing).withCapture
      { booted.capture with storeB := .writing 1 [], record := some CaptureRecord.start })))
    ((last true).emitNow.map (·.2.stopAsked) = some true ∧ (last true).emit.strobing = some .a
        ∧ emitParams.groups ≤ (last true).emit.group + 1 ∧ (chanPIn .boundaryWait (last true)).chanP.state = .boundaryWait)
      ∧ ((after .shiftEnd (wide (storing .shifting))).port.fetchReq = true
        ∧ (after .strobeGroupEnd (wide (last false))).port.fetchReq = true
        ∧ (after .strobeGroupEnd (wide (last true))).port.fetchReq = false)
      ∧ ((after .processorGrantEnd cpu).port.fetchReq = true ∧ (after .moverGrantEnd mover).port.fetchReq = true
        ∧ back.captureNow.isSome ∧ (after .writeBackEnd back).port.fetchReq = true)
      ∧ (after .processorGrantEnd ((wide cpu).withEmitRecord { EmitRecord.start with phase := .printing, printed := 2 })).port.fetchReq
        = false := by decide

/-- R108: pixel 0 of the line being shifted is bit 15 of word 0 and pixel 16 bit 15 of word 1; the latch pulse is in the event
that brings a line under heat. -/
theorem test_serial_data_and_latch_pulse :
    let e := { EmitEngine.reset with storeA := { state := .shifting, line := 0, words := [0x8000, 0x0001] } }
    (e.serialData 0 = some true ∧ e.serialData 1 = some false ∧ e.serialData 16 = some false ∧ e.serialData 31 = some true)
      ∧ EmitEngine.reset.serialData 0 = none
      ∧ (e.latchPulse (e.latchStore .a) = true ∧ e.latchPulse e = false) := by decide

theorem witness_MoverGrantsDoTheirWords :
    let s (x : MoverState) (aborting : Bool) : State := granted (.mover 16 .nothing)
      ((running .mover (.transfer transferParams) .active booted).withMover
        { Mover.reset with state := x, params := transferParams, chunkSize := 16, aborting := aborting })
    ((s .reading false).port.grant = some (.mover 16 .nothing) ∧ (s .reading false).mover.state = .reading
        ∧ (s .reading false).mover.aborting = false)
      ∧ (s .writing false).mover.state = .writing
      ∧ ((s .writing true).mover.aborting = true ∧ ((s .writing true).running .mover).isSome) := by decide

/-- A word cancelled while the grant ran; the next word of the chunk passing, held by band 0, and dropped by the GUARD
window. -/
theorem witness_MoverGrantsDoTheirWords_next :
    let s (x : MoverState) (p : TransferParams) (passed : Bool) : State := granted (.mover 1 .nothing)
      ((running .mover (.transfer p) .active booted).withMover
        { Mover.reset with state := x, params := p, chunkSize := 16, passOver := passed, buffer := List.replicate 16 (some 1) })
    let from' (a : Nat) : TransferParams := { transferParams with seg1 := ⟨a, 0x5000, 32⟩ }
    let to' (a : Nat) : TransferParams := { transferParams with seg1 := ⟨0x4000, a, 32⟩ }
    ((s .reading (from' 0x4000) true).mover.passOver = true ∧ (s .writing (to' 0x5000) true).mover.passOver = true)
      ∧ ((s .reading (from' 0x4000) false).port.moverReq = none
        ∧ (s .reading (from' 0x4000) false).mover.access 1 = some ⟨0x4002, .readWord⟩ ∧ 0 + 1 < 0 + 16)
      ∧ (s .reading (from' 0x4000) false).classify .mover ⟨0x4002, .readWord⟩ = .pass .plain
      ∧ (s .reading (from' 0x201E) false).classify .mover ⟨0x2020, .readWord⟩ = .hold (.line 0 1)
      ∧ ((s .writing (to' 0x22FE) false).mover.access 1 = some ⟨0x2300, .writeWord 1⟩
        ∧ (s .writing (to' 0x22FE) false).classify .mover ⟨0x2300, .writeWord 1⟩ = .drop .guard .window 0x2300 none
        ∧ (s .writing (to' 0x22FE) false).hasReports = true) := by decide

/-- A chunk that has been read, one that has been written with more to follow, one that ends segment 1 of two, and one that ends
the transfer; a burst that aborts in READING; and last words that fill, drain and come out of turn, and a fill no longer made. -/
theorem witness_MoverGrantsDoTheirWords_turns :
    let s (x : MoverState) (p : TransferParams) (first : Nat) (obs : Obs) : State := granted (.mover 16 obs)
      ((running .mover (.transfer p) .active booted).withMover
        { Mover.reset with
          state := x, params := p, chunkFirst := first, chunkSize := 16, next := first, buffer := List.replicate 16 (some 1) })
    let two : TransferParams := { transferParams with seg1 := ⟨0x4000, 0x5000, 32⟩, seg2 := ⟨0x4100, 0x5100, 2⟩ }
    let from' (a : Nat) : TransferParams := { transferParams with seg1 := ⟨a, 0x5000, 64⟩ }
    let to' (a : Nat) : TransferParams := { transferParams with seg1 := ⟨0x4000, a, 64⟩ }
    let read := s .reading transferParams 0 .nothing
    let wrote (first : Nat) := s .writing transferParams first .nothing
    ((read.port.moverReq = none ∧ 0 < read.mover.chunkSize ∧ read.mover.next + 16 = read.mover.chunkFirst + read.mover.chunkSize)
        ∧ ({ read.mover with state := .writing, buffer := List.replicate 16 (some 1) }.access 0 = some ⟨0x5000, .writeWord 1⟩)
        ∧ read.classify .mover ⟨0x5000, .writeWord 1⟩ = .pass .plain)
      ∧ ((wrote 0).mover.next + 16 < 64 / 2 ∧ 64 / 2 ≤ (wrote 16).mover.next + 16 ∧ transferParams.seg2.length = 0
        ∧ ((wrote 16).running .mover).isSome)
      ∧ ((s .writing two 0 .nothing).mover.segment = 1 ∧ 32 / 2 ≤ (s .writing two 0 .nothing).mover.next + 16
        ∧ 2 ≤ two.seg2.length ∧ (s .writing two 0 .nothing).classify .mover ⟨0x4100, .readWord⟩ = .pass .plain)
      ∧ (read.withMover { read.mover with aborting := true }).mover.aborting = true
      ∧ ((s .writing (to' 0x2120) 0 (.fill 1 1)).mover.access 15 = some ⟨0x213E, .writeWord 1⟩ ∧ booted.bands[1].role = .emit
        ∧ booted.bands[1].f = 1 ∧ booted.bands[1].c + booted.bands[1].filling < booted.bands[1].lines ∧ booted.emitNow = none)
      ∧ ((s .reading (from' 0x2000) 0 (.drain 0 0)).mover.access 15 = some ⟨0x201E, .readWord⟩
        ∧ booted.bands[0].draining < booted.bands[0].c ∧ booted.captureNow = none)
      ∧ ((s .reading (from' 0x2020) 0 (.bandOrder 0)).mover.access 15 = some ⟨0x203E, .readWord⟩
        ∧ (s .writing (to' 0x2020) 0 (.fill 0 1)).bands[0].role ≠ .emit) := by decide

/-! ### Witnesses: the Power Unit -/

theorem witness_SleepIsEnteredOrAbandoned :
    let s := accessing 0x6000 .readWord (.held .rest) (powered .sleepPending .confirming)
    let asked := s.askSelfRefresh true
    s.power.settings = some wakeSettings
      ∧ (s.power.state = .sleepPending ∧ s.power.entering = false ∧ s.passage.cpu.map (·.status) = some (.held .rest)
        ∧ s.reports.pending = [] ∧ s.reports.waiting = [] ∧ s.power.wakeWrites = [])
      ∧ (asked.port.selfAsked = true ∧ asked.port.grant = none ∧ asked.port.refreshDue = false ∧ asked.port.dram = .active)
      ∧ s.power.sleepLimit = true ∧ booted.power.sleepLimit = false := by decide

theorem witness_WakeCausesAreTaken :
    let asleep := powered .sleeping .confirming
    let pending := powered .sleepPending .confirming
    (asleep.power.settings = some wakeSettings ∧ asleep.power.state = .sleeping ∧ asleep.power.patternTimers[3] = true
        ∧ asleep.power.wakeTimer.isSome)
      ∧ (pending.power.state = .sleepPending ∧ pending.power.patternTimers[0] = true ∧ pending.hasReports = true
        ∧ pending.reports.pending.length < 8 ∧ pending.powerWaits 1 = false)
      ∧ booted.power.patternTimers[3] = false := by decide

/-- A cause with the processor's request free, with one in hand, and a grant of the processor that ends with a wake word still
to be written. -/
theorem witness_WakeCausesAreTaken_asks :
    let asleep := powered .sleeping .confirming
    let ends := granted (.processor .nothing) (accessing 0x3000 .readByte (.passing .plain) asleep)
    let owed := ends.withPower { ends.power with wakeWrites := [(0x6000, 5)] }
    (asleep.port.procReq = none ∧ asleep.port.grant = none ∧ asleep.power.wakeTimer.isSome)
      ∧ (asleep.withPort { asleep.port with procReq := some .access }).port.procReq ≠ none
      ∧ (owed.port.grant = some (.processor .nothing) ∧ owed.passage.cpu.isSome ∧ owed.port.procReq = none
        ∧ owed.power.wakeWrites ≠ [] ∧ owed.power.settings = some wakeSettings) := by decide

theorem witness_WakesAreWrittenAndConfirmed :
    let wakes (kept : Bool) : State :=
      let s := granted .wakeWord (powered .wakeConfirm .waking)
      s.withPower { s.power with wakeWrites := [(0x6000, 5)], noticeKept := kept }
    let lapses := powered .wakeConfirm .confirming
    ((wakes false).port.grant = some .wakeWord ∧ (wakes false).power.wakeWrites = (0x6000, 5) :: []
        ∧ (wakes false).power.state = .wakeConfirm ∧ (wakes false).power.stage = .waking
        ∧ (wakes false).power.settings = some wakeSettings ∧ wakeSettings.ended = false)
      ∧ ((wakes false).hasReports = true ∧ (wakes false).reports.pending = [] ∧ (wakes false).powerWaits 1 = false
        ∧ (wakes false).passage.cpu = none ∧ (wakes false).power.noticeKept = false ∧ (wakes true).power.noticeKept = true)
      ∧ (lapses.power.state = .wakeConfirm ∧ lapses.power.confirmTimer.isSome ∧ lapses.power.lapse ≤ 1)
      ∧ booted.power.confirmTimer = none := by decide

/-- The wake word of a sleep that ended WOKEN_EARLY, with no access and with the rest read held. -/
theorem witness_WakesAreWrittenAndConfirmed_early :
    let s := granted .wakeWord (booted.withPower { booted.power with wakeWrites := [(0x6000, 5)] })
    let held := accessing 0x6000 .readWord (.held .rest) s
    (s.port.grant = some .wakeWord ∧ s.power.wakeWrites = (0x6000, 5) :: [] ∧ s.power.state = .running
        ∧ s.passage.cpu = none)
      ∧ (held.passage.cpu.map (·.status) = some (.held .rest)
        ∧ held.classify .processor ⟨0x6000, .readWord⟩ = .pass .plain) := by decide

/-- A wake with the rest read held and a POWER MUTED report held; a lapse with an access outstanding, with none, and with a report
to post; the clock stopping at the end of that access; and the posting of the last report and of one before it. -/
theorem witness_WakesAreWrittenAndConfirmed_returns :
    let x : Report := ⟨.boot, 1, List.replicate 7 0⟩
    let muted : Report := ⟨.power, 3, List.replicate 7 0⟩
    let wakes : State :=
      let s := granted .wakeWord (accessing 0x6000 .readWord (.held .rest) (powered .wakeConfirm .waking))
      (s.withPower { s.power with wakeWrites := [(0x6000, 5)] }).withRing { s.ring with heldMuted := some muted }
    let lapses := powered .wakeConfirm .confirming
    let access (s : State) := accessing 0x3000 .readByte (.passing .plain) s
    let stops := granted (.processor .nothing) (access (powered .wakeConfirm .stopClock))
    let posts (l : List Report) : State :=
      let s := granted .report (powered .wakeConfirm .postReports)
      s.withReports { s.reports with pending := l }
    (wakes.passage.cpu.map (·.status) = some (.held .rest) ∧ wakes.classify .processor ⟨0x6000, .readWord⟩ = .pass .plain
        ∧ wakes.hasReports = true ∧ wakes.reports.pending = [] ∧ wakes.powerWaits 1 = false ∧ wakes.powerWaits 3 = false)
      ∧ (lapses.power.state = .wakeConfirm ∧ lapses.moverFree = false ∧ lapses.passage.cpu = none ∧ lapses.reports.pending = []
        ∧ (access lapses).passage.cpu.isSome ∧ ¬ lapses.reports.count ≤ lapses.reports.unconsumed.length)
      ∧ (stops.power.stage = .stopClock ∧ stops.port.grant = some (.processor .nothing) ∧ stops.passage.cpu.isSome)
      ∧ ((posts [x]).power.stage = .postReports ∧ (posts [x]).port.grant = some .report ∧ (posts [x]).reports.waiting = []
        ∧ (posts [x, x]).reports.pending = x :: [x]
        ∧ (posts [x, x]).reports.unconsumed.length + 1 < (posts [x, x]).reports.count) := by decide

/-- The part with a burst in progress and other counts of the qualifier. -/
def ringing (periods : List Nat) (qualified noise : Nat) : State :=
  booted.withRing { booted.ring with burst := some periods, qualified := qualified, noise := noise, window := true }

/-- With the default settings: bursts of the least length and the greatest period, one without a period, one of a period
below the least; the count at one below the count needed, the noise at its limit. -/
theorem witness_BurstsAreJudged :
    let g := booted.ring.settings
    let good : List Nat := [67000, 67000, 66000]
    let asleep := (powered .sleeping .confirming).withRing (ringing [] 0 31).ring
    (g.qualifies good = true ∧ good.sum = g.lengthMin * 100000 ∧ (ringing good 0 0).ring.burst = some good)
      ∧ (g.qualifies [] = false ∧ g.qualifies (13999 :: good) = false)
      ∧ ((ringing good 0 0).boot.state = .done ∧ (ringing good 0 0).ring.muted = false)
      ∧ ((ringing good 0 0).ring.qualified + 1 < g.needed ∧ g.needed ≤ (ringing good 1 0).ring.qualified + 1
        ∧ (ringing good 1 0).ringingEnabled = false ∧ (ringing good 1 0).powerWaits 2 = false)
      ∧ ((ringing [] 0 30).ring.noise + 1 ≤ g.noiseLimit ∧ g.noiseLimit < (ringing [] 0 31).ring.noise + 1
        ∧ (ringing [] 0 31).power.state ≠ .sleeping ∧ (ringing [] 0 31).powerWaits 3 = false
        ∧ (ringing [] 0 31).hasReports = true ∧ (ringing [] 0 31).reports.pending.length < 8)
      ∧ (asleep.power.state = .sleeping ∧ asleep.ring.noise = 31 ∧ asleep.ring.window = true)
      ∧ ((ringing [] 0 0).withRing { (ringing [] 0 0).ring with muted := true }).ring.muted = true := by decide

/-- No burst in progress; gaps of 100 ms and of 1 us more; a call with RINGING enabled in SLEEPING and in SLEEP_PENDING; the
window timer running and stopped. -/
theorem witness_BurstsAreJudged_wake :
    let good : List Nat := [67000, 67000, 66000]
    let calls (x : PowerState) := (powered x .confirming).withRing (ringing good 1 0).ring
    (booted.boot.state = .done ∧ booted.ring.burst = none ∧ booted.ring.window = false ∧ (ringing good 1 0).ring.window = true)
      ∧ (100000 ≤ 100000 ∧ 100000 < 100001)
      ∧ ((calls .sleeping).power.state = .sleeping ∧ (calls .sleeping).power.settings = some wakeSettings
        ∧ wakeSettings.ringing = true ∧ (calls .sleeping).ring.muted = false
        ∧ (calls .sleeping).ring.settings.needed ≤ (calls .sleeping).ring.qualified + 1)
      ∧ ((calls .sleepPending).power.state = .sleepPending ∧ (calls .sleepPending).hasReports = true
        ∧ (calls .sleepPending).reports.pending.length < 8 ∧ (calls .sleepPending).powerWaits 1 = false) := by decide

/-! ### Worked cases of the spec's examples -/

/-- EXAMPLE 1, events 1 and 2: with the queue full, a guarded write and a no-memory read are counted; the read returns
FFFFh. -/
theorem test_example1_lost_faults :
    let one := after (.processorAccess 0x000010 (.writeByte 1)) (crowded booted)
    let two := after (.processorAccess 0x2A0000 .readWord) one
    one.passage.unposted = 1 ∧ two.passage.unposted = 2 ∧ two.passage.reply.map (·.data) = some (some 0xFFFF) := by decide

/-- EXAMPLE 1, event 5: the expiry's report carries the count 2 in its body word 4, and the write is not in memory. -/
theorem test_example1_expiry_carries_count :
    let s := booted.withPassage { booted.passage with
      unposted := 2, cpu := some ⟨⟨0x2020, .writeWord 1⟩, .held (.line 0 1), .running 4⟩ }
    let t := after .accessHoldExpiry s
    t.reports.pending.map (fun r => (r.cls, r.code, r.body.getD 3 0)) = [(.passage, 3, 2)] ∧ t.passage.unposted = 0
      ∧ t.dramWord 0x2020 = 0 := by decide

/-- EXAMPLE 3, events 2 and 3: after sequence 15 comes 1, and the head of a BAND NOTICE with sequence 15 is 301Fh
(Table 11-6). -/
theorem test_example3_sequence_wraps :
    let s := granted .report (booted.withReports { booted.reports with
      seq := 15, post := 1, unconsumed := [.sensor], pending := [⟨.band, 1, List.replicate 7 0⟩] })
    let t := after .reportPostEnd s
    t.dramWord 0x1110 = 0x301F ∧ t.reports.seq = 1 ∧ t.reports.post = 2 ∧ t.reports.attention = true := by decide

/-- EXAMPLE 4, events 8 to 10: a strobe end, a fetch and a fill of a full band of four lines (Table 3-2). -/
theorem test_example4_band_events :
    let full : Band := { bandOn .emit 3 with c := 4, f := 0, d := 0, draining := 2 }
    let line (b : Band) := (List.range 4).map b.lineState
    line full = [.draining, .draining, .full, .full]
      ∧ line full.strobeEnd = [.empty, .draining, .full, .full] ∧ full.strobeEnd.d = 1 ∧ full.strobeEnd.c = 3
      ∧ line full.strobeEnd.fetch = [.empty, .draining, .draining, .full]
      ∧ line full.strobeEnd.fetch.fill = [.full, .draining, .draining, .full] ∧ full.strobeEnd.fetch.fill.f = 1 := by decide

/-- R65: a closing read of line 1 judged out of turn keeps that judgement when a drain of line 0 makes line 1 line D, for the
processor and for a mover burst; an access that waits on line 0 is to be judged again. -/
theorem test_standing_judgement :
    let order : Path := .band 0 (some (.bandOrder 0))
    let b : Band := { bandOn .capture 2 with c := 2, f := 2 }
    let s := (accessing 0x203E .readWord (.passing order) (booted.withBand 0 b)).withPort
      { booted.port with moverReq := some [.band 0 (some .nothing), order] }
    let m := s.withMover { Mover.reset with
      state := .reading, chunkSize := 16, params := { transferParams with seg1 := ⟨0x203C, 0x5000, 64⟩ } }
    let line0 := m.withMover { m.mover with params := { transferParams with seg1 := ⟨0x201C, 0x5000, 64⟩ } }
    let drained (v : State) : State := v.withLines 0 b.drain
    (drained m).bands[0].d = 1 ∧ (drained m).bands[0].judge 0 1 30 .readWord = .pass (.drain 0 1)
      ∧ (drained m).passage.cpu.map (·.status) = some (.passing order)
      ∧ (drained m).port.moverReq = some [.band 0 (some .nothing), order]
      ∧ (drained m).moverCut [.band 0 (some .nothing), order] 0 = (2, .bandOrder 0)
      ∧ (drained line0).port.moverReq = some [.band 0 none, .band 0 none] := by decide

/-- EXAMPLE 5, Table 4-3: the ramp levels of steps 2 to 12, from the level, the steps at level and R before each. -/
theorem test_example5_ramp :
    let p : List Level := [⟨250, 2⟩, ⟨150, 3⟩, ⟨100, 1⟩]
    [(0, 1, 11), (0, 2, 10), (1, 1, 9), (1, 2, 8), (1, 3, 7), (2, 1, 6), (2, 2, 5), (1, 1, 4), (1, 2, 3), (1, 3, 2),
      (0, 1, 1)].map (fun x => rampLevel p x.1 x.2.1 x.2.2) = [0, 1, 1, 1, 2, 2, 1, 1, 1, 0, 0] := by decide

/-- EXAMPLE 5: step 8 takes the phase index from 7 to 0, and the last step's figures are those of the report. -/
theorem test_example5_phase_wraps :
    let c : Channel := { Channel.reset with phase := 7, made := 11 }
    (c.moveStep none).phase = 0 ∧ { c.moveStep none with phase := 4 }.moveFigures = [12, 0, 0x0400] := by decide

/-- EXAMPLE 7, events 7 and 5: the claim beside a line WRITING is of line 2; with a store CLOCKING an overrun is counted. -/
theorem test_example7_claims :
    let b : Band := { bandOn .capture 2 with lines := 16, f := 1, c := 1, filling := 1 }
    let s := (capturing .scanning).withBand 0 b
    let r := CaptureRecord.start
    let at' (x : CaptureStore) := (s.withCapture { s.capture with storeA := x }).beginLine captureParams r
    (at' (.writing 1 [])).capture.storeB = .clocking 2 ∧ (at' (.writing 1 [])).bands[0].filling = 2
      ∧ (at' (.clocking 1)).capture.record.map (·.overruns) = some 1 ∧ (at' (.clocking 1)).bands[0].filling = 1 := by decide

/-- EXAMPLE 8, event 3: the latch of line 0 lets the shift of line 1 begin. -/
theorem test_example8_latch :
    let e : EmitEngine := { EmitEngine.reset with
      storeA := { state := .shifted, line := 0, words := [1] }, storeB := { state := .fetched, line := 1, words := [2] }
      shiftReg := some [1] }
    (e.latchStore .a).storeA.state = .strobing ∧ (e.latchStore .a).storeB.state = .shifting
      ∧ (e.latchStore .a).latch = some [1] := by decide

/-- EXAMPLE 8, event 10: the paper stop reverts the fetched line, and the report carries 2 lines and PAPER OUT. -/
theorem test_example8_paper_stop :
    let r : EmitRecord := { EmitRecord.start with phase := .printing, stepsInLine := 1, paperLost := true, printed := 2 }
    let b : Band := { bandOn .emit 3 with lines := 8, c := 3, d := 2, f := 5, draining := 1 }
    let t := after (.stepTimerExpiry .p) ((emittingAt r b).withEmit
      { (emittingAt r b).emit with storeA := { state := .shifted, line := 2, words := [] } })
    t.bands[1].draining = 0 ∧ t.bands[1].c = 3 ∧ t.emit.storeA = PrintStore.none ∧ t.chanP.state = .holding
      ∧ (t.running .p).map (fun x => (x.result, x.figures)) = some (.paperOut, [2, 3]) := by decide

/-- EXAMPLE 11, event 1: the 16 words of the oldest line pass in one burst, whose closing word drains the line. -/
theorem test_example11_burst_drains :
    let s := (running .mover (.transfer transferParams) .active booted).withMover
      { Mover.reset with
        state := .reading, chunkSize := 16
        params := { transferParams with seg1 := ⟨0x2000, 0x5000, 64⟩ } }
    let t := after .moverGrantEnd (granted (.mover 16 (.drain 0 0)) s)
    (s.moverBurst 16 0).length = 16 ∧ s.moverCut (s.moverBurst 16 0) 0 = (16, .drain 0 0)
      ∧ t.bands[0].c = 0 ∧ t.bands[0].d = 1 ∧ t.mover.state = .writing := by decide

/-- EXAMPLE 12, events 4 to 6: three pulses 8 ms apart are noise; 25 pulses 40 ms apart qualify, and the second such burst
is a call. -/
theorem test_example12_bursts :
    let noisy := after .burstEnd (ringing [8000, 8000] 0 0)
    let first := after .burstEnd (ringing (List.replicate 24 40000) 0 1)
    let call := after .burstEnd (ringing (List.replicate 24 40000) 1 0)
    noisy.ring.noise = 1 ∧ first.ring.noise = 0 ∧ first.ring.qualified = 1 ∧ first.ring.window = true
      ∧ call.ring.qualified = 0 ∧ call.ring.window = false
      ∧ call.reports.pending.map (fun r => (r.cls, r.code)) = [(.power, 2)] := by decide

/-! ### Worked cases of single rules -/

/-- A word stands with its more significant byte at the lower address, also for a write at an odd address (0.8, R1). -/
theorem test_word_write_at_odd_address :
    let t := after .processorGrantEnd
      (granted (.processor .nothing) (accessing 0x3001 (.writeWord 0x1234) (.passing .plain) booted))
    t.dramByte 0x3000 = 0x12 ∧ t.dramByte 0x3001 = 0x34 ∧ t.dram = [(0x3000, 0x12), (0x3001, 0x34)] := by decide

/-- Pixel 0 is bit 15 of word 0, and pixel 17 bit 14 of word 1 (R94). -/
theorem test_pixel_places :
    pixelWords ([true] ++ List.replicate 16 false ++ [true] ++ List.replicate 14 false) 4 = [0x8000, 0x4000] := by decide

/-- The taken write of order kind 10h in slot 0 leaves the head 1020h (Table 11-2). -/
theorem test_taken_head :
    (after .takenWriteEnd (granted (.intake .taken) (holding kindMove .taken [] booted))).dramWord 0x1000 = 0x1020 := by decide

/-- A wake by pattern 3 with lapse count 1 and the qualifier muted is the word 0114h (Table 11-10). -/
theorem test_wake_word : wakeWord (WakeCause.pattern 3).code 1 true = 0x0114 := by decide

/-- A step in the FULL mode in REVERSE takes the phase index from 1 to 7 (R73). -/
theorem test_full_step_reverse :
    { Channel.reset with phase := 1, mode := .full, dir := .reverse, driven := some 1 }.step.driven = some 7 := by decide

/-- SET WINDOW makes entry 6 a GUARD window of 256 bytes at 3000h (R11, Table 11-3). -/
theorem test_set_window :
    (after .setWindow (holding kindSetWindow .validate [0x0106, 0x30, 1] booted)).windows[6] = entry .guard 0x3000 0x100 := by
  decide

/-- Slot 0, posted while a final write waits, stays POSTED while that is asked for and made, and is FETCHING once the body
fetch is requested (R29, R37). -/
theorem test_fetching_at_the_request :
    let posts := granted (.processor .nothing) (accessing 0x1000 (.writeWord 0x1010) (.passing .plain) booted)
    let asked := after .processorGrantEnd (owing posts)
    let fetching := after .finalWriteEnd (after .arbiterGrant asked)
    (asked.port.intakeReq = some (.final ⟨.sleep, 2, kindSleep, .ok⟩) ∧ asked.intake.inHand.isSome
        ∧ (asked.intake.slot 0).state = .posted ∧ asked.intake.state = .waiting)
      ∧ fetching.port.intakeReq = some .fetch ∧ (fetching.intake.slot 0).state = .fetching
      ∧ fetching.intake.state = .fetching := by decide

/-- An ABORT of an EMIT whose report waits makes the result ABORTED, in its record too, and nothing else there (R117). -/
theorem test_abort_in_done :
    let s := holding kindAbort .validate [1] (running .p (.emit emitParams) .offered (emitting .done))
    (after .abort s).emit.record = s.emit.record.map (fun r => { r with result := .aborted })
      ∧ ((after .abort s).running .p).map (·.result) = some .aborted := by decide

/-- A CAPTURE jammed in APPROACH is in DONE with no step in that phase (R99, R101). -/
theorem test_jam_in_approach :
    let r := { CaptureRecord.start with phase := .approach, stepsInPhase := captureParams.jam }
    ((after (.stepTimerExpiry .d) (capturingAt r booted.bands[0])).capture.record.map fun x =>
      (x.phase, x.stepsInPhase, x.endPhase, x.result)) = some (.done, 0, .approach, .jam) := by decide

end Sys2Proof.Tests
end

section
/-! What SET PROFILE and the end of its record read do, one equation per case (R80, R81). -/

namespace Sys2Proof.Machine

variable {s : State} {h : InHand} {addr total : Nat} {ws : List Word}

/-! ### Numbers, addresses and levels in range -/

theorem fin8?_eq_none {n : Nat} (hn : 7 < n) : fin8? n = none := dif_neg (by omega)

@[simp] theorem fin8?_val (p : Fin 8) : fin8? p.val = some p := dif_pos p.isLt

theorem State.inDram_iff {bytes : Nat} : s.inDram addr bytes = true ↔ addr + bytes ≤ s.installed :=
  decide_eq_true_iff

theorem Level.inRange_iff {l : Level} :
    l.inRange = true ↔ 16 ≤ l.interval ∧ l.interval ≤ 4095 ∧ 1 ≤ l.dwell ∧ l.dwell ≤ 255 := by
  simp [Level.inRange, and_assoc]

/-! ### The checks of SET PROFILE (R80) -/

/-- The number of the profile that a SET PROFILE replaces (Table 11-3). -/
def InHand.profileNumber (h : InHand) : Nat := bits (bodyWord h.body 1) 7 0

/-- The address of the record that a SET PROFILE reads (Table 11-3). -/
def InHand.profileAddr (h : InHand) : Nat := addressPair (bodyWord h.body 2) (bodyWord h.body 3)

/-- A SET PROFILE that has passed its checks: EXECUTING, with the header word of its record to be read first (R81). -/
def State.beginProfileRead (s : State) (h : InHand) : State :=
  let s1 := s.withStage h (.reading h.profileAddr [] 1)
  s1.withIntake { s1.intake with state := .executing }

theorem State.setProfile_of_number_out_of_range (hn : 7 < h.profileNumber) :
    s.setProfile h = s.refuseOrder h .refusedParam := by
  rw [InHand.profileNumber] at hn
  simp only [State.setProfile, fin8?_eq_none hn]

/-- The checks that follow once the number names a profile. -/
theorem State.setProfile_of_number {p : Fin 8} (hn : h.profileNumber = p.val) :
    s.setProfile h =
      if h.profileAddr % 2 = 1 ∨ !s.inDram h.profileAddr 66 then s.refuseOrder h .refusedParam
      else if s.profileRuns .d p ∨ s.profileRuns .p p then s.refuseOrder h .refusedState
      else s.beginProfileRead h := by
  rw [InHand.profileNumber] at hn
  simp only [State.setProfile, hn, fin8?_val]
  rfl

/-- A number, a parity or a place that is out of range is refused with REFUSED_PARAM, whatever the queues run. -/
theorem State.setProfile_refusedParam
    (bad : 7 < h.profileNumber ∨ h.profileAddr % 2 = 1 ∨ s.installed < h.profileAddr + 66) :
    s.setProfile h = s.refuseOrder h .refusedParam := by
  rcases Nat.lt_or_ge 7 h.profileNumber with hn | hn
  · exact State.setProfile_of_number_out_of_range hn
  · have outside : h.profileAddr % 2 = 1 ∨ (!s.inDram h.profileAddr 66) = true := by
      rw [Bool.not_eq_true', ← Bool.not_eq_true, State.inDram_iff]
      omega
    rw [State.setProfile_of_number (p := ⟨h.profileNumber, by omega⟩) rfl, if_pos outside]

/-- An address that is even, with the 66 bytes from it in installed DRAM, passes the check of the address. -/
theorem State.profileAddr_passes (even : h.profileAddr % 2 = 0) (fits : h.profileAddr + 66 ≤ s.installed) :
    ¬ (h.profileAddr % 2 = 1 ∨ (!s.inDram h.profileAddr 66) = true) := by
  simp [State.inDram_iff.mpr fits, even]

theorem State.setProfile_refusedState {p : Fin 8} (hn : h.profileNumber = p.val) (even : h.profileAddr % 2 = 0)
    (fits : h.profileAddr + 66 ≤ s.installed) (runs : s.profileRuns .d p = true ∨ s.profileRuns .p p = true) :
    s.setProfile h = s.refuseOrder h .refusedState := by
  rw [State.setProfile_of_number hn, if_neg (State.profileAddr_passes even fits), if_pos runs]

theorem State.setProfile_reads {p : Fin 8} (hn : h.profileNumber = p.val) (even : h.profileAddr % 2 = 0)
    (fits : h.profileAddr + 66 ≤ s.installed) (free : ¬ (s.profileRuns .d p = true ∨ s.profileRuns .p p = true)) :
    s.setProfile h = s.beginProfileRead h := by
  rw [State.setProfile_of_number hn, if_neg (State.profileAddr_passes even fits), if_neg free]

/-- SET_PROFILE leads to what the checks of the order in hand give. -/
theorem leads_setProfile {u : State} (hs : s.orderInHand kindSetProfile = some h) (hu : s.setProfile h = u) :
    Leads .setProfile s u :=
  leads_of_finish (hu ▸ onOrder_eq hs fun h s => s.setProfile h)

/-! ### The end of a record read (R81) -/

/-- The header word's level count is out of range. -/
theorem State.profileRead_bad_count (hn : (ws.getD 0 0).toNat < 1 ∨ 16 < (ws.getD 0 0).toNat) :
    s.profileRead h addr ws 1 = s.refuseOrder h .refusedParam := by
  have bad : ¬ (1 ≤ (ws.getD 0 0).toNat ∧ (ws.getD 0 0).toNat ≤ 16) := by omega
  rw [State.profileRead, if_pos rfl, if_neg bad]

/-- The header word's level count gives the words of the whole record. -/
theorem State.profileRead_count (low : 1 ≤ (ws.getD 0 0).toNat) (high : (ws.getD 0 0).toNat ≤ 16) :
    s.profileRead h addr ws 1 = s.withStage h (.reading addr ws (1 + 2 * (ws.getD 0 0).toNat)) := by
  rw [State.profileRead, if_pos rfl, if_pos ⟨low, high⟩]

/-- Words of the levels are still to be read. -/
theorem State.profileRead_part (ht : total ≠ 1) (more : ws.length < total) :
    s.profileRead h addr ws total = s.withStage h (.reading addr ws total) := by
  rw [State.profileRead, if_neg ht, if_pos more]

/-- The record is whole: its levels are judged together. -/
theorem State.profileRead_whole (ht : total ≠ 1) (whole : total ≤ ws.length) :
    s.profileRead h addr ws total =
      if (profileLevels (ws.drop 1)).all Level.inRange then
        (s.withProfiles (s.profiles.set (Fin.ofNat 8 h.profileNumber) (profileLevels (ws.drop 1)))).completeOrder h
      else s.refuseOrder h .refusedParam := by
  rw [State.profileRead, if_neg ht, if_neg (Nat.not_lt.mpr whole)]
  rfl

theorem State.profileRead_bad_level (ht : total ≠ 1) (whole : total ≤ ws.length)
    (bad : ∃ l ∈ profileLevels (ws.drop 1), l.inRange = false) :
    s.profileRead h addr ws total = s.refuseOrder h .refusedParam := by
  have some_bad : ¬ (profileLevels (ws.drop 1)).all Level.inRange = true := by
    simpa only [Bool.not_eq_true, List.all_eq_false] using bad
  rw [State.profileRead_whole ht whole, if_neg some_bad]

theorem State.profileRead_replaces (ht : total ≠ 1) (whole : total ≤ ws.length)
    (good : ∀ l ∈ profileLevels (ws.drop 1), 16 ≤ l.interval ∧ l.interval ≤ 4095 ∧ 1 ≤ l.dwell ∧ l.dwell ≤ 255) :
    s.profileRead h addr ws total =
      (s.withProfiles (s.profiles.set (Fin.ofNat 8 h.profileNumber) (profileLevels (ws.drop 1)))).completeOrder h := by
  have all_good : (profileLevels (ws.drop 1)).all Level.inRange = true :=
    List.all_eq_true.mpr fun l hl => Level.inRange_iff.mpr (good l hl)
  rw [State.profileRead_whole ht whole, if_pos all_good]

/-- The read grant in progress is one of the record of the order in hand. -/
theorem State.recordRead_eq {g n : Nat} (hh : s.intake.inHand = some h) (hs : h.stage = .reading addr ws total)
    (hg : s.port.grant = some (.intake (.read g n))) :
    s.recordRead h.kind = some (h, addr, ws, total, g, n) := by
  simp only [State.recordRead, hh, hg, hs, if_true]

/-- PROFILE_RECORD_READ_END leads to what the words read so far give. -/
theorem leads_profileRecordReadEnd {g n : Nat} {u : State} (hh : s.intake.inHand = some h)
    (hk : h.kind = kindSetProfile) (hs : h.stage = .reading addr ws total)
    (hg : s.port.grant = some (.intake (.read g n)))
    (hu : s.freePort.profileRead h addr (ws ++ s.dramWords g n) total = u) : Leads .profileRecordReadEnd s u := by
  have hr : s.recordRead kindSetProfile = some (h, addr, ws, total, g, n) := hk ▸ State.recordRead_eq hh hs hg
  have he : execProfileRecordReadEnd s = finish u := by simp only [execProfileRecordReadEnd, hr, hu]
  exact leads_of_finish he

/-- With no final write that waits, the Intake goes on reading behind the words it has, at most 7 at a time (R81). -/
theorem Intake.nextJob_reading {i : Intake} (hh : i.inHand = some h) (hs : h.stage = .reading addr ws total)
    (hw : i.finalWrites = []) :
    i.nextJob = some (.read (addr + 2 * ws.length) (min Config.recordWords (total - ws.length))) := by
  simp only [Intake.nextJob, hw, hh, hs]

/-- Settles O39: the checks of the order, the ends of its read grants, and the grants it asks for. -/
theorem profilesAreReadWhole : Obligations.ProfilesAreReadWhole := by
  intro s h
  refine ⟨fun hs => ⟨?param, fun p hn even fits => ⟨?state, ?reads⟩⟩,
    fun ws total g k hh hk hst hg => ⟨?badCount, ?count, ?part, ?badLevel, ?replaced⟩,
    fun ws total hh hst hw => Intake.nextJob_reading hh hst hw⟩
  case param => exact fun bad => leads_setProfile hs (State.setProfile_refusedParam bad)
  case state => exact fun runs => leads_setProfile hs (State.setProfile_refusedState hn even fits runs)
  case reads =>
    intro notD notP
    exact leads_setProfile hs (State.setProfile_reads hn even fits (by simp [notD, notP]))
  case badCount =>
    rintro rfl bad
    exact leads_profileRecordReadEnd hh hk hst hg (State.profileRead_bad_count bad)
  case count =>
    rintro rfl low high
    exact leads_profileRecordReadEnd hh hk hst hg (State.profileRead_count low high)
  case part => exact fun ht more => leads_profileRecordReadEnd hh hk hst hg (State.profileRead_part ht more)
  case badLevel =>
    exact fun ht whole bad => leads_profileRecordReadEnd hh hk hst hg (State.profileRead_bad_level ht whole bad)
  case replaced =>
    exact fun ht whole good => leads_profileRecordReadEnd hh hk hst hg (State.profileRead_replaces ht whole good)

end Sys2Proof.Machine
end

section
/-! What SET RINGING, an edge with no burst in progress, and a reset do to the ringing qualifier (R153, R154, R156). -/

namespace Sys2Proof.Machine

variable {s : State} {h : InHand}

/-! ### Settings in range (R153) -/

@[simp] theorem within_iff {lo hi n : Nat} : within lo hi n = true ↔ lo ≤ n ∧ n ≤ hi := by
  simp only [within, Bool.and_eq_true, decide_eq_true_eq]

theorem RingSettings.valid_iff {r : RingSettings} :
    r.valid = true ↔ (10 ≤ r.periodMin ∧ r.periodMin ≤ 100) ∧ (10 ≤ r.periodMax ∧ r.periodMax ≤ 100)
      ∧ (1 ≤ r.lengthMin ∧ r.lengthMin ≤ 60) ∧ (1 ≤ r.lengthMax ∧ r.lengthMax ≤ 60) ∧ (1 ≤ r.needed ∧ r.needed ≤ 15)
      ∧ (1 ≤ r.window ∧ r.window ≤ 60) ∧ (1 ≤ r.noiseLimit ∧ r.noiseLimit ≤ 255)
      ∧ r.periodMin ≤ r.periodMax ∧ r.lengthMin ≤ r.lengthMax := by
  simp only [RingSettings.valid, Bool.and_eq_true, within_iff, decide_eq_true_eq, and_assoc]

/-! ### The qualifier started afresh (R156) -/

/-- A SET RINGING keeps only the POWER MUTED report held for the wake. -/
theorem Ringing.set_eq (r : Ringing) (x : RingSettings) :
    r.set x = { settings := x, burst := none, qualified := 0, window := false, noise := 0, muted := false,
                heldMuted := r.heldMuted } := rfl

@[simp] theorem State.resetPart_ring (cause : ResetKind) (words : Nat) :
    (s.resetPart cause words).ring = Ringing.reset := rfl

@[simp] theorem State.risePower_ring : s.risePower.ring = Ringing.reset := rfl

/-! ### The order (R156) -/

theorem State.setRinging_refusedParam {body : List Word} (bad : ¬ (ringSettingsOf body).valid = true) :
    s.setRinging body = .error .refusedParam := by
  rw [State.setRinging, check, if_neg bad]
  rfl

theorem State.setRinging_replaces {body : List Word} (good : (ringSettingsOf body).valid = true) :
    s.setRinging body = .ok (s.withRing (s.ring.set (ringSettingsOf body))) := by
  rw [State.setRinging, check, if_pos good]
  rfl

/-- SET_RINGING leads to what the checks of the order in hand give. -/
theorem leads_setRinging {e : Except Result State} (hs : s.orderInHand kindSetRinging = some h)
    (he : s.setRinging h.body = e) : Leads .setRinging s (s.settleOrder h e) :=
  leads_of_finish (he ▸ onOrder_eq hs fun h s => s.settleOrder h (s.setRinging h.body))

/-! ### The edge that begins a burst (R154) -/

/-- With no burst in progress an edge begins one, however soon it comes after the edge before. -/
theorem leads_ringingPulse_begins (gap : Nat) (done : s.boot.state = .done) (idle : s.ring.burst = none) :
    Leads (.ringingPulse gap) s (s.withRing { s.ring with burst := some [] }) := by
  have begins : execRingingPulse gap s = finish (s.withRing { s.ring with burst := some [] }) := by
    simp only [execRingingPulse, if_pos done, idle]
  exact leads_of_finish begins

/-- Settles O41: the two results of the order, the first edge after it, and the two kinds of reset. -/
theorem setRingingStartsAfresh : Obligations.SetRingingStartsAfresh := by
  intro s h hs
  refine ⟨?refused, ?replaced, ?nextEdge, fun _ _ => State.resetPart_ring _ _, State.risePower_ring⟩
  case refused =>
    intro bad
    exact leads_setRinging hs (State.setRinging_refusedParam (mt RingSettings.valid_iff.mp bad))
  case replaced =>
    intro good
    have leads := leads_setRinging hs (State.setRinging_replaces (RingSettings.valid_iff.mpr good))
    rw [Ringing.set_eq] at leads
    exact leads
  case nextEdge =>
    intro t gap afresh done
    exact leads_ringingPulse_begins gap done (congrArg Ringing.burst afresh)

end Sys2Proof.Machine
end

section
/-! What a command can do, said once: every command completes, and leaves the state as it is or makes one of the effects
listed here, after which what follows of itself may follow. -/

namespace Sys2Proof.Machine

open Sys2Proof

/-- The effects of the commands, each with what must hold for it: `Effect c s u` tells that command `c` can take state `s`
to state `u`, the state right after its event. -/
inductive Effect : Instr → State → State → Prop
  | powerOn {s} : s.pins.supply = false → Effect .powerOn s s.risePower
  | supplyFall {s} : Effect .supplyFall s s.losePower
  | resetLineUp {s words} : Effect (.resetLineAssert words) s ((s.withResetLine true).resetPart .resetLine words)
  | resetLineUnpowered {s words} : Effect (.resetLineAssert words) s (s.withResetLine true)
  | resetLineDown {s} : Effect .resetLineRelease s
      ((s.withResetLine false).withBoot { s.boot with holdDelay := s.pins.supply && s.boot.state = .hold })
  | holdDelayEnd {s} : s.boot.state = .hold → Effect .holdDelayEnd s
      (s.withBoot { s.boot with state := .header, holdDelay := false, headerWords := [] })
  | headerRead {s m offset} : s.bootGrant = some (.header offset) → Effect (.headerReadEnd m) s
      (s.freePort.judgeHeader (s.headerSoFar offset m))
  | fillEnd {s addr} : s.bootGrant = some (.fill addr) → Effect .fillEnd s
      ((s.endGrant (.boot (.fill addr))).withBoot { s.boot with fillOwed := false }.afterFill)
  | copyAttemptEnd {s addr ws h} : s.bootGrant = some (.copyWrite addr ws) → s.boot.header = some h →
      Effect .copyAttemptEnd s ((s.endGrant (.boot (.copyWrite addr ws))).withBoot (s.boot.endAttempt h.imageCrc))
  | bootRelease {s} : s.bootGrant = some .record → Effect .bootRelease s
      (s.endGrant (.boot .record)).releaseProcessor
  | headerBurst {s m offset} : s.bootGrant = some (.header offset) → Effect (.bootBurstEnd m) s
      (s.freePort.withBoot { s.boot with headerWords := s.headerSoFar offset m })
  | fillBurst {s m addr} : s.bootGrant = some (.fill addr) → Effect (.bootBurstEnd m) s
      ((s.endGrant (.boot (.fill addr))).withBoot { s.boot with pos := s.boot.pos + 2 * Config.burstWords })
  | copyReadBurst {s m offset n} : s.bootGrant = some (.copyRead offset n) → Effect (.bootBurstEnd m) s
      (s.freePort.withBoot { s.boot with
        buffer := misreadWords m (s.romWords offset n)
        crc := crcWords s.boot.crc (misreadWords m (s.romWords offset n)) })
  | copyWriteBurst {s m addr ws} : s.bootGrant = some (.copyWrite addr ws) → Effect (.bootBurstEnd m) s
      ((s.endGrant (.boot (.copyWrite addr ws))).withBoot { s.boot with pos := s.boot.pos + 2 * ws.length, buffer := [] })
  | processorAccess {s addr op} : Effect (.processorAccess addr op) s (s.presentCpu ⟨addr.toNat, op⟩ .unused)
  | arbiterGrant {s} : s.port.grant = none → Effect .arbiterGrant s s.grantNext
  | refreshDue {s} : Effect .refreshDue s (s.withPort { s.port with refreshTimer := false, refreshDue := true })
  | refreshCycleEnd {s} : s.port.grant = some .refresh → Effect .refreshCycleEnd s s.freePort
  | processorGrantEnd {s obs x} : s.port.grant = some (.processor obs) → s.passage.cpu = some x →
      Effect .processorGrantEnd s
        (((((s.endGrant (.processor obs)).completeCpu x.acc (s.cpuData x)).observeCpu x)).applyObs obs .processor x.acc.op
          x.acc.at)
  | accessHoldExpiry {s x b} : s.timedHold = some (x, b) → Effect .accessHoldExpiry s (s.expireHold x b)
  | bodyFetchEnd {s h} : s.port.grant = some (.intake .fetch) → s.intake.inHand = some h → Effect .bodyFetchEnd s
      ((s.endGrant (.intake .fetch)).withIntake { s.intake with
        inHand := some { h with body := s.dramWords (s.slotAddr h.slot + 2) 7, stage := .taken } })
  | taken {s h} : s.port.grant = some (.intake .taken) → s.intake.inHand = some h →
      Effect .takenWriteEnd s ((s.endGrant (.intake .taken)).notice.withStage h .validate)
  | takenUnknown {s h} : s.port.grant = some (.intake .taken) → s.intake.inHand = some h →
      Effect .takenWriteEnd s ((s.endGrant (.intake .taken)).notice.refuseOrder h .refusedKind)
  | restarted {s h} : s.port.grant = some (.intake (.own .ok)) → s.intake.inHand = some h →
      Effect .finalWriteEnd s ((s.endGrant (.intake (.own .ok))).resetPart .restart 0)
  | ownWrite {s h r} : s.port.grant = some (.intake (.own r)) → s.intake.inHand = some h →
      Effect .finalWriteEnd s ((s.endGrant (.intake (.own r))).endInHand h)
  | finalWrite {s w} : s.port.grant = some (.intake (.final w)) →
      Effect .finalWriteEnd s ((s.endGrant (.intake (.final w))).endFinalWrite w)
  | setWindow {s h} : Effect .setWindow s (s.settleOrder h (s.setWindow h.body))
  | clearWindow {s h} : Effect .clearWindow s (s.settleOrder h (s.clearWindow h.body))
  | setBand {s h} : Effect .setBand s (s.settleOrder h (s.setBand h.body))
  | resetBand {s h} : Effect .resetBand s (s.settleOrder h (s.resetBand h.body))
  | setProfile {s h} : Effect .setProfile s (s.setProfile h)
  | profileRecordReadEnd {s h addr ws total a n} : s.recordRead kindSetProfile = some (h, addr, ws, total, a, n) →
      Effect .profileRecordReadEnd s (s.freePort.profileRead h addr (ws ++ s.dramWords a n) total)
  | setChannel {s h} : Effect .setChannel s (s.settleOrder h (s.setChannel h.body))
  | setRinging {s h} : Effect .setRinging s (s.settleOrder h (s.setRinging h.body))
  | setAttention {s h} : Effect .setAttention s (s.settleOrder h (s.setAttention h.body))
  | sleep {s h} : Effect .sleep s (s.sleep h)
  | patternTableReadEnd {s h addr ws total a n} : s.recordRead kindSleep = some (h, addr, ws, total, a, n) →
      Effect .patternTableReadEnd s (s.freePort.patternsRead h addr (ws ++ s.dramWords a n) total)
  | restart {s h} : Effect .restart s (s.completeOrder h)
  | abort {s h} : Effect .abort s (s.settleOrder h (s.abort h.body))
  | emitEnd {s h} : Effect .emitEnd s (s.settleOrder h s.emitEnd)
  | move {s h} : Effect .move s (s.settleQueued h (s.moveOf h.body))
  | capture {s h} : Effect .capture s (s.settleQueued h (s.captureOf h.body))
  | emit {s h} : Effect .emit s (s.settleQueued h (s.emitOf h.body))
  | transfer {s h} : Effect .transfer s (s.transfer h)
  | segmentRecordReadEnd {s h addr ws total a n} : s.recordRead kindTransfer = some (h, addr, ws, total, a, n) →
      Effect .segmentRecordReadEnd s (s.freePort.segmentsRead h addr (ws ++ s.dramWords a n) total)
  | reportPostEnd {s} : s.port.grant = some .report → Effect .reportPostEnd s
      ((s.endGrant .report).withReports s.reports.posted).admitOne
  | chopPeriodStart {s} : Effect .chopPeriodStart s ((s.withChanD s.chanD.chopStart).withChanP s.chanP.chopStart)
  | stepTimerExpiry {s c} : Effect (.stepTimerExpiry c) s (s.stepExpired c)
  | holdTimerExpiry {s c} : Effect (.holdTimerExpiry c) s (s.withChan c (s.chan c).enterOff)
  | sensorInputChange {s x level} : Effect (.sensorInputChange x level) s
      (s.withSensors (s.sensors.set (sensorNumber x) (s.sensors[sensorNumber x].setInput level s.pins.supply)))
  | debouncedChange {s x reportLast pFirst} : Effect (.debouncedChange x reportLast pFirst) s
      ((s.withSensors (s.sensors.set (sensorNumber x) s.sensors[sensorNumber x].debounced)).deliver x
        s.sensors[sensorNumber x].input reportLast pFirst)
  | clockingEnd {s pixels p i line} : s.clockingLine = some (p, i, line) → Effect (.clockingEnd pixels) s
      (s.withCapture (s.capture.withStore i (.writing line (pixelWords pixels s.bands[p.band].width))))
  | writeBackEnd {s p r i words} : s.writtenLine = some (p, r, i, words) → Effect .writeBackEnd s
      ((s.endGrant (.writeBack i)).lineCaptured p r i words)
  | pauseTimerExpiry {s c} : Effect (.pauseTimerExpiry c) s (s.pauseExpired c)
  | fetchGrantEnd {s i} : s.port.grant = some (.fetch i) → Effect .fetchGrantEnd s
      ((s.endGrant (.fetch i)).lineFetched i)
  | shiftEnd {s i} : Effect .shiftEnd s
      (s.withEmit { s.emit.withStore i { s.emit.store i with state := .shifted } with
        shiftReg := some (s.emit.store i).words })
  | shiftEndLatched {s i} : Effect .shiftEnd s
      (s.withEmit { s.emit.withStore i { s.emit.store i with state := .shifted } with
        shiftReg := some (s.emit.store i).words }).tryLatch
  | nextGroup {s} : Effect .strobeGroupEnd s (s.withEmit { s.emit with group := s.emit.group + 1 })
  | strobeEnd {s p r i} : s.strobedLine = some (p, r, i) → Effect .strobeGroupEnd s (s.lineStrobed p r i)
  | moverGrantEnd {s n obs} : s.port.grant = some (.mover n obs) → Effect .moverGrantEnd s
      ((s.endGrant (.mover n obs)).endMoverGrant n obs)
  | sleepEntry {s} : Effect .sleepEntry s
      ((s.deEnergiseBoth.askSelfRefresh true).withPower { s.power with sleepLimit := false, entering := true })
  | selfRefreshEntry {s w} : s.power.settings = some w → Effect .selfRefreshEntry s
      ((s.withPort { s.port with dram := .selfRefresh, refreshTimer := false, selfAsked := false }).enterSleeping w)
  | sleepLimitExpiry {s} : Effect .sleepLimitExpiry s (s.endSleep .abandoned)
  | patternTimerExpiry {s p} : Effect (.patternTimerExpiry p) s (s.takeCause (.pattern p))
  | wakeTimerExpiry {s} : Effect .wakeTimerExpiry s (s.takeCause .timer)
  | wakeWordWritten {s a word rest} : s.port.grant = some .wakeWord → s.power.wakeWrites = (a, word) :: rest →
      Effect .wakeWordWritten s
        (((s.endGrant .wakeWord).withPower { s.power with wakeWrites := rest }).wakeWordDone word)
  | thirdLapse {s words} : Effect (.confirmTimerExpiry words) s (s.resetPart .lapse words)
  | lapse {s words} : Effect (.confirmTimerExpiry words) s
      (s.withPower { s.power with lapse := s.power.lapse + 1, confirmTimer := none, stage := .stopClock })
  | firstEdge {s gap} : Effect (.ringingPulse gap) s (s.withRing { s.ring with burst := some [] })
  | nextEdge {s gap ps} : Effect (.ringingPulse gap) s (s.withRing { s.ring with burst := some (ps ++ [gap]) })
  | lateEdge {s gap ps} : Effect (.ringingPulse gap) s
      ((s.judgeBurst ps).withRing { (s.judgeBurst ps).ring with burst := some [] })
  | burstEnd {s ps} : Effect .burstEnd s (s.judgeBurst ps)
  | windowTimerExpiry {s} : Effect .windowTimerExpiry s (s.withRing { s.ring with qualified := 0, window := false })

/-- An outcome of a command: a next state, which is the present one, or one that an effect of the command leaves, or that
with what follows of itself. -/
def Completes (c : Instr) (s : State) (o : Host.Outcome State Fault Refusal) : Prop :=
  ∃ t, o = .next t ∧ (t = s ∨ ∃ u, Effect c s u ∧ (t = u ∨ t = u.settle))

section

variable {c : Instr} {s u : State}

theorem completes_idle : Completes c s (.next s) := ⟨s, rfl, .inl rfl⟩

theorem Effect.next (e : Effect c s u) : Completes c s (.next u) := ⟨u, rfl, .inr ⟨u, e, .inl rfl⟩⟩

theorem Effect.finish (e : Effect c s u) : Completes c s (finish u) := ⟨u.settle, rfl, .inr ⟨u, e, .inr rfl⟩⟩

/-- An order row makes the effect of the order in hand. -/
theorem completes_onOrder {k : Byte} {f : InHand → State → State} (e : ∀ h, Effect c s (f h s)) :
    Completes c s (onOrder k f s) := by
  unfold onOrder
  split
  · exact (e _).finish
  · exact completes_idle

end

/-- Every command completes, by one of its effects or by none. -/
theorem exec_completes (c : Instr) (s : State) : Completes c s (exec c s) := by
  cases c with
  | powerOn =>
    simp only [exec, execPowerOn]; split
    · exact completes_idle
    · next h => exact (Effect.powerOn (by simpa using h)).next
  | supplyFall =>
    simp only [exec, execSupplyFall]; split
    · exact Effect.supplyFall.next
    · exact completes_idle
  | resetLineAssert words =>
    simp only [exec, execResetLineAssert]; (repeat' split)
    · exact completes_idle
    · exact Effect.resetLineUp.next
    · exact Effect.resetLineUnpowered.next
  | resetLineRelease =>
    simp only [exec, execResetLineRelease]; split
    · exact Effect.resetLineDown.next
    · exact completes_idle
  | holdDelayEnd =>
    simp only [exec, execHoldDelayEnd]; split
    · next h => exact (Effect.holdDelayEnd h.1).next
    · exact completes_idle
  | headerReadEnd m =>
    simp only [exec, execHeaderReadEnd]; (repeat' split)
    · next h _ => exact (Effect.headerRead h).finish
    all_goals exact completes_idle
  | fillEnd =>
    simp only [exec, execFillEnd]; (repeat' split)
    · next h _ => exact (Effect.fillEnd h).finish
    all_goals exact completes_idle
  | copyAttemptEnd =>
    simp only [exec, execCopyAttemptEnd]; (repeat' split)
    · next h k _ => exact (Effect.copyAttemptEnd h k).finish
    all_goals exact completes_idle
  | bootRelease =>
    simp only [exec, execBootRelease]; split
    · next h => exact (Effect.bootRelease h).finish
    · exact completes_idle
  | bootBurstEnd m =>
    simp only [exec, execBootBurstEnd]; (repeat' split)
    · exact completes_idle
    · next h _ => exact (Effect.headerBurst h).finish
    · exact completes_idle
    · next h _ => exact (Effect.fillBurst h).finish
    · next h => exact (Effect.copyReadBurst h).finish
    · exact completes_idle
    · next h _ => exact (Effect.copyWriteBurst h).finish
    all_goals exact completes_idle
  | processorAccess addr op =>
    simp only [exec, execProcessorAccess]; split
    · exact Effect.processorAccess.finish
    · exact completes_idle
  | arbiterGrant =>
    simp only [exec, execArbiterGrant]; split
    · next h => exact (Effect.arbiterGrant h).finish
    · exact completes_idle
  | refreshDue =>
    simp only [exec, execRefreshDue]; split
    · exact Effect.refreshDue.finish
    · exact completes_idle
  | refreshCycleEnd =>
    simp only [exec, execRefreshCycleEnd]; split
    · next h => exact (Effect.refreshCycleEnd h).finish
    · exact completes_idle
  | processorGrantEnd =>
    simp only [exec, execProcessorGrantEnd]; split
    · next h k => exact (Effect.processorGrantEnd h k).finish
    · exact completes_idle
  | accessHoldExpiry =>
    simp only [exec, execAccessHoldExpiry]; split
    · next h => exact (Effect.accessHoldExpiry h).finish
    · exact completes_idle
  | bodyFetchEnd =>
    simp only [exec, execBodyFetchEnd]; split
    · next h k => exact (Effect.bodyFetchEnd h k).finish
    · exact completes_idle
  | takenWriteEnd =>
    simp only [exec, execTakenWriteEnd]; split
    · next h k =>
      split
      · exact (Effect.taken h k).finish
      · exact (Effect.takenUnknown h k).finish
    · exact completes_idle
  | finalWriteEnd =>
    simp only [exec, execFinalWriteEnd]; split
    · next h k =>
      split
      · next hr =>
        obtain ⟨-, rfl⟩ := hr
        exact (Effect.restarted h k).next
      · exact (Effect.ownWrite h k).finish
    · next h => exact (Effect.finalWrite h).finish
    · exact completes_idle
  | setWindow => simp only [exec, execSetWindow]; exact completes_onOrder fun _ => .setWindow
  | clearWindow => simp only [exec, execClearWindow]; exact completes_onOrder fun _ => .clearWindow
  | setBand => simp only [exec, execSetBand]; exact completes_onOrder fun _ => .setBand
  | resetBand => simp only [exec, execResetBand]; exact completes_onOrder fun _ => .resetBand
  | setProfile => simp only [exec, execSetProfile]; exact completes_onOrder fun _ => .setProfile
  | setChannel => simp only [exec, execSetChannel]; exact completes_onOrder fun _ => .setChannel
  | setRinging => simp only [exec, execSetRinging]; exact completes_onOrder fun _ => .setRinging
  | setAttention => simp only [exec, execSetAttention]; exact completes_onOrder fun _ => .setAttention
  | sleep => simp only [exec, execSleep]; exact completes_onOrder fun _ => .sleep
  | restart => simp only [exec, execRestart]; exact completes_onOrder fun _ => .restart
  | abort => simp only [exec, execAbort]; exact completes_onOrder fun _ => .abort
  | emitEnd => simp only [exec, execEmitEnd]; exact completes_onOrder fun _ => .emitEnd
  | move => simp only [exec, execMove]; exact completes_onOrder fun _ => .move
  | capture => simp only [exec, execCapture]; exact completes_onOrder fun _ => .capture
  | emit => simp only [exec, execEmit]; exact completes_onOrder fun _ => .emit
  | transfer => simp only [exec, execTransfer]; exact completes_onOrder fun _ => .transfer
  | profileRecordReadEnd =>
    simp only [exec, execProfileRecordReadEnd]; split
    · next h => exact (Effect.profileRecordReadEnd h).finish
    · exact completes_idle
  | patternTableReadEnd =>
    simp only [exec, execPatternTableReadEnd]; split
    · next h => exact (Effect.patternTableReadEnd h).finish
    · exact completes_idle
  | segmentRecordReadEnd =>
    simp only [exec, execSegmentRecordReadEnd]; split
    · next h => exact (Effect.segmentRecordReadEnd h).finish
    · exact completes_idle
  | reportPostEnd =>
    simp only [exec, execReportPostEnd]; split
    · next h => exact (Effect.reportPostEnd h).finish
    · exact completes_idle
  | chopPeriodStart => simp only [exec, execChopPeriodStart]; exact Effect.chopPeriodStart.next
  | stepTimerExpiry c =>
    simp only [exec, execStepTimerExpiry]; split
    · exact Effect.stepTimerExpiry.finish
    · exact completes_idle
  | holdTimerExpiry c =>
    simp only [exec, execHoldTimerExpiry]; split
    · exact Effect.holdTimerExpiry.next
    · exact completes_idle
  | sensorInputChange x level => simp only [exec, execSensorInputChange]; exact Effect.sensorInputChange.next
  | debouncedChange x a b =>
    simp only [exec, execDebouncedChange]; split
    · exact Effect.debouncedChange.finish
    · exact completes_idle
  | clockingEnd pixels =>
    simp only [exec, execClockingEnd]; split
    · next h => exact (Effect.clockingEnd h).finish
    · exact completes_idle
  | writeBackEnd =>
    simp only [exec, execWriteBackEnd]; split
    · next h => exact (Effect.writeBackEnd h).finish
    · exact completes_idle
  | pauseTimerExpiry c =>
    simp only [exec, execPauseTimerExpiry]; split
    · exact Effect.pauseTimerExpiry.finish
    · exact completes_idle
  | fetchGrantEnd =>
    simp only [exec, execFetchGrantEnd]; split
    · next h => exact (Effect.fetchGrantEnd h).finish
    · exact completes_idle
  | shiftEnd =>
    simp only [exec, execShiftEnd]; split
    · split
      · exact Effect.shiftEndLatched.finish
      · exact Effect.shiftEnd.finish
    · exact completes_idle
  | strobeGroupEnd =>
    simp only [exec, execStrobeGroupEnd]; split
    · next h =>
      split
      · exact Effect.nextGroup.next
      · exact (Effect.strobeEnd h).finish
    · exact completes_idle
  | moverGrantEnd =>
    simp only [exec, execMoverGrantEnd]; split
    · next h => exact (Effect.moverGrantEnd h).finish
    · exact completes_idle
  | sleepEntry =>
    simp only [exec, execSleepEntry]; split
    · exact Effect.sleepEntry.finish
    · exact completes_idle
  | selfRefreshEntry =>
    simp only [exec, execSelfRefreshEntry]; split
    · next h =>
      split
      · exact (Effect.selfRefreshEntry h).finish
      · exact completes_idle
    · exact completes_idle
  | sleepLimitExpiry =>
    simp only [exec, execSleepLimitExpiry]; split
    · exact Effect.sleepLimitExpiry.finish
    · exact completes_idle
  | patternTimerExpiry p =>
    simp only [exec, execPatternTimerExpiry]; split
    · exact Effect.patternTimerExpiry.finish
    · exact completes_idle
  | wakeTimerExpiry =>
    simp only [exec, execWakeTimerExpiry]; split
    · exact Effect.wakeTimerExpiry.finish
    · exact completes_idle
  | wakeWordWritten =>
    simp only [exec, execWakeWordWritten]; split
    · next h k => exact (Effect.wakeWordWritten h k).finish
    · exact completes_idle
  | confirmTimerExpiry words =>
    simp only [exec, execConfirmTimerExpiry]; (repeat' split)
    · exact Effect.thirdLapse.next
    · exact Effect.lapse.finish
    · exact completes_idle
  | ringingPulse gap =>
    simp only [exec, execRingingPulse]; (repeat' split)
    · exact Effect.firstEdge.finish
    · exact Effect.nextEdge.finish
    · exact Effect.lateEdge.finish
    · exact completes_idle
  | burstEnd =>
    simp only [exec, execBurstEnd]; split
    · exact Effect.burstEnd.finish
    · exact completes_idle
  | windowTimerExpiry =>
    simp only [exec, execWindowTimerExpiry]; split
    · exact Effect.windowTimerExpiry.next
    · exact completes_idle

/-- What holds of a state, of the states that the effects of a command leave, and goes on holding while what follows of
itself follows, holds of the state that the command answers. -/
theorem exec_induction {P : State → Prop} {c : Instr} {s t : State} (h : exec c s = .next t) (idle : P s)
    (effect : ∀ u, Effect c s u → P u) (settles : ∀ u, P u → P u.settle) : P t := by
  obtain ⟨t', ht, ends⟩ := exec_completes c s
  obtain rfl : t' = t := by rw [h] at ht; cases ht; rfl
  rcases ends with rfl | ⟨u, e, rfl | rfl⟩
  · exact idle
  · exact effect _ e
  · exact settles u (effect u e)

end Sys2Proof.Machine
end

section
/-! What the effects leave of the parts that few commands write, and what they keep: the queue of commands and the ROM,
the invariant, the legal queues. -/

namespace Sys2Proof.Machine

open Sys2Proof

variable {s t u : State} {c : Instr}

/-! ### The parts that few commands write -/

/-- Those parts but for DRAM. -/
def Outside.besideMemory (o : Outside) : Outside := { o with dram := [] }

/-- A state with the parts of another, DRAM apart. -/
theorem State.besideMemory_of_outside (h : t.outside = s.outside) : t.outside.besideMemory = s.outside.besideMemory := by
  rw [h]

@[simp] theorem State.store_besideMemory (cells : List Host.Cell) :
    (s.store cells).outside.besideMemory = s.outside.besideMemory := rfl
@[simp] theorem State.freePort_outside : s.freePort.outside = s.outside := rfl
@[simp] theorem State.endGrant_besideMemory (g : Grant) :
    (s.endGrant g).outside.besideMemory = s.outside.besideMemory := rfl
@[simp] theorem State.cutGrant_besideMemory (words : Nat) :
    (s.cutGrant words).outside.besideMemory = s.outside.besideMemory := by
  simp only [State.cutGrant]; split <;> simp

@[simp] theorem State.grantTo_outside (g : Grant) : (s.grantTo g).outside = s.outside := rfl
@[simp] theorem State.grantFetch_outside : s.grantFetch.outside = s.outside := by
  simp only [State.grantFetch]; split <;> simp
@[simp] theorem State.grantCpu_outside (x : CpuAccess) : (s.grantCpu x).outside = s.outside := by
  simp only [State.grantCpu]; (repeat' split) <;> simp
@[simp] theorem State.grantProcessor_outside : s.grantProcessor.outside = s.outside := by
  simp only [State.grantProcessor]; split <;> simp
@[simp] theorem State.grantMover_outside : s.grantMover.outside = s.outside := by
  simp only [State.grantMover]; (repeat' split) <;> simp
@[simp] theorem State.grantNext_outside : s.grantNext.outside = s.outside := by
  simp only [State.grantNext, State.grantRefresh]; (repeat' split) <;> simp
@[simp] theorem State.observeCpu_outside (x : CpuAccess) : (s.observeCpu x).outside = s.outside := by
  simp only [State.observeCpu, State.consumeReport]; (repeat' split) <;> simp
@[simp] theorem State.admitOne_outside : s.admitOne.outside = s.outside := by
  simp only [State.admitOne]; (repeat' split) <;> simp
@[simp] theorem State.settleQueued_outside (h : InHand) (x : Except Result Work) :
    (s.settleQueued h x).outside = s.outside := by
  simp only [State.settleQueued]; split <;> simp
@[simp] theorem State.acceptSleep_outside (h : InHand) (w : WakeSettings) : (s.acceptSleep h w).outside = s.outside := by
  simp [State.acceptSleep]
@[simp] theorem State.sensorD_outside (x : Sensor) (rising : Bool) : (s.sensorD x rising).outside = s.outside := by
  simp only [State.sensorD]; (repeat' split) <;> simp
@[simp] theorem State.sensorP_outside (x : Sensor) (rising : Bool) : (s.sensorP x rising).outside = s.outside := by
  simp only [State.sensorP]; (repeat' split) <;> simp
@[simp] theorem State.deliver_outside (x : Sensor) (rising reportLast pFirst : Bool) :
    (s.deliver x rising reportLast pFirst).outside = s.outside := by
  simp only [State.deliver, State.sensorChannels]; (repeat' split) <;> simp
@[simp] theorem State.lineCaptured_outside (p : CaptureParams) (r : CaptureRecord) (i : StoreId) (words : List Word) :
    (s.lineCaptured p r i words).outside = s.outside := by
  simp only [State.lineCaptured]; split <;> simp
@[simp] theorem State.lineStrobed_outside (p : EmitParams) (r : EmitRecord) (i : StoreId) :
    (s.lineStrobed p r i).outside = s.outside := by
  simp only [State.lineStrobed]; split <;> simp
@[simp] theorem State.lineFetched_outside (i : StoreId) : (s.lineFetched i).outside = s.outside := by
  simp only [State.lineFetched]; (repeat' split) <;> simp
@[simp] theorem State.stepExpired_outside (c : Chan) : (s.stepExpired c).outside = s.outside := by
  simp only [State.stepExpired]; (repeat' split) <;> simp
@[simp] theorem State.pauseExpired_outside (c : Chan) : (s.pauseExpired c).outside = s.outside := by
  simp only [State.pauseExpired]; (repeat' split) <;> simp
@[simp] theorem State.sleep_outside (h : InHand) : (s.sleep h).outside = s.outside := by
  simp only [State.sleep]; (repeat' split) <;> simp
@[simp] theorem State.patternsRead_outside (h : InHand) (addr : Nat) (ws : List Word) (total : Nat) :
    (s.patternsRead h addr ws total).outside = s.outside := by
  simp only [State.patternsRead]; (repeat' split) <;> simp
@[simp] theorem State.setProfile_outside (h : InHand) : (s.setProfile h).outside = s.outside := by
  simp only [State.setProfile]; (repeat' split) <;> simp
@[simp] theorem State.transfer_outside (h : InHand) : (s.transfer h).outside = s.outside := by
  simp only [State.transfer]; (repeat' split) <;> simp
@[simp] theorem State.segmentsRead_outside (h : InHand) (addr : Nat) (ws : List Word) (total : Nat) :
    (s.segmentsRead h addr ws total).outside = s.outside := by
  simp only [State.segmentsRead]; (repeat' split) <;> simp

/-! ### Orders that pass their checks -/

theorem State.setWindow_ok {body : List Word} (h : s.setWindow body = .ok t) :
    ∃ (e : Fin 8) (k : WindowKind) (base length : Nat) (b : Fin 4), 2 ≤ e.val ∧ k ≠ .orders ∧ k ≠ .reports
      ∧ (k ≠ .off → s.rangeOk e base length = true) ∧ t = s.replaceEntry e (windowOf k base length b) := by
  simp only [State.setWindow] at h
  split at h
  · next e k he hk =>
    obtain ⟨range, h⟩ := check_then h
    obtain ⟨-, h⟩ := check_then h
    obtain ⟨-, h⟩ := check_then h
    cases h
    have two : 2 ≤ e.val := by
      unfold changeableEntry? fin8? at he
      split at he
      · cases he
      · split at he
        · cases he; simp only; omega
        · cases he
    have kind : k ≠ .orders ∧ k ≠ .reports := by
      unfold setWindowKind? at hk
      split at hk <;> cases hk <;> simp
    refine ⟨e, k, _, _, _, two, kind.1, kind.2, fun hoff => ?_, rfl⟩
    simpa [hoff] using range
  · cases h

theorem State.clearWindow_ok {body : List Word} (h : s.clearWindow body = .ok t) :
    ∃ e : Fin 8, 2 ≤ e.val ∧ t = s.replaceEntry e Window.none := by
  simp only [State.clearWindow] at h
  split at h
  · next e he =>
    obtain ⟨-, h⟩ := check_then h
    cases h
    refine ⟨e, ?_, rfl⟩
    unfold changeableEntry? fin8? at he
    split at he
    · cases he
    · split at he
      · cases he; simp only; omega
      · cases he
  · cases h

theorem State.setBand_ok {body : List Word} (h : s.setBand body = .ok t) :
    ∃ (b : Fin 4) (role : Role), t = s.replaceBand b (bandOf role body) := by
  simp only [State.setBand] at h
  split at h
  · obtain ⟨-, h⟩ := check_then h
    obtain ⟨-, h⟩ := check_then h
    cases h; exact ⟨_, _, rfl⟩
  · cases h

theorem State.resetBand_ok {body : List Word} (h : s.resetBand body = .ok t) :
    ∃ b : Fin 4, t = s.replaceBand b s.bands[b].clearMarks := by
  simp only [State.resetBand] at h
  split at h
  · obtain ⟨-, h⟩ := check_then h
    cases h; exact ⟨_, rfl⟩
  · cases h

theorem State.setChannel_ok {body : List Word} (h : s.setChannel body = .ok t) :
    ∃ (c : Chan) (mode : StepMode) (run hold time : Nat), t = s.withChan c ((s.chan c).set mode run hold time) := by
  simp only [State.setChannel] at h
  split at h
  · obtain ⟨-, h⟩ := check_then h
    obtain ⟨-, h⟩ := check_then h
    cases h; exact ⟨_, _, _, _, _, rfl⟩
  · cases h

theorem State.setRinging_ok {body : List Word} (h : s.setRinging body = .ok t) :
    t = s.withRing (s.ring.set (ringSettingsOf body)) := by
  obtain ⟨-, h⟩ := check_then h
  cases h; rfl

theorem State.setAttention_ok {body : List Word} (h : s.setAttention body = .ok t) :
    ∃ mask sensorMask : BitVec 6,
      t = s.withReports { s.reports with mask := mask, sensorMask := sensorMask }.recompute := by
  obtain ⟨-, h⟩ := check_then h
  cases h; exact ⟨_, _, rfl⟩

theorem State.abort_ok {body : List Word} (h : s.abort body = .ok t) : ∃ q, t = s.abortQueue q := by
  simp only [State.abort] at h
  split at h <;> cases h
  exact ⟨_, rfl⟩

theorem State.emitEnd_ok (h : s.emitEnd = .ok t) : t = s.closeEmit := by
  obtain ⟨-, h⟩ := check_then h
  cases h; rfl

@[simp] theorem State.closeEmit_outside : s.closeEmit.outside = s.outside := by
  simp only [State.closeEmit]; split <;> simp
@[simp] theorem State.replaceBand_outside (b : Fin 4) (x : Band) : (s.replaceBand b x).outside = s.outside := by
  simp [State.replaceBand]

/-- An order's effect keeps what its checks' success keeps. -/
theorem State.settleOrder_outside {h : InHand} {x : Except Result State} (hx : ∀ t, x = .ok t → t.outside = s.outside) :
    (s.settleOrder h x).outside = s.outside := by
  simp only [State.settleOrder]; split
  · simp [hx _ rfl]
  · simp

@[simp] theorem State.setBand_outside (h : InHand) : (s.settleOrder h (s.setBand h.body)).outside = s.outside :=
  State.settleOrder_outside fun t ht => by obtain ⟨_, _, rfl⟩ := State.setBand_ok ht; simp
@[simp] theorem State.resetBand_outside (h : InHand) : (s.settleOrder h (s.resetBand h.body)).outside = s.outside :=
  State.settleOrder_outside fun t ht => by obtain ⟨_, rfl⟩ := State.resetBand_ok ht; simp
@[simp] theorem State.setChannel_outside (h : InHand) : (s.settleOrder h (s.setChannel h.body)).outside = s.outside :=
  State.settleOrder_outside fun t ht => by obtain ⟨_, _, _, _, _, rfl⟩ := State.setChannel_ok ht; simp
@[simp] theorem State.setRinging_outside (h : InHand) : (s.settleOrder h (s.setRinging h.body)).outside = s.outside :=
  State.settleOrder_outside fun t ht => by cases State.setRinging_ok ht; simp
@[simp] theorem State.setAttention_outside (h : InHand) :
    (s.settleOrder h (s.setAttention h.body)).outside = s.outside :=
  State.settleOrder_outside fun t ht => by obtain ⟨_, _, rfl⟩ := State.setAttention_ok ht; simp
@[simp] theorem State.abort_outside (h : InHand) : (s.settleOrder h (s.abort h.body)).outside = s.outside :=
  State.settleOrder_outside fun t ht => by obtain ⟨_, rfl⟩ := State.abort_ok ht; simp
@[simp] theorem State.emitEnd_outside (h : InHand) : (s.settleOrder h s.emitEnd).outside = s.outside :=
  State.settleOrder_outside fun t ht => by cases State.emitEnd_ok ht; simp

/-! ### Effects on those parts -/

/-- The commands that may write a part that few commands write, DRAM apart. -/
def writesOutside : Instr → Bool
  | .powerOn | .supplyFall | .resetLineAssert _ | .resetLineRelease | .holdDelayEnd | .headerReadEnd _ | .fillEnd
  | .copyAttemptEnd | .bootRelease | .bootBurstEnd _ | .finalWriteEnd | .confirmTimerExpiry _ | .setWindow | .clearWindow
  | .profileRecordReadEnd | .sensorInputChange _ _ | .debouncedChange _ _ _ => true
  | _ => false

/-- The effect of any other command leaves those parts as they are. -/
theorem Effect.besideMemory (e : Effect c s u) (hc : writesOutside c = false) :
    u.outside.besideMemory = s.outside.besideMemory := by
  cases e
  all_goals cases hc
  all_goals simp

end Sys2Proof.Machine
end

section
/-! The machine as a whole: every command completes and leaves its sources alone; the invariant and the legal queues hold
at reset and are kept by every step. -/

namespace Sys2Proof.Machine

open Sys2Proof

variable {s t u : State} {c : Instr}

/-! ### Taking the boot header and releasing the processor -/

/-- Taking a header entry writes the Window Table or the count of entries set OFF. -/
theorem State.loadEntry_outside (h : Header) (s : State) (e : Fin 8) :
    ∃ n, (State.loadEntry h s e).outside
      = { s.outside with windows := (State.loadEntry h s e).windows, boot := { s.boot with entriesOff := n } } := by
  simp only [State.loadEntry]
  (repeat' split) <;> exact ⟨_, rfl⟩

theorem State.loadEntries_outside (h : Header) (l : List (Fin 8)) (s : State) :
    ∃ n, (l.foldl (State.loadEntry h) s).outside
      = { s.outside with
          windows := (l.foldl (State.loadEntry h) s).windows, boot := { s.boot with entriesOff := n } } := by
  induction l generalizing s with
  | nil => exact ⟨_, rfl⟩
  | cons e l ih =>
    obtain ⟨n, hn⟩ := ih (State.loadEntry h s e)
    obtain ⟨m, hm⟩ := s.loadEntry_outside h e
    have boot : (State.loadEntry h s e).boot = { s.boot with entriesOff := m } := congrArg Outside.boot hm
    refine ⟨n, ?_⟩
    rw [List.foldl_cons, hn, hm, boot]

/-- With its entries taken and the boot state moved on, a state differs from the one before the header in four parts. -/
theorem State.withEntries_outside {s s1 : State} {mb len : Nat} {b : Boot} (h : Header) (l : List (Fin 8)) (b' : Boot)
    (h1 : s1.outside = { s.outside with installedMb := mb, imageLength := len, boot := b }) :
    ((l.foldl (State.loadEntry h) s1).withBoot b').outside = { s.outside with
      installedMb := mb, imageLength := len, windows := (l.foldl (State.loadEntry h) s1).windows, boot := b' } := by
  obtain ⟨n, hn⟩ := State.loadEntries_outside h l s1
  have boot (t : State) : (t.withBoot b').outside = { t.outside with boot := b' } := rfl
  rw [boot, hn, h1]

theorem State.applyHeader_outside (s : State) (h : Header) : ∃ table b, (s.applyHeader h).outside
    = { s.outside with installedMb := h.dramMb, imageLength := h.imageLength, windows := table, boot := b } := by
  simp only [State.applyHeader]
  exact ⟨_, _, State.withEntries_outside (b := { s.boot with header := some h, entriesOff := 0 }) h _ _ rfl⟩

theorem State.applyDefaults_outside (s : State) : ∃ b, s.applyDefaults.outside
    = { s.outside with installedMb := 1, imageLength := 0, windows := Vector.replicate 8 Window.none, boot := b } :=
  ⟨_, rfl⟩

/-- The taking of a header, good or bad, writes the installed size, the image length, the Window Table and the Boot
Unit. -/
theorem State.judgeHeader_outside (s : State) (ws : List Word) : ∃ mb len table b, (s.judgeHeader ws).outside
    = { s.outside with installedMb := mb, imageLength := len, windows := table, boot := b } := by
  simp only [State.judgeHeader, State.configure]
  generalize hs : s.withBoot _ = s1
  have h1 : s1.outside = { s.outside with boot := s1.boot } := by rw [← hs]; rfl
  (repeat' split)
  · obtain ⟨table, b, h⟩ := s1.applyHeader_outside (headerOf ws)
    exact ⟨_, _, table, b, by rw [h, h1]⟩
  · obtain ⟨b, h⟩ := s1.applyDefaults_outside
    exact ⟨_, _, _, b, by rw [h, h1]⟩
  · exact ⟨_, _, _, _, h1⟩
  · obtain ⟨b, h⟩ := s1.applyDefaults_outside
    exact ⟨_, _, _, b, by rw [h, h1]⟩

/-- The release of boot writes the overlay state and the boot state. -/
theorem State.releaseProcessor_outside (s : State) : ∃ b, s.releaseProcessor.outside
    = { (s.withPassage (s.passage.setOverlay s.boot)).outside with boot := b } := by
  have boot (t : State) (p : Pins) (b : Boot) : ((t.withPins p).withBoot b).outside = { t.outside with boot := b } := rfl
  exact ⟨_, by rw [State.releaseProcessor, boot, State.offer_outside]⟩

theorem Passage.setOverlay_installedMb (p : Passage) (b : Boot) : (p.setOverlay b).installedMb = p.installedMb := by
  simp only [Passage.setOverlay]; split <;> rfl

/-! ### Sources: the queue of commands and the ROM (logs 1 and 6) -/

/-- The queue of commands and the ROM, which stand outside the part. -/
def Outside.sources (o : Outside) : List Instr × List Host.Cell × Nat := (o.pending, o.rom, o.romSize)

theorem Outside.sources_of_besideMemory {o p : Outside} (h : o.besideMemory = p.besideMemory) : o.sources = p.sources := by
  have pending := congrArg Outside.pending h
  have rom := congrArg Outside.rom h
  have size := congrArg Outside.romSize h
  exact Prod.ext pending (Prod.ext rom size)

@[simp] theorem State.withBoot_sources (b : Boot) : (s.withBoot b).outside.sources = s.outside.sources := rfl
@[simp] theorem State.withSensors_sources (x : Vector SensorCell 6) :
    (s.withSensors x).outside.sources = s.outside.sources := rfl
@[simp] theorem State.withResetLine_outside (x : Bool) : (s.withResetLine x).outside = s.outside := rfl
@[simp] theorem State.endGrant_sources (g : Grant) : (s.endGrant g).outside.sources = s.outside.sources :=
  Outside.sources_of_besideMemory (s.endGrant_besideMemory g)
@[simp] theorem State.losePower_sources : s.losePower.outside.sources = s.outside.sources := rfl
@[simp] theorem State.risePower_sources : s.risePower.outside.sources = s.outside.sources := rfl
@[simp] theorem State.resetPart_sources (cause : ResetKind) (words : Nat) :
    (s.resetPart cause words).outside.sources = s.outside.sources :=
  calc (s.resetPart cause words).outside.sources
      = (s.cutGrant words).outside.sources := rfl
    _ = s.outside.sources := Outside.sources_of_besideMemory (s.cutGrant_besideMemory words)

theorem State.replaceEntry_outside (e : Fin 8) (w : Window) :
    (s.replaceEntry e w).outside = { s.outside with windows := s.windows.set e w } := by
  simp only [State.replaceEntry]; split
  · simp only [State.dropNotice_outside, State.cancelHolds_outside, State.withNewBand_outside]; rfl
  · rfl

/-- An order that may replace a window entry replaces at most one. -/
theorem State.settleOrder_windows {h : InHand} {x : Except Result State}
    (hx : ∀ t, x = .ok t → ∃ e w, t = s.replaceEntry e w) :
    ∃ table, (s.settleOrder h x).outside = { s.outside with windows := table } := by
  simp only [State.settleOrder]; split
  · obtain ⟨e, w, rfl⟩ := hx _ rfl
    exact ⟨s.windows.set e w, by rw [State.completeOrder_outside, State.replaceEntry_outside]⟩
  · exact ⟨s.windows, State.refuseOrder_outside _ _ _⟩

theorem State.profileRead_outside (h : InHand) (addr : Nat) (ws : List Word) (total : Nat) :
    ∃ table, (s.profileRead h addr ws total).outside = { s.outside with profiles := table } := by
  simp only [State.profileRead]
  (repeat' split) <;>
    simp only [State.withStage_outside, State.refuseOrder_outside, State.completeOrder_outside] <;> exact ⟨_, rfl⟩

@[simp] theorem State.judgeHeader_sources (ws : List Word) : (s.judgeHeader ws).outside.sources = s.outside.sources := by
  obtain ⟨_, _, _, _, h⟩ := s.judgeHeader_outside ws
  rw [h]; rfl
@[simp] theorem State.releaseProcessor_sources : s.releaseProcessor.outside.sources = s.outside.sources := by
  obtain ⟨_, h⟩ := s.releaseProcessor_outside
  rw [h]; rfl

theorem Effect.sources (e : Effect c s u) : u.outside.sources = s.outside.sources := by
  have plain (hc : writesOutside c = false) := Outside.sources_of_besideMemory (e.besideMemory hc)
  cases e
  case setWindow =>
    obtain ⟨_, h⟩ := State.settleOrder_windows fun t ht => by
      obtain ⟨e, _, _, _, _, -, -, -, -, rfl⟩ := State.setWindow_ok ht; exact ⟨e, _, rfl⟩
    rw [h]; rfl
  case clearWindow =>
    obtain ⟨_, h⟩ := State.settleOrder_windows fun t ht => by
      obtain ⟨e, -, rfl⟩ := State.clearWindow_ok ht; exact ⟨e, _, rfl⟩
    rw [h]; rfl
  case profileRecordReadEnd h addr ws total a n _ =>
    obtain ⟨_, h⟩ := s.freePort.profileRead_outside h addr (ws ++ s.dramWords a n) total
    rw [h]; rfl
  case powerOn | supplyFall | resetLineUp | resetLineUnpowered | resetLineDown | holdDelayEnd | headerRead | fillEnd
      | copyAttemptEnd | bootRelease | headerBurst | fillBurst | copyReadBurst | copyWriteBurst | restarted | ownWrite
      | finalWrite | sensorInputChange | debouncedChange | thirdLapse | lapse => simp
  all_goals exact plain rfl

/-- Settles O2: every command answers a next state, and neither its effect nor what follows reaches the sources. -/
theorem everyCommandCompletes : Obligations.EveryCommandCompletes := by
  intro c s
  obtain ⟨t, ht, -⟩ := exec_completes c s
  have sources : t.outside.sources = s.outside.sources :=
    exec_induction (P := fun t => t.outside.sources = s.outside.sources) ht rfl (fun _ e => e.sources)
      fun u hu => by rw [u.settle_outside, hu]
  obtain ⟨pending, rom, size⟩ := Prod.mk.inj sources |>.imp id Prod.mk.inj
  exact ⟨t, ht, pending, rom, size⟩

/-- Settles O1. -/
theorem stepRunsFrontCommand : Obligations.StepRunsFrontCommand := by
  refine ⟨fun s c rest h => ?_, fun s h => ?_⟩
  · simp only [step, h]
  · simp only [step, h]

end Sys2Proof.Machine
end

section
/-! The invariant and the legal queues: they hold at reset, and every effect and every step keeps them. -/

namespace Sys2Proof.Machine

open Sys2Proof

variable {s t u : State} {c : Instr}

/-! ### The effects keep the invariant -/

theorem State.setWindow_inv (h : Inv s) (x : InHand) : Inv (s.settleOrder x (s.setWindow x.body)) :=
  State.settleOrder_inv h x _ fun t ht => by
    obtain ⟨_, _, _, _, _, -, -, -, -, rfl⟩ := State.setWindow_ok ht
    exact State.replaceEntry_inv h _ _

theorem State.clearWindow_inv (h : Inv s) (x : InHand) : Inv (s.settleOrder x (s.clearWindow x.body)) :=
  State.settleOrder_inv h x _ fun t ht => by
    obtain ⟨_, -, rfl⟩ := State.clearWindow_ok ht
    exact State.replaceEntry_inv h _ _

theorem State.setBand_inv (h : Inv s) (x : InHand) : Inv (s.settleOrder x (s.setBand x.body)) :=
  State.settleOrder_inv h x _ fun t ht => by
    obtain ⟨b, role, rfl⟩ := State.setBand_ok ht
    exact State.replaceBand_inv h b (bandOf_legal role _)

theorem State.resetBand_inv (h : Inv s) (x : InHand) : Inv (s.settleOrder x (s.resetBand x.body)) :=
  State.settleOrder_inv h x _ fun t ht => by
    obtain ⟨b, rfl⟩ := State.resetBand_ok ht
    exact State.replaceBand_inv h b (Band.clearMarks_legal _)

theorem State.setChannel_inv (h : Inv s) (x : InHand) : Inv (s.settleOrder x (s.setChannel x.body)) :=
  State.settleOrder_inv h x _ fun t ht => by
    obtain ⟨_, _, _, _, _, rfl⟩ := State.setChannel_ok ht
    simp [h]

theorem State.setRinging_inv (h : Inv s) (x : InHand) : Inv (s.settleOrder x (s.setRinging x.body)) :=
  State.settleOrder_inv h x _ fun t ht => by
    cases State.setRinging_ok ht
    simp [h]

theorem State.setAttention_inv (h : Inv s) (x : InHand) : Inv (s.settleOrder x (s.setAttention x.body)) :=
  State.settleOrder_inv h x _ fun t ht => by
    obtain ⟨_, _, rfl⟩ := State.setAttention_ok ht
    exact State.withReports_inv h h.pending h.seqLow h.seqHigh

theorem State.abort_inv (h : Inv s) (x : InHand) : Inv (s.settleOrder x (s.abort x.body)) :=
  State.settleOrder_inv h x _ fun t ht => by
    obtain ⟨_, rfl⟩ := State.abort_ok ht
    simp [h]

theorem State.emitEnd_inv (h : Inv s) (x : InHand) : Inv (s.settleOrder x s.emitEnd) :=
  State.settleOrder_inv h x _ fun t ht => by
    cases State.emitEnd_ok ht
    simp only [State.closeEmit]; split <;> simp [h]

theorem State.setProfile_inv (h : Inv s) (x : InHand) : Inv (s.setProfile x) := by
  simp only [State.setProfile]; (repeat' split) <;> simp [h]

theorem State.profileRead_inv (h : Inv s) (x : InHand) (addr : Nat) (ws : List Word) (total : Nat) :
    Inv (s.profileRead x addr ws total) := by
  simp only [State.profileRead]; (repeat' split) <;> simp [h]

theorem State.sleep_inv (h : Inv s) (x : InHand) : Inv (s.sleep x) := by
  simp only [State.sleep]; (repeat' split) <;> simp [h, State.acceptSleep_inv]

theorem State.patternsRead_inv (h : Inv s) (x : InHand) (addr : Nat) (ws : List Word) (total : Nat) :
    Inv (s.patternsRead x addr ws total) := by
  simp only [State.patternsRead]; (repeat' split) <;> simp [h, State.acceptSleep_inv]

theorem State.transfer_inv (h : Inv s) (x : InHand) : Inv (s.transfer x) := by
  simp only [State.transfer]; (repeat' split) <;> simp [h]

theorem State.segmentsRead_inv (h : Inv s) (x : InHand) (addr : Nat) (ws : List Word) (total : Nat) :
    Inv (s.segmentsRead x addr ws total) := by
  simp only [State.segmentsRead]; (repeat' split) <;> simp [h, State.settleQueued_inv]

theorem State.pauseExpired_inv (h : Inv s) (c : Chan) : Inv (s.pauseExpired c) := by
  simp only [State.pauseExpired]; (repeat' split) <;> simp [h]

/-- A posting leaves room for the report that is admitted after it. -/
theorem State.reportPosted_inv (h : Inv s) : Inv ((s.endGrant .report).withReports s.reports.posted).admitOne := by
  have h1 : Inv (s.endGrant .report) := State.endGrant_inv h _
  refine State.admitOne_inv (State.posted_inv h1) ?_
  have room := State.posted_room h
  simp only [State.hasRoom, State.withReports_reports, Bool.or_eq_true]
  exact .inr (decide_eq_true room)

theorem Effect.inv (e : Effect c s u) (h : Inv s) : Inv u := by
  cases e
  case supplyFall => exact State.losePower_inv
  case powerOn => exact State.risePower_inv
  case resetLineUp => exact State.resetPart_inv (by simp [State.withResetLine, h]) _ _
  case resetLineUnpowered => simp [State.withResetLine, h]
  case resetLineDown => simp [State.withResetLine, h]
  case setWindow => exact State.setWindow_inv h _
  case clearWindow => exact State.clearWindow_inv h _
  case setBand => exact State.setBand_inv h _
  case resetBand => exact State.resetBand_inv h _
  case setChannel => exact State.setChannel_inv h _
  case setRinging => exact State.setRinging_inv h _
  case setAttention => exact State.setAttention_inv h _
  case abort => exact State.abort_inv h _
  case emitEnd => exact State.emitEnd_inv h _
  case setProfile => exact State.setProfile_inv h _
  case profileRecordReadEnd => exact State.profileRead_inv (State.freePort_inv h) _ _ _ _
  case sleep => exact State.sleep_inv h _
  case patternTableReadEnd => exact State.patternsRead_inv (State.freePort_inv h) _ _ _ _
  case transfer => exact State.transfer_inv h _
  case segmentRecordReadEnd => exact State.segmentsRead_inv (State.freePort_inv h) _ _ _ _
  case move | capture | emit => exact State.settleQueued_inv h _ _
  case reportPostEnd => exact State.reportPosted_inv h
  case debouncedChange => exact State.deliver_inv (by simp [h]) _ _ _ _
  case writeBackEnd => exact State.lineCaptured_inv (State.endGrant_inv h _) _ _ _ _
  case fetchGrantEnd => exact State.lineFetched_inv (State.endGrant_inv h _) _
  case strobeEnd => exact State.lineStrobed_inv h _ _ _
  case stepTimerExpiry => exact State.stepExpired_inv h _
  case pauseTimerExpiry => exact State.pauseExpired_inv h _
  all_goals simp (maxDischargeDepth := 8) [h]

theorem exec_inv (h : exec c s = .next t) (hi : Inv s) : Inv t :=
  exec_induction h hi (fun _ e => e.inv hi) fun _ hu => State.settle_inv hu

/-! ### The effects keep the queues legal -/

/-- An order that neither is queued nor aborts one leaves the works alone. -/
theorem State.replaceBand_queues (h : QueuesLegal s) (x : InHand) {e : Except Result State}
    (he : ∀ t, e = .ok t → ∃ b y, t = s.replaceBand b y) : QueuesLegal (s.settleOrder x e) :=
  State.settleOrder_queues h x e fun t ht => by
    obtain ⟨b, y, rfl⟩ := he t ht
    exact State.replaceBand_works s b y

theorem State.replaceEntry_queues (h : QueuesLegal s) (x : InHand) {e : Except Result State}
    (he : ∀ t, e = .ok t → ∃ i w, t = s.replaceEntry i w) : QueuesLegal (s.settleOrder x e) :=
  State.settleOrder_queues h x e fun t ht => by
    obtain ⟨i, w, rfl⟩ := he t ht
    exact State.replaceEntry_works s i w

theorem State.setProfile_works (x : InHand) : (s.setProfile x).works = s.works := by
  simp only [State.setProfile]; (repeat' split) <;> simp

theorem State.profileRead_works (x : InHand) (addr : Nat) (ws : List Word) (total : Nat) :
    (s.profileRead x addr ws total).works = s.works := by
  simp only [State.profileRead]; (repeat' split) <;> simp

theorem State.sleep_works (x : InHand) : (s.sleep x).works = s.works := by
  simp only [State.sleep]; (repeat' split) <;> simp

theorem State.patternsRead_works (x : InHand) (addr : Nat) (ws : List Word) (total : Nat) :
    (s.patternsRead x addr ws total).works = s.works := by
  simp only [State.patternsRead]; (repeat' split) <;> simp

theorem State.transfer_works (x : InHand) : (s.transfer x).works = s.works := by
  simp only [State.transfer]; (repeat' split) <;> simp

theorem State.segmentsRead_queues (h : QueuesLegal s) (x : InHand) (addr : Nat) (ws : List Word) (total : Nat) :
    QueuesLegal (s.segmentsRead x addr ws total) := by
  simp only [State.segmentsRead]
  (repeat' split)
  · exact h.congr (by simp)
  · exact State.settleQueued_queues h _ _
  · exact h.congr (by simp)

theorem State.closeEmit_works : s.closeEmit.works = s.works := by
  simp only [State.closeEmit]; split <;> simp

theorem Effect.queues (e : Effect c s u) (h : QueuesLegal s) : QueuesLegal u := by
  cases e
  case supplyFall => exact State.losePower_queues
  case powerOn => exact State.risePower_queues
  case resetLineUp | restarted | thirdLapse => exact State.resetPart_queues _ _
  case ownWrite => exact h.congr (by simp)
  case finalWrite => exact State.endFinalWrite_queues (h.congr (State.endGrant_works s _)) _
  case setWindow =>
    exact State.replaceEntry_queues h _ fun t ht => by
      obtain ⟨_, _, _, _, _, -, -, -, -, rfl⟩ := State.setWindow_ok ht; exact ⟨_, _, rfl⟩
  case clearWindow =>
    exact State.replaceEntry_queues h _ fun t ht => by obtain ⟨_, -, rfl⟩ := State.clearWindow_ok ht; exact ⟨_, _, rfl⟩
  case setBand =>
    exact State.replaceBand_queues h _ fun t ht => by obtain ⟨_, _, rfl⟩ := State.setBand_ok ht; exact ⟨_, _, rfl⟩
  case resetBand =>
    exact State.replaceBand_queues h _ fun t ht => by obtain ⟨_, rfl⟩ := State.resetBand_ok ht; exact ⟨_, _, rfl⟩
  case setChannel =>
    exact State.settleOrder_queues h _ _ fun t ht => by
      obtain ⟨_, _, _, _, _, rfl⟩ := State.setChannel_ok ht; simp
  case setRinging => exact State.settleOrder_queues h _ _ fun t ht => by cases State.setRinging_ok ht; simp
  case setAttention =>
    exact State.settleOrder_queues h _ _ fun t ht => by obtain ⟨_, _, rfl⟩ := State.setAttention_ok ht; simp
  case abort =>
    exact State.settleOrder_queues h _ _ fun t ht => by
      obtain ⟨q, rfl⟩ := State.abort_ok ht; exact State.abortQueue_works h q
  case emitEnd =>
    exact State.settleOrder_queues h _ _ fun t ht => by cases State.emitEnd_ok ht; exact State.closeEmit_works
  case setProfile => exact h.congr (State.setProfile_works _)
  case profileRecordReadEnd => exact h.congr (State.profileRead_works _ _ _ _)
  case sleep => exact h.congr (State.sleep_works _)
  case patternTableReadEnd => exact h.congr (State.patternsRead_works _ _ _ _)
  case transfer => exact h.congr (State.transfer_works _)
  case segmentRecordReadEnd => exact State.segmentsRead_queues (h.congr (State.freePort_works s)) _ _ _ _
  case move | capture | emit => exact State.settleQueued_queues h _ _
  all_goals exact h.congr (by simp)

theorem exec_queues (h : exec c s = .next t) (hq : QueuesLegal s) : QueuesLegal t :=
  exec_induction h hq (fun _ e => e.queues hq) fun _ hu => State.settle_queues hu

/-! ### Steps, and the state after reset -/

/-- What every command keeps, and the queue of commands alone does not touch, every step keeps. -/
theorem step_keeps {P : State → Prop} (command : ∀ c s t, exec c s = .next t → P s → P t)
    (queue : ∀ s x, P s → P (s.withPending x)) (h : step s = .next t) (hs : P s) : P t := by
  unfold step at h
  split at h
  · cases h; exact hs
  · exact command _ _ _ h (queue _ _ hs)

/-- Settles O3: each effect keeps the invariant and the legal queues, and so does what follows of itself. -/
theorem stepKeepsInvariant : Obligations.StepKeepsInvariant :=
  ⟨fun _ _ hi h => step_keeps (fun _ _ _ => exec_inv) (fun s x => (State.withPending_inv (s := s) x).mpr) h hi,
    fun _ _ hq h => step_keeps (fun _ _ _ => exec_queues) (fun s x hq => hq.congr (s.withPending_works x)) h hq⟩

theorem Channel.reset_atReset : Channel.reset.AtReset where
  outputs := ⟨rfl, rfl⟩
  level := ⟨rfl, rfl⟩
  state := rfl
  settings := ⟨rfl, rfl, rfl, rfl⟩
  timers := ⟨rfl, rfl, rfl⟩
  paced := rfl

theorem Intake.slot_reset (i : Nat) : Intake.reset.slot i = SlotRecord.reset := rfl

/-- The blocks that stand as the state after reset has them, with the sensors settled and boot begun anew, have the reset
values. -/
theorem resetValues_of_blocks (procReset : t.pins.procReset = true) (passage : ∃ mb, t.passage = Passage.reset mb)
    (windows : t.windows = Vector.replicate 8 Window.none)
    (port : ∃ d timer due, t.port = { Port.powerOn with dram := d, refreshTimer := timer, refreshDue := due })
    (intake : t.intake = Intake.reset) (reports : t.reports = Reports.reset)
    (bands : t.bands = Vector.replicate 4 Band.reset) (capture : t.capture = CaptureEngine.reset)
    (emit : t.emit = EmitEngine.reset) (chanD : t.chanD = Channel.reset) (chanP : t.chanP = Channel.reset)
    (profiles : t.profiles = Vector.replicate 8 []) (mover : t.mover = Mover.reset) (power : t.power = Power.reset)
    (ring : t.ring = Ringing.reset) (sensors : ∀ x : Fin 6, t.sensors[x].level = t.sensors[x].input ∧ t.sensors[x].timer = false)
    (boot : ∃ cause owed delay, t.boot = Boot.reset cause owed delay) : ResetValues t := by
  obtain ⟨mb, passage⟩ := passage
  obtain ⟨d, timer, due, port⟩ := port
  obtain ⟨cause, owed, delay, boot⟩ := boot
  exact
    { pins := procReset
      overlay := by rw [passage]; exact ⟨rfl, rfl⟩
      access := by rw [passage]; exact ⟨rfl, rfl⟩
      windows := fun e => by rw [windows]; simp [Window.none]
      requests := by rw [port]; exact ⟨rfl, rfl, rfl, rfl, rfl, rfl, rfl⟩
      slots := fun i => by rw [intake, Intake.slot_reset]
      intake := by rw [intake]; exact ⟨rfl, rfl, rfl, rfl, rfl⟩
      queues := by rw [intake]; exact ⟨rfl, rfl, rfl⟩
      reports := by rw [reports]; exact ⟨rfl, rfl, rfl, rfl, rfl, rfl⟩
      masks := by rw [reports]; exact ⟨rfl, rfl, rfl⟩
      bands := fun b => by rw [bands]; simp
      capture := by rw [capture]; exact ⟨rfl, rfl, rfl⟩
      emit := by rw [emit]; exact ⟨rfl, rfl, rfl⟩
      chanD := chanD ▸ Channel.reset_atReset
      chanP := chanP ▸ Channel.reset_atReset
      profiles := fun n => by rw [profiles]; simp
      sensors := sensors
      mover := by rw [mover]; rfl
      power := by rw [power]; exact ⟨rfl, rfl, rfl⟩
      timers := by rw [power]; exact ⟨rfl, rfl, rfl, fun p => by simp [Power.reset]⟩
      ringing := by rw [ring]; rfl
      qualifier := by rw [ring]; exact ⟨rfl, rfl, rfl, rfl, rfl, rfl⟩
      boot := by rw [boot]; exact ⟨rfl, rfl, rfl, rfl, rfl, rfl⟩ }

theorem State.reset_inv : Inv State.reset where
  memory := ⟨List.Pairwise.nil, fun _ h => absurd h List.not_mem_nil⟩
  marks b := by simpa [State.reset] using Band.reset_legal
  pending := Nat.zero_le _
  unposted := Nat.zero_le _
  seqLow := Nat.le_refl 1
  seqHigh := by decide

theorem State.reset_resetValues : ResetValues State.reset :=
  resetValues_of_blocks rfl ⟨1, rfl⟩ rfl ⟨_, _, _, rfl⟩ rfl rfl rfl rfl rfl rfl rfl rfl rfl rfl rfl
    (fun x => by simp [State.reset]) ⟨_, _, _, rfl⟩

/-- Settles O4. -/
theorem resetMeetsInvariant : Obligations.ResetMeetsInvariant :=
  ⟨State.reset_inv, queuesLegal_of_empty fun q => by cases q <;> rfl, State.reset_resetValues, rfl, rfl, rfl, rfl, rfl,
    rfl, rfl⟩

end Sys2Proof.Machine
end

section
/-! Memory: the canonical form is the only one of its data, and words are stored with the high byte first. DRAM changes
only where the grant in progress transfers words. -/

namespace Sys2Proof.Machine

open Sys2Proof

variable {s t u : State} {c : Instr}

/-! ### The canonical form -/

theorem Memory.wf_tail {d : Host.Cell} {m : List Host.Cell} (h : Memory.wf (d :: m)) : Memory.wf m :=
  ⟨(List.pairwise_cons.mp h.1).2, fun c hc => h.2 c (List.mem_cons_of_mem _ hc)⟩

theorem Memory.read_head (u : Byte) (d : Host.Cell) (m : List Host.Cell) : Memory.read u (d :: m) d.1 = d.2 :=
  if_pos rfl

/-- Below the first cell of a canonical memory nothing is listed. -/
theorem Memory.read_below {d : Host.Cell} {m : List Host.Cell} (h : Memory.wf (d :: m)) {a : Nat} (ha : a < d.1) (u : Byte) :
    Memory.read u (d :: m) a = u :=
  Memory.read_of_lt u fun c hc => by
    rcases List.mem_cons.mp hc with rfl | hc
    · exact ha
    · exact ha.trans ((List.pairwise_cons.mp h.1).1 c hc)

/-- Two canonical memories that read alike have no cell before the first of the other. -/
theorem Memory.first_le {d e : Host.Cell} {m n : List Host.Cell} (hm : Memory.wf (d :: m)) (hn : Memory.wf (e :: n))
    (same : ∀ a, Memory.read Config.unlistedDram (d :: m) a = Memory.read Config.unlistedDram (e :: n) a) : e.1 ≤ d.1 := by
  by_contra below
  have unlisted := same d.1
  rw [Memory.read_head, Memory.read_below hn (by omega)] at unlisted
  exact hm.2 d List.mem_cons_self unlisted

theorem Memory.eq_of_read {m n : List Host.Cell} (hm : Memory.wf m) (hn : Memory.wf n)
    (same : ∀ a, Memory.read Config.unlistedDram m a = Memory.read Config.unlistedDram n a) : m = n := by
  induction m generalizing n with
  | nil =>
    cases n with
    | nil => rfl
    | cons e n =>
      have unlisted := same e.1
      rw [Memory.read_head] at unlisted
      exact absurd unlisted.symm (hn.2 e List.mem_cons_self)
  | cons d m ih =>
    cases n with
    | nil =>
      have unlisted := same d.1
      rw [Memory.read_head] at unlisted
      exact absurd unlisted (hm.2 d List.mem_cons_self)
    | cons e n =>
      have address : d.1 = e.1 :=
        Nat.le_antisymm (Memory.first_le hn hm fun a => (same a).symm) (Memory.first_le hm hn same)
      have byte : d.2 = e.2 := by
        have := same d.1
        rwa [Memory.read_head, address, Memory.read_head] at this
      obtain rfl : d = e := Prod.ext address byte
      have rest : m = n := by
        refine ih (Memory.wf_tail hm) (Memory.wf_tail hn) fun a => ?_
        by_cases ha : d.1 = a
        · subst ha
          have below (l : List Host.Cell) (hl : Memory.wf (d :: l)) : Memory.read Config.unlistedDram l d.1 = Config.unlistedDram :=
            Memory.read_of_lt _ (List.pairwise_cons.mp hl.1).1
          rw [below m hm, below n hn]
        · simpa only [Memory.read, if_neg ha] using same a
      rw [rest]

/-! ### Words -/

theorem wordOf_bytes (w : Word) : wordOf (wordHigh w) (wordLow w) = w := by
  apply BitVec.eq_of_getLsbD_eq
  intro i hi
  simp only [wordOf, wordHigh, wordLow, BitVec.getLsbD_append, BitVec.getLsbD_extractLsb']
  by_cases low : i < 8
  · simp [low]
  · have high : i - 8 < 8 := by omega
    have place : 8 + (i - 8) = i := by omega
    simp [low, high, place]

/-- A word stored: its more significant byte at the address, the other behind it (section 0.8). -/
theorem State.dramByte_store_word (h : Memory.wf s.dram) (a : Nat) (w : Word) :
    (s.store (wordBytes a w)).dramByte a = wordHigh w ∧ (s.store (wordBytes a w)).dramByte (a + 1) = wordLow w := by
  have first := Memory.write_wf h a (wordHigh w)
  simp only [State.dramByte, State.store, State.withDram_dram, wordBytes, Memory.writeAll]
  exact ⟨by rw [Memory.read_write_other first _ (by omega), Memory.read_write_same h], Memory.read_write_same first _ _⟩

theorem State.dramWord_store_word (h : Memory.wf s.dram) (a : Nat) (w : Word) :
    (s.store (wordBytes a w)).dramWord a = w := by
  obtain ⟨high, low⟩ := State.dramByte_store_word h a w
  rw [State.dramWord, high, low, wordOf_bytes]

/-- Settles O10. -/
theorem memoryIsCanonical : Obligations.MemoryIsCanonical := by
  refine ⟨fun m a b v hm => ⟨Memory.write_wf hm a v, ?_⟩, fun m n hm hn same => Memory.eq_of_read hm hn same,
    fun s a w hs => ⟨State.dramWord_store_word hs a w, (State.dramByte_store_word hs a w).1⟩⟩
  split
  · next e => rw [e, Memory.read_write_same hm]
  · next ne => exact Memory.read_write_other hm v ne

/-! ### What a command leaves in DRAM -/

/-- DRAM of `t` differs from that of `s` at most where the grant in progress in `s` transfers words. -/
def DramByGrant (s t : State) : Prop :=
  t.dram = s.dram ∨ ∃ g cells, s.port.grant = some g ∧ (∀ x ∈ cells, x ∈ (s.grantTransfers g).flatten)
    ∧ t.dram = Memory.writeAll s.dram cells

theorem DramByGrant.of_outside (h : t.outside = s.outside) : DramByGrant s t := .inl (congrArg Outside.dram h)

@[simp] theorem State.withBoot_outside_dram (b : Boot) : (s.withBoot b).outside.dram = s.outside.dram := rfl

/-- A grant ends, and nothing after its end reaches memory. -/
theorem DramByGrant.ends {g : Grant} (hg : s.port.grant = some g) (h : t.outside.dram = (s.endGrant g).outside.dram) :
    DramByGrant s t :=
  .inr ⟨g, _, hg, fun _ hx => hx, h⟩

/-- A reset cuts the grant in progress after some of its words (R24). -/
theorem DramByGrant.cut (s : State) (words : Nat) : DramByGrant s (s.cutGrant words) := by
  unfold State.cutGrant
  split
  · next g hg =>
    refine .inr ⟨g, ((s.grantTransfers g).take words).flatten, hg, fun x hx => ?_, rfl⟩
    obtain ⟨l, hl, hx⟩ := List.mem_flatten.mp hx
    exact List.mem_flatten.mpr ⟨l, List.mem_of_mem_take hl, hx⟩
  · exact .inl rfl

theorem State.resetPart_dram (cause : ResetKind) (words : Nat) :
    (s.resetPart cause words).dram = (s.cutGrant words).dram := rfl

theorem State.cutGrant_dram_of_none (words : Nat) (h : s.port.grant = none) : (s.cutGrant words).dram = s.dram := by
  simp only [State.cutGrant, h]

theorem State.judgeHeader_dram (ws : List Word) : (s.judgeHeader ws).dram = s.dram := by
  obtain ⟨_, _, _, _, h⟩ := s.judgeHeader_outside ws
  exact congrArg Outside.dram h

@[simp] theorem State.releaseProcessor_dram : s.releaseProcessor.outside.dram = s.outside.dram := by
  obtain ⟨_, h⟩ := s.releaseProcessor_outside
  rw [h]; rfl

theorem State.profileRead_dram (h : InHand) (addr : Nat) (ws : List Word) (total : Nat) :
    (s.profileRead h addr ws total).dram = s.dram := by
  obtain ⟨_, e⟩ := s.profileRead_outside h addr ws total
  exact congrArg Outside.dram e

theorem State.settleOrder_windows_dram {h : InHand} {x : Except Result State}
    (hx : ∀ t, x = .ok t → ∃ e w, t = s.replaceEntry e w) : (s.settleOrder h x).dram = s.dram := by
  obtain ⟨_, e⟩ := State.settleOrder_windows (h := h) hx
  exact congrArg Outside.dram e

theorem State.grant_of_bootGrant {job : BootJob} (h : s.bootGrant = some job) : s.port.grant = some (.boot job) := by
  unfold State.bootGrant at h
  split at h <;> cases h
  assumption

theorem State.grant_of_writtenLine {p : CaptureParams} {r : CaptureRecord} {i : StoreId} {ws : List Word}
    (h : s.writtenLine = some (p, r, i, ws)) : s.port.grant = some (.writeBack i) := by
  unfold State.writtenLine at h
  split at h
  · next hg =>
    split at h <;> cases h
    exact hg
  · cases h

theorem Effect.dram (e : Effect c s u) (up : c ≠ .powerOn) (down : c ≠ .supplyFall) : DramByGrant s u := by
  cases e
  case powerOn => exact absurd rfl up
  case supplyFall => exact absurd rfl down
  case resetLineUp words => exact DramByGrant.cut (s.withResetLine true) words
  case thirdLapse words => exact DramByGrant.cut s words
  case restarted hg _ =>
    exact .ends hg (State.cutGrant_dram_of_none 0 rfl)
  case headerRead => exact .inl (State.judgeHeader_dram _)
  case fillEnd hg | fillBurst hg | copyWriteBurst hg | bootRelease hg =>
    exact .ends (State.grant_of_bootGrant hg) (by simp)
  case copyAttemptEnd hg _ => exact .ends (State.grant_of_bootGrant hg) (by simp)
  case profileRecordReadEnd => exact .inl (State.profileRead_dram _ _ _ _)
  case setWindow =>
    exact .inl (State.settleOrder_windows_dram fun t ht => by
      obtain ⟨e, _, _, _, _, -, -, -, -, rfl⟩ := State.setWindow_ok ht; exact ⟨e, _, rfl⟩)
  case clearWindow =>
    exact .inl (State.settleOrder_windows_dram fun t ht => by
      obtain ⟨e, -, rfl⟩ := State.clearWindow_ok ht; exact ⟨e, _, rfl⟩)
  case processorGrantEnd hg _ | bodyFetchEnd hg _ | taken hg _ | takenUnknown hg _ | ownWrite hg _ =>
    exact .ends hg (by simp)
  case finalWrite hg | reportPostEnd hg | fetchGrantEnd hg | moverGrantEnd hg => exact .ends hg (by simp)
  case wakeWordWritten hg _ => exact .ends hg (by simp)
  case writeBackEnd hg => exact .ends (State.grant_of_writtenLine hg) (by simp)
  case resetLineDown | holdDelayEnd | headerBurst | copyReadBurst | sensorInputChange => exact .inl rfl
  case debouncedChange => exact .inl (congrArg Outside.dram (State.deliver_outside _ _ _ _))
  all_goals exact .of_outside (by simp)

/-- Settles O5: what a command leaves in DRAM differs from what it found only by words of the grant in progress. -/
theorem dramChangesByGrantAlone : Obligations.DramChangesByGrantAlone := by
  intro c s t a hs h up down untouched
  have byGrant : DramByGrant s t :=
    exec_induction h (.inl rfl) (fun _ e => e.dram up down) fun u hu => by
      have settled : u.settle.dram = u.dram := congrArg Outside.dram u.settle_outside
      simpa only [DramByGrant, settled] using hu
  rcases byGrant with same | ⟨g, cells, hg, inGrant, written⟩
  · rw [State.dramByte, State.dramByte, same]
  · rw [State.dramByte, State.dramByte, written]
    exact Memory.read_writeAll_other hs fun x hx => untouched g hg x (inGrant x hx)

end Sys2Proof.Machine
end

section
/-! What only a step, a grant or a posting moves: the phase indices, the ring of the report area and the grant in
progress. Every other operation leaves them alone. -/

namespace Sys2Proof.Machine

open Sys2Proof

variable (s : State)

/-- The phase indices of the channels, the marks of the report area, and the grant in progress. -/
structure Kept where
  phaseD : BitVec 3
  phaseP : BitVec 3
  count : Nat
  post : Nat
  consume : Nat
  unconsumed : List ReportClass
  grant : Option Grant

/-- Those parts of a state. -/
def State.kept : Kept :=
  { phaseD := s.chanD.phase, phaseP := s.chanP.phase, count := s.reports.count, post := s.reports.post,
    consume := s.reports.consume, unconsumed := s.reports.unconsumed, grant := s.port.grant }

def Kept.setPhase (k : Kept) (c : Chan) (x : BitVec 3) : Kept :=
  match c with
  | .d => { k with phaseD := x }
  | .p => { k with phaseP := x }

def Kept.setArea (k : Kept) (count post consume : Nat) (unconsumed : List ReportClass) : Kept :=
  { k with count := count, post := post, consume := consume, unconsumed := unconsumed }

def Kept.setGrant (k : Kept) (g : Option Grant) : Kept := { k with grant := g }

@[simp] theorem State.kept_setPhaseD : s.kept.setPhase .d s.chanD.phase = s.kept := rfl
@[simp] theorem State.kept_setPhaseP : s.kept.setPhase .p s.chanP.phase = s.kept := rfl
@[simp] theorem State.kept_setPhase (c : Chan) : s.kept.setPhase c (s.chan c).phase = s.kept := by cases c <;> rfl
@[simp] theorem State.kept_setArea :
    s.kept.setArea s.reports.count s.reports.post s.reports.consume s.reports.unconsumed = s.kept := rfl
@[simp] theorem State.kept_setGrant : s.kept.setGrant s.port.grant = s.kept := rfl

/-! ### Channels -/

@[simp] theorem Channel.enterOff_phase (c : Channel) : c.enterOff.phase = c.phase := rfl
@[simp] theorem Channel.startHold_phase (c : Channel) : c.startHold.phase = c.phase := by
  simp only [Channel.startHold]; split <;> rfl
@[simp] theorem Channel.enterHolding_phase (c : Channel) : c.enterHolding.phase = c.phase := by
  simp [Channel.enterHolding]
@[simp] theorem Channel.enterMoving_phase (c : Channel) (n : Nat) : (c.enterMoving n).phase = c.phase := rfl
@[simp] theorem Channel.enterPaused_phase (c : Channel) (n : Nat) : (c.enterPaused n).phase = c.phase := rfl
@[simp] theorem Channel.enterBoundaryWait_phase (c : Channel) : c.enterBoundaryWait.phase = c.phase := rfl
@[simp] theorem Channel.hardStop_phase (c : Channel) : c.hardStop.phase = c.phase := by
  simp only [Channel.hardStop]; split <;> simp
@[simp] theorem Channel.deEnergise_phase (c : Channel) : c.deEnergise.phase = c.phase := by
  simp only [Channel.deEnergise]; split <;> rfl
@[simp] theorem Channel.chopStart_phase (c : Channel) : c.chopStart.phase = c.phase := rfl
@[simp] theorem Channel.ramp_phase (c : Channel) (p : List Level) : (c.ramp p).phase = c.phase := rfl
@[simp] theorem Channel.startFree_phase (c : Channel) (p : List Level) (d : Direction) (r : Nat) :
    (c.startFree p d r).phase = c.phase := rfl
@[simp] theorem Channel.set_phase (c : Channel) (mode : StepMode) (run hold time : Nat) :
    (c.set mode run hold time).phase = c.phase := by
  simp only [Channel.set]; split <;> simp

/-! ### Updates of one field -/

@[simp] theorem State.withDram_kept (x : List Host.Cell) : (s.withDram x).kept = s.kept := rfl
@[simp] theorem State.withPins_kept (x : Pins) : (s.withPins x).kept = s.kept := rfl
@[simp] theorem State.withPassage_kept (x : Passage) : (s.withPassage x).kept = s.kept := rfl
@[simp] theorem State.withWindows_kept (x : Vector Window 8) : (s.withWindows x).kept = s.kept := rfl
@[simp] theorem State.withIntake_kept (x : Intake) : (s.withIntake x).kept = s.kept := rfl
@[simp] theorem State.withBands_kept (x : Vector Band 4) : (s.withBands x).kept = s.kept := rfl
@[simp] theorem State.withCapture_kept (x : CaptureEngine) : (s.withCapture x).kept = s.kept := rfl
@[simp] theorem State.withEmit_kept (x : EmitEngine) : (s.withEmit x).kept = s.kept := rfl
@[simp] theorem State.withProfiles_kept (x : Vector (List Level) 8) : (s.withProfiles x).kept = s.kept := rfl
@[simp] theorem State.withSensors_kept (x : Vector SensorCell 6) : (s.withSensors x).kept = s.kept := rfl
@[simp] theorem State.withMover_kept (x : Mover) : (s.withMover x).kept = s.kept := rfl
@[simp] theorem State.withPower_kept (x : Power) : (s.withPower x).kept = s.kept := rfl
@[simp] theorem State.withRing_kept (x : Ringing) : (s.withRing x).kept = s.kept := rfl
@[simp] theorem State.withBoot_kept (x : Boot) : (s.withBoot x).kept = s.kept := rfl

@[simp] theorem State.withPort_kept (x : Port) : (s.withPort x).kept = s.kept.setGrant x.grant := rfl
@[simp] theorem State.withReports_kept (x : Reports) :
    (s.withReports x).kept = s.kept.setArea x.count x.post x.consume x.unconsumed := rfl
@[simp] theorem State.withChanD_kept (x : Channel) : (s.withChanD x).kept = s.kept.setPhase .d x.phase := rfl
@[simp] theorem State.withChanP_kept (x : Channel) : (s.withChanP x).kept = s.kept.setPhase .p x.phase := rfl
@[simp] theorem State.withChan_kept (c : Chan) (x : Channel) : (s.withChan c x).kept = s.kept.setPhase c x.phase := by
  cases c <;> rfl

@[simp] theorem Port.leaveSelfRefresh_grant (p : Port) : p.leaveSelfRefresh.grant = p.grant := by
  simp only [Port.leaveSelfRefresh]; split <;> rfl

/-! ### Bands, accesses and faults -/

@[simp] theorem State.withBand_kept (b : Fin 4) (x : Band) : (s.withBand b x).kept = s.kept := rfl
@[simp] theorem State.judgeAnew_kept (b : Fin 4) (changed : Nat → Bool) : (s.judgeAnew b changed).kept = s.kept := rfl
@[simp] theorem State.withLines_kept (b : Fin 4) (x : Band) : (s.withLines b x).kept = s.kept := rfl
@[simp] theorem State.withNewBand_kept (b : Fin 4) (x : Band) : (s.withNewBand b x).kept = s.kept := rfl
@[simp] theorem State.withCpu_kept (x : Option CpuAccess) : (s.withCpu x).kept = s.kept := rfl
@[simp] theorem State.completeCpu_kept (a : Access) (d : Option Word) : (s.completeCpu a d).kept = s.kept := rfl
@[simp] theorem State.withRunning_kept (q : QueueId) (r : Option Running) :
    (s.withRunning q r).kept = s.kept := by
  simp [State.withRunning]

/-! ### Reports -/

@[simp] theorem State.enter_kept (r : Report) : (s.enter r).kept = s.kept := by
  simp only [State.enter]; (repeat' split) <;> simp
@[simp] theorem State.enterCompletion_kept (q : QueueId) : (s.enterCompletion q).kept = s.kept := by
  simp only [State.enterCompletion]; (repeat' split) <;> simp
@[simp] theorem State.enterItem_kept (i : WaitingItem) : (s.enterItem i).kept = s.kept := by
  cases i <;> simp [State.enterItem]
@[simp] theorem State.offer_kept (block : Block) (item : WaitingItem) :
    (s.offer block item).kept = s.kept := by
  simp only [State.offer]; (repeat' split) <;> simp
@[simp] theorem State.offerNotice_kept (b : Fin 4) (r : Report) : (s.offerNotice b r).kept = s.kept := by
  simp only [State.offerNotice]; (repeat' split) <;> simp
@[simp] theorem State.dropNotice_kept (b : Fin 4) : (s.dropNotice b).kept = s.kept := by
  simp [State.dropNotice]
@[simp] theorem State.offerPower_kept (r : Report) : (s.offerPower r).kept = s.kept := by
  simp only [State.offerPower]; (repeat' split) <;> simp
@[simp] theorem State.offerSensor_kept (x : Sensor) : (s.offerSensor x).kept = s.kept := by
  simp only [State.offerSensor]; (repeat' split) <;> simp
@[simp] theorem State.raiseFault_kept (f : PassageFault) : (s.raiseFault f).kept = s.kept := by
  simp only [State.raiseFault, State.enter]; (repeat' split) <;> rfl
@[simp] theorem State.endOrder_kept (q : QueueId) (block : Block) (result : Result) (figures : List Word) :
    (s.endOrder q block result figures).kept = s.kept := by
  simp only [State.endOrder]; (repeat' split) <;> simp

/-! ### Bands -/

@[simp] theorem State.withCount_kept (b : Fin 4) (x : Band) (up : Bool) :
    (s.withCount b x up).kept = s.kept := by
  simp only [State.withCount]; (repeat' split) <;> simp

/-! ### Passage -/

@[simp] theorem State.endHold_kept (x : CpuAccess) : (s.endHold x).kept = s.kept := by
  simp only [State.endHold]; (repeat' split) <;> simp
@[simp] theorem State.expireHold_kept (x : CpuAccess) (b : Fin 4) : (s.expireHold x b).kept = s.kept := by
  simp [State.expireHold]
@[simp] theorem State.holdCpu_kept (a : Access) (why : HoldReason) (t : HoldTimer) :
    (s.holdCpu a why t).kept = s.kept := by
  simp only [State.holdCpu]; (repeat' split) <;> simp
@[simp] theorem State.presentCpu_kept (a : Access) (t : HoldTimer) : (s.presentCpu a t).kept = s.kept := by
  simp only [State.presentCpu]; (repeat' split) <;> simp
@[simp] theorem State.releaseCpu_kept (why : HoldReason) : (s.releaseCpu why).kept = s.kept := by
  simp only [State.releaseCpu]; (repeat' split) <;> simp
@[simp] theorem State.releaseMover_kept (b : Fin 4) (line : Nat) :
    (s.releaseMover b line).kept = s.kept := by
  simp only [State.releaseMover]; (repeat' split) <;> simp
@[simp] theorem State.releaseLine_kept (b : Fin 4) (line : Nat) : (s.releaseLine b line).kept = s.kept := by
  simp [State.releaseLine]
@[simp] theorem State.cancelCpu_kept (b : Fin 4) : (s.cancelCpu b).kept = s.kept := by
  simp only [State.cancelCpu]; (repeat' split) <;> simp
@[simp] theorem State.cancelMover_kept (b : Fin 4) : (s.cancelMover b).kept = s.kept := by
  simp only [State.cancelMover]; (repeat' split) <;> simp
@[simp] theorem State.cancelHolds_kept (b : Fin 4) : (s.cancelHolds b).kept = s.kept := by
  simp [State.cancelHolds]

/-! ### Motor -/

@[simp] theorem State.endMove_kept (c : Chan) (result : Result) : (s.endMove c result).kept = s.kept := by
  simp [State.endMove]
@[simp] theorem State.startMove_kept (c : Chan) (p : MoveParams) : (s.startMove c p).kept = s.kept := by
  simp only [State.startMove]; (repeat' split) <;> simp
@[simp] theorem State.edgeMove_kept (c : Chan) (p : MoveParams) (x : Sensor) (rising : Bool) :
    (s.edgeMove c p x rising).kept = s.kept := by
  simp only [State.edgeMove]; (repeat' split) <;> simp

/-! ### Capture -/

@[simp] theorem State.withCaptureRecord_kept (r : CaptureRecord) :
    (s.withCaptureRecord r).kept = s.kept := by
  simp [State.withCaptureRecord]
@[simp] theorem State.captureFinish_kept : (s.captureFinish).kept = s.kept := by
  simp only [State.captureFinish]; (repeat' split) <;> simp
@[simp] theorem State.captureDecide_kept (r : CaptureRecord) (result : Result) :
    (s.captureDecide r result).kept = s.kept := by
  simp [State.captureDecide]
@[simp] theorem State.captureStop_kept (r : CaptureRecord) (result : Result) :
    (s.captureStop r result).kept = s.kept := by
  simp [State.captureStop]
@[simp] theorem State.beginLine_kept (p : CaptureParams) (r : CaptureRecord) :
    (s.beginLine p r).kept = s.kept := by
  simp only [State.beginLine]; (repeat' split) <;> simp
@[simp] theorem State.withdrawClocking_kept (n : Fin 4) : (s.withdrawClocking n).kept = s.kept := by
  simp only [State.withdrawClocking]; (repeat' split) <;> simp
@[simp] theorem State.captureProceed_kept (p : CaptureParams) (r : CaptureRecord) (level : Nat) :
    (s.captureProceed p r level).kept = s.kept := by
  simp only [State.captureProceed]; (repeat' split) <;> simp
@[simp] theorem State.paceCapture_kept (p : CaptureParams) (r : CaptureRecord) :
    (s.paceCapture p r).kept = s.kept := by
  simp only [State.paceCapture]; (repeat' split) <;> simp
@[simp] theorem State.enterEject_kept (p : CaptureParams) (r : CaptureRecord) :
    (s.enterEject p r).kept = s.kept := by
  simp only [State.enterEject]; (repeat' split) <;> simp
@[simp] theorem State.tailBoundary_kept (p : CaptureParams) (r : CaptureRecord) :
    (s.tailBoundary p r).kept = s.kept := by
  simp only [State.tailBoundary]; (repeat' split) <;> simp
@[simp] theorem State.scanBoundary_kept (p : CaptureParams) (r : CaptureRecord) :
    (s.scanBoundary p r).kept = s.kept := by
  simp only [State.scanBoundary]; (repeat' split) <;> simp
@[simp] theorem State.captureBoundary_kept (p : CaptureParams) (r : CaptureRecord) :
    (s.captureBoundary p r).kept = s.kept := by
  simp only [State.captureBoundary]; (repeat' split) <;> simp
@[simp] theorem State.enterPaced_kept (p : CaptureParams) (r : CaptureRecord) :
    (s.enterPaced p r).kept = s.kept := by
  simp [State.enterPaced]
@[simp] theorem State.enterSkip_kept (p : CaptureParams) (r : CaptureRecord) :
    (s.enterSkip p r).kept = s.kept := by
  simp only [State.enterSkip]; (repeat' split) <;> simp
@[simp] theorem State.startCapture_kept (p : CaptureParams) : (s.startCapture p).kept = s.kept := by
  simp only [State.startCapture]; (repeat' split) <;> simp
@[simp] theorem State.resumeD_kept (b : Fin 4) : (s.resumeD b).kept = s.kept := by
  simp only [State.resumeD]; (repeat' split) <;> simp
@[simp] theorem State.docEdge_kept (rising : Bool) : (s.docEdge rising).kept = s.kept := by
  simp only [State.docEdge]; (repeat' split) <;> simp
@[simp] theorem State.captureBreak_kept (result : Result) : (s.captureBreak result).kept = s.kept := by
  simp only [State.captureBreak]; (repeat' split) <;> simp

/-! ### Emit -/

@[simp] theorem State.withEmitRecord_kept (r : EmitRecord) : (s.withEmitRecord r).kept = s.kept := by
  simp [State.withEmitRecord]
@[simp] theorem State.emitDecide_kept (r : EmitRecord) (result : Result) (reason : EndReason) :
    (s.emitDecide r result reason).kept = s.kept := by
  simp [State.emitDecide]
@[simp] theorem State.tryLatch_kept : (s.tryLatch).kept = s.kept := by
  simp only [State.tryLatch]; (repeat' split) <;> simp
@[simp] theorem State.revertLines_kept (b : Fin 4) : (s.revertLines b).kept = s.kept := by
  simp only [State.revertLines]; (repeat' split) <;> simp
@[simp] theorem State.revertLines_chanP (b : Fin 4) : (s.revertLines b).chanP = s.chanP := rfl
@[simp] theorem State.emitStop_kept (p : EmitParams) (r : EmitRecord) (result : Result) (reason : EndReason) :
    (s.emitStop p r result reason).kept = s.kept := by
  simp [State.emitStop]
@[simp] theorem State.enterTail_kept (p : EmitParams) (r : EmitRecord) :
    (s.enterTail p r).kept = s.kept := by
  simp only [State.enterTail]; (repeat' split) <;> simp
@[simp] theorem State.emitProceed_kept (r : EmitRecord) (level : Nat) :
    (s.emitProceed r level).kept = s.kept := by
  simp [State.emitProceed]
@[simp] theorem State.printBoundary_kept (p : EmitParams) (r : EmitRecord) :
    (s.printBoundary p r).kept = s.kept := by
  simp only [State.printBoundary]; (repeat' split) <;> simp
@[simp] theorem State.startEmit_kept (p : EmitParams) : (s.startEmit p).kept = s.kept := by
  simp only [State.startEmit]; (repeat' split) <;> simp
@[simp] theorem State.resumeP_kept (b : Fin 4) : (s.resumeP b).kept = s.kept := by
  simp only [State.resumeP]; (repeat' split) <;> simp
@[simp] theorem State.testOpenEnd_kept : (s.testOpenEnd).kept = s.kept := by
  simp only [State.testOpenEnd]; (repeat' split) <;> simp
@[simp] theorem State.paperFall_kept : (s.paperFall).kept = s.kept := by
  simp only [State.paperFall]; (repeat' split) <;> simp
@[simp] theorem State.emitCover_kept : (s.emitCover).kept = s.kept := by
  simp only [State.emitCover]; (repeat' split) <;> simp
@[simp] theorem State.emitAbort_kept : (s.emitAbort).kept = s.kept := by
  simp only [State.emitAbort]; (repeat' split) <;> simp

/-! ### Mover -/

@[simp] theorem State.applyObs_kept (obs : Obs) (who : Requester) (op : AccessOp) (addr : Nat) :
    (s.applyObs obs who op addr).kept = s.kept := by
  simp only [State.applyObs]; (repeat' split) <;> simp
@[simp] theorem State.startTransfer_kept (p : TransferParams) : (s.startTransfer p).kept = s.kept := by
  simp [State.startTransfer]
@[simp] theorem State.endTransfer_kept (result : Result) : (s.endTransfer result).kept = s.kept := by
  simp [State.endTransfer]
@[simp] theorem State.stopTransfer_kept : (s.stopTransfer).kept = s.kept := by
  simp [State.stopTransfer]
@[simp] theorem State.abortTransfer_kept : (s.abortTransfer).kept = s.kept := by
  simp only [State.abortTransfer]; (repeat' split) <;> simp
@[simp] theorem State.holdMover_kept (b : Fin 4) (line : Nat) : (s.holdMover b line).kept = s.kept := by
  simp [State.holdMover]
@[simp] theorem State.endMoverGrant_kept (n : Nat) (obs : Obs) : (s.endMoverGrant n obs).kept = s.kept := by
  simp only [State.endMoverGrant]; (repeat' split) <;> simp

/-! ### Power -/

@[simp] theorem State.withClock_kept (on : Bool) : (s.withClock on).kept = s.kept := by
  simp [State.withClock]
@[simp] theorem State.askSelfRefresh_kept (on : Bool) : (s.askSelfRefresh on).kept = s.kept := by
  simp [State.askSelfRefresh]
@[simp] theorem State.oweSleepWrite_kept (slot : Nat) (r : Result) :
    (s.oweSleepWrite slot r).kept = s.kept := by
  simp [State.oweSleepWrite]
@[simp] theorem State.deEnergiseBoth_kept : (s.deEnergiseBoth).kept = s.kept := by
  simp [State.deEnergiseBoth]
@[simp] theorem State.rewatch_kept : (s.rewatch).kept = s.kept := by
  simp only [State.rewatch]; (repeat' split) <;> simp
@[simp] theorem State.enterSleeping_kept (w : WakeSettings) : (s.enterSleeping w).kept = s.kept := by
  simp only [State.enterSleeping]; (repeat' split) <;> simp
@[simp] theorem State.endSleep_kept (r : Result) : (s.endSleep r).kept = s.kept := by
  simp only [State.endSleep]; (repeat' split) <;> simp
@[simp] theorem State.wakeEarly_kept (w : WakeSettings) (c : WakeCause) :
    (s.wakeEarly w c).kept = s.kept := by
  simp [State.wakeEarly]
@[simp] theorem State.startWake_kept (w : WakeSettings) (c : WakeCause) :
    (s.startWake w c).kept = s.kept := by
  simp [State.startWake]
@[simp] theorem State.takeCause_kept (c : WakeCause) : (s.takeCause c).kept = s.kept := by
  simp only [State.takeCause]; (repeat' split) <;> simp
@[simp] theorem State.confirmWake_kept : (s.confirmWake).kept = s.kept := by
  simp [State.confirmWake]
@[simp] theorem State.giveUpLapse_kept : (s.giveUpLapse).kept = s.kept := by
  simp [State.giveUpLapse]
@[simp] theorem State.notice_kept : (s.notice).kept = s.kept := by
  simp only [State.notice]; (repeat' split) <;> simp
@[simp] theorem State.startConfirm_kept (confirm : Nat) : (s.startConfirm confirm).kept = s.kept := by
  simp only [State.startConfirm]; (repeat' split) <;> simp
@[simp] theorem State.reportWake_kept (w : WakeSettings) (word : Word) :
    (s.reportWake w word).kept = s.kept := by
  simp only [State.reportWake]; (repeat' split) <;> simp
@[simp] theorem State.wakeWordDone_kept (word : Word) : (s.wakeWordDone word).kept = s.kept := by
  simp only [State.wakeWordDone]; (repeat' split) <;> simp
@[simp] theorem State.call_kept : (s.call).kept = s.kept := by
  simp only [State.call]; (repeat' split) <;> simp
@[simp] theorem State.burstQualified_kept : (s.burstQualified).kept = s.kept := by
  simp only [State.burstQualified]; (repeat' split) <;> simp
@[simp] theorem State.burstDisqualified_kept : (s.burstDisqualified).kept = s.kept := by
  simp only [State.burstDisqualified]; (repeat' split) <;> simp
@[simp] theorem State.judgeBurst_kept (periods : List Nat) : (s.judgeBurst periods).kept = s.kept := by
  simp only [State.judgeBurst]; (repeat' split) <;> simp

/-! ### Intake -/

@[simp] theorem State.withSlot_kept (i : Nat) (x : SlotRecord) : (s.withSlot i x).kept = s.kept := by
  simp [State.withSlot]
@[simp] theorem State.leaveFetching_kept (i : Nat) (x : SlotRecord) :
    (s.leaveFetching i x).kept = s.kept := by
  simp [State.leaveFetching]
@[simp] theorem State.withStage_kept (h : InHand) (st : Stage) : (s.withStage h st).kept = s.kept := by
  simp [State.withStage]
@[simp] theorem State.refuseOrder_kept (h : InHand) (r : Result) : (s.refuseOrder h r).kept = s.kept := by
  simp [State.refuseOrder]
@[simp] theorem State.completeOrder_kept (h : InHand) : (s.completeOrder h).kept = s.kept := by
  simp [State.completeOrder]
@[simp] theorem State.observeHead_kept (addr : Nat) (w : Word) : (s.observeHead addr w).kept = s.kept := by
  simp only [State.observeHead]; (repeat' split) <;> simp
@[simp] theorem State.withQueue_kept (q : QueueId) (x : Queue) : (s.withQueue q x).kept = s.kept := by
  simp [State.withQueue]
@[simp] theorem State.startOrder_kept (q : QueueId) (o : Order) : (s.startOrder q o).kept = s.kept := by
  simp only [State.startOrder]; (repeat' split) <;> simp
@[simp] theorem State.startNext_kept (q : QueueId) : (s.startNext q).kept = s.kept := by
  simp only [State.startNext]; (repeat' split) <;> simp
@[simp] theorem State.dispatch_kept : (s.dispatch).kept = s.kept := by
  simp only [State.dispatch]; (repeat' split) <;> simp
@[simp] theorem State.handOver_kept (h : InHand) (w : Work) : (s.handOver h w).kept = s.kept := by
  simp [State.handOver]
@[simp] theorem State.endInHand_kept (h : InHand) : (s.endInHand h).kept = s.kept := by
  simp only [State.endInHand]; (repeat' split) <;> simp
@[simp] theorem State.clearEngine_kept (w : Work) : (s.clearEngine w).kept = s.kept := by
  simp only [State.clearEngine]; (repeat' split) <;> simp
@[simp] theorem State.leaveQueue_kept (q : QueueId) (ro : Running) : (s.leaveQueue q ro).kept = s.kept := by
  simp only [State.leaveQueue]; (repeat' split) <;> simp
@[simp] theorem State.endFinalWrite_kept (w : FinalWrite) : (s.endFinalWrite w).kept = s.kept := by
  simp only [State.endFinalWrite]; (repeat' split) <;> simp
@[simp] theorem State.stopWork_kept (w : Work) : (s.stopWork w).kept = s.kept := by
  simp only [State.stopWork]; (repeat' split) <;> simp
@[simp] theorem State.abortEnding_kept (ro : Running) : (s.abortEnding ro).kept = s.kept := by
  simp [State.abortEnding]
@[simp] theorem State.abortRecord_kept (w : Work) : (s.abortRecord w).kept = s.kept := by
  cases w <;> simp [State.abortRecord]
@[simp] theorem State.abortQueue_kept (q : QueueId) : (s.abortQueue q).kept = s.kept := by
  simp only [State.abortQueue]; (repeat' split) <;> simp
/-! ### Steps: the phase index of the channel that steps moves (R73) -/

/-- Those parts but for the phase index of a channel. -/
def Kept.but (k : Kept) (c : Chan) : Kept := k.setPhase c 0

@[simp] theorem Kept.setPhase_but (k : Kept) (c : Chan) (x : BitVec 3) : (k.setPhase c x).but c = k.but c := by
  cases c <;> rfl

@[simp] theorem Channel.countStep_phase (c : Channel) : c.countStep.phase = c.phase := rfl

@[simp] theorem State.stepMove_keptBut (c : Chan) (p : MoveParams) : (s.stepMove c p).kept.but c = s.kept.but c := by
  simp only [State.stepMove]; (repeat' split) <;> simp
@[simp] theorem State.stepSkip_keptBut (p : CaptureParams) (r : CaptureRecord) :
    (s.stepSkip p r).kept.but .d = s.kept.but .d := by
  simp only [State.stepSkip]; (repeat' split) <;> simp
@[simp] theorem State.stepPaced_keptBut (p : CaptureParams) (r : CaptureRecord) :
    (s.stepPaced p r).kept.but .d = s.kept.but .d := by
  simp only [State.stepPaced]; (repeat' split) <;> simp
@[simp] theorem State.stepEject_keptBut (p : CaptureParams) (r : CaptureRecord) :
    (s.stepEject p r).kept.but .d = s.kept.but .d := by
  simp only [State.stepEject]; (repeat' split) <;> simp
@[simp] theorem State.stepApproach_keptBut (p : CaptureParams) (r : CaptureRecord) :
    (s.stepApproach p r).kept.but .d = s.kept.but .d := by
  simp only [State.stepApproach]; (repeat' split) <;> simp
@[simp] theorem State.stepCapture_keptBut (p : CaptureParams) (r : CaptureRecord) :
    (s.stepCapture p r).kept.but .d = s.kept.but .d := by
  simp only [State.stepCapture]; split <;> simp
@[simp] theorem State.stepPrinting_keptBut (p : EmitParams) (r : EmitRecord) :
    (s.stepPrinting p r).kept.but .p = s.kept.but .p := by
  simp only [State.stepPrinting]; (repeat' split) <;> simp
@[simp] theorem State.stepTail_keptBut (p : EmitParams) (r : EmitRecord) :
    (s.stepTail p r).kept.but .p = s.kept.but .p := by
  simp only [State.stepTail]; (repeat' split) <;> simp
@[simp] theorem State.stepEmit_keptBut (p : EmitParams) (r : EmitRecord) :
    (s.stepEmit p r).kept.but .p = s.kept.but .p := by
  simp only [State.stepEmit]; split <;> simp
@[simp] theorem State.stepExpired_keptBut (c : Chan) : (s.stepExpired c).kept.but c = s.kept.but c := by
  simp only [State.stepExpired]; (repeat' split) <;> simp

/-! ### What follows of itself -/

@[simp] theorem State.settle_kept : s.settle.kept = s.kept := by
  have h := s.settle_follows
  have phase {c d : Channel} (h : c.Follows d) : d.phase = c.phase := by
    rcases h with rfl | rfl
    · rfl
    · exact Channel.deEnergise_phase c
  obtain ⟨count, post, consume, unconsumed, -⟩ := h.area
  simp only [State.kept, phase h.chanD, phase h.chanP, count, post, consume, unconsumed, h.grant]

end Sys2Proof.Machine
end

section
/-! Who moves the phase indices and the report area, who writes the parts that few commands write, and what the Window
Table keeps after boot. -/

namespace Sys2Proof.Machine

open Sys2Proof

variable {s t u : State} {c : Instr}

/-! ### Operations of commands -/

@[simp] theorem State.endGrant_kept (g : Grant) : (s.endGrant g).kept = s.kept.setGrant none := rfl
@[simp] theorem State.freePort_kept : s.freePort.kept = s.kept.setGrant none := rfl
@[simp] theorem State.withResetLine_kept (x : Bool) : (s.withResetLine x).kept = s.kept := rfl

/-- An order's effect keeps what its checks' success keeps. -/
theorem State.settleOrder_kept {h : InHand} {x : Except Result State} (hx : ∀ t, x = .ok t → t.kept = s.kept) :
    (s.settleOrder h x).kept = s.kept := by
  simp only [State.settleOrder]; split
  · simp [hx _ rfl]
  · simp

@[simp] theorem State.replaceEntry_kept (e : Fin 8) (w : Window) : (s.replaceEntry e w).kept = s.kept := by
  simp only [State.replaceEntry]; split <;> simp
@[simp] theorem State.replaceBand_kept (b : Fin 4) (x : Band) : (s.replaceBand b x).kept = s.kept := by
  simp [State.replaceBand]
@[simp] theorem State.closeEmit_kept : s.closeEmit.kept = s.kept := by
  simp only [State.closeEmit]; split <;> simp
@[simp] theorem State.setWindow_kept (h : InHand) : (s.settleOrder h (s.setWindow h.body)).kept = s.kept :=
  State.settleOrder_kept fun t ht => by obtain ⟨_, _, _, _, _, -, -, -, -, rfl⟩ := State.setWindow_ok ht; simp
@[simp] theorem State.clearWindow_kept (h : InHand) : (s.settleOrder h (s.clearWindow h.body)).kept = s.kept :=
  State.settleOrder_kept fun t ht => by obtain ⟨_, -, rfl⟩ := State.clearWindow_ok ht; simp
@[simp] theorem State.setBand_kept (h : InHand) : (s.settleOrder h (s.setBand h.body)).kept = s.kept :=
  State.settleOrder_kept fun t ht => by obtain ⟨_, _, rfl⟩ := State.setBand_ok ht; simp
@[simp] theorem State.resetBand_kept (h : InHand) : (s.settleOrder h (s.resetBand h.body)).kept = s.kept :=
  State.settleOrder_kept fun t ht => by obtain ⟨_, rfl⟩ := State.resetBand_ok ht; simp
@[simp] theorem State.setChannel_kept (h : InHand) : (s.settleOrder h (s.setChannel h.body)).kept = s.kept :=
  State.settleOrder_kept fun t ht => by obtain ⟨_, _, _, _, _, rfl⟩ := State.setChannel_ok ht; simp
@[simp] theorem State.setRinging_kept (h : InHand) : (s.settleOrder h (s.setRinging h.body)).kept = s.kept :=
  State.settleOrder_kept fun t ht => by cases State.setRinging_ok ht; simp
@[simp] theorem State.setAttention_kept (h : InHand) : (s.settleOrder h (s.setAttention h.body)).kept = s.kept :=
  State.settleOrder_kept fun t ht => by obtain ⟨_, _, rfl⟩ := State.setAttention_ok ht; simp [Reports.recompute]
@[simp] theorem State.abort_kept (h : InHand) : (s.settleOrder h (s.abort h.body)).kept = s.kept :=
  State.settleOrder_kept fun t ht => by obtain ⟨_, rfl⟩ := State.abort_ok ht; simp
@[simp] theorem State.emitEnd_kept (h : InHand) : (s.settleOrder h s.emitEnd).kept = s.kept :=
  State.settleOrder_kept fun t ht => by cases State.emitEnd_ok ht; simp
@[simp] theorem State.settleQueued_kept (h : InHand) (x : Except Result Work) : (s.settleQueued h x).kept = s.kept := by
  simp only [State.settleQueued]; split <;> simp
@[simp] theorem State.acceptSleep_kept (h : InHand) (w : WakeSettings) : (s.acceptSleep h w).kept = s.kept := by
  simp [State.acceptSleep]
@[simp] theorem State.sleep_kept (h : InHand) : (s.sleep h).kept = s.kept := by
  simp only [State.sleep]; (repeat' split) <;> simp
@[simp] theorem State.patternsRead_kept (h : InHand) (addr : Nat) (ws : List Word) (total : Nat) :
    (s.patternsRead h addr ws total).kept = s.kept := by
  simp only [State.patternsRead]; (repeat' split) <;> simp
@[simp] theorem State.setProfile_kept (h : InHand) : (s.setProfile h).kept = s.kept := by
  simp only [State.setProfile]; (repeat' split) <;> simp
@[simp] theorem State.profileRead_kept (h : InHand) (addr : Nat) (ws : List Word) (total : Nat) :
    (s.profileRead h addr ws total).kept = s.kept := by
  simp only [State.profileRead]; (repeat' split) <;> simp
@[simp] theorem State.transfer_kept (h : InHand) : (s.transfer h).kept = s.kept := by
  simp only [State.transfer]; (repeat' split) <;> simp
@[simp] theorem State.segmentsRead_kept (h : InHand) (addr : Nat) (ws : List Word) (total : Nat) :
    (s.segmentsRead h addr ws total).kept = s.kept := by
  simp only [State.segmentsRead]; (repeat' split) <;> simp
@[simp] theorem State.sensorD_kept (x : Sensor) (rising : Bool) : (s.sensorD x rising).kept = s.kept := by
  simp only [State.sensorD]; (repeat' split) <;> simp
@[simp] theorem State.sensorP_kept (x : Sensor) (rising : Bool) : (s.sensorP x rising).kept = s.kept := by
  simp only [State.sensorP]; (repeat' split) <;> simp
@[simp] theorem State.deliver_kept (x : Sensor) (rising reportLast pFirst : Bool) :
    (s.deliver x rising reportLast pFirst).kept = s.kept := by
  simp only [State.deliver, State.sensorChannels]; (repeat' split) <;> simp
@[simp] theorem State.lineCaptured_kept (p : CaptureParams) (r : CaptureRecord) (i : StoreId) (words : List Word) :
    (s.lineCaptured p r i words).kept = s.kept := by
  simp only [State.lineCaptured]; split <;> simp

/-- Channel P goes on at the interval of its level. -/
@[simp] theorem State.moveOn_kept (n : Nat) : (s.withChanP (s.chanP.enterMoving n)).kept = s.kept := rfl

@[simp] theorem State.lineStrobed_kept (p : EmitParams) (r : EmitRecord) (i : StoreId) :
    (s.lineStrobed p r i).kept = s.kept := by
  simp only [State.lineStrobed]; split
  · simp
  · rw [State.moveOn_kept]; simp
@[simp] theorem State.lineFetched_kept (i : StoreId) : (s.lineFetched i).kept = s.kept := by
  simp only [State.lineFetched]; (repeat' split) <;> simp
@[simp] theorem State.pauseExpired_kept (c : Chan) : (s.pauseExpired c).kept = s.kept := by
  simp only [State.pauseExpired]; (repeat' split) <;> simp
@[simp] theorem State.admitOne_kept : s.admitOne.kept = s.kept := by
  simp only [State.admitOne]; (repeat' split) <;> simp
@[simp] theorem State.releaseProcessor_kept : s.releaseProcessor.kept = s.kept := by
  simp [State.releaseProcessor]

/-! ### What may be granted -/

/-- The grant in progress of `t`, which differs from `s` in nothing else of what is kept, is that of `s` or satisfies
`p`. -/
def GrantsOnly (p : Grant → Prop) (s t : State) : Prop :=
  t.kept = s.kept ∨ ∃ g, t.kept = s.kept.setGrant (some g) ∧ p g

theorem State.grantFetch_grants : GrantsOnly (fun g => ∃ i, g = .fetch i) s s.grantFetch := by
  unfold State.grantFetch
  split
  · next i _ _ => exact .inr ⟨.fetch i, by simp, i, rfl⟩
  · exact .inl rfl

theorem State.grantCpu_grants (x : CpuAccess) : GrantsOnly (fun g => ∃ obs, g = .processor obs) s (s.grantCpu x) := by
  have granted (p : Port) (g : Grant) : ((s.withPort p).grantTo g).kept = s.kept.setGrant (some g) := rfl
  unfold State.grantCpu
  dsimp only
  (repeat' split)
  · exact .inr ⟨_, granted _ _, _, rfl⟩
  · exact .inl (by simp)
  · exact .inl (by simp)
  · exact .inr ⟨_, granted _ _, _, rfl⟩
  · exact .inl (by simp)

theorem State.grantProcessor_grants :
    GrantsOnly (fun g => g = .wakeWord ∨ ∃ obs, g = .processor obs) s s.grantProcessor := by
  unfold State.grantProcessor
  split
  · exact .inr ⟨.wakeWord, by simp, .inl rfl⟩
  · rcases s.grantCpu_grants _ with h | ⟨g, h, hg⟩
    · exact .inl h
    · exact .inr ⟨g, h, .inr hg⟩
  · exact .inl rfl

theorem State.grantMover_grants : GrantsOnly (fun g => ∃ n obs, g = .mover n obs) s s.grantMover := by
  have granted (x : State) (hx : x.kept = s.kept) (g : Grant) : (x.grantTo g).kept = s.kept.setGrant (some g) :=
    congrArg (Kept.setGrant · (some g)) hx
  unfold State.grantMover
  split
  · exact .inl rfl
  · dsimp only
    (repeat' split)
    · exact .inl (by simp)
    · exact .inl (by simp)
    · exact .inr ⟨_, granted _ (by simp) _, _, _, rfl⟩
    · exact .inr ⟨_, granted _ (by simp) _, _, _, rfl⟩

/-- A posting is granted under its claim alone, and a burst of the Boot Unit only where it asks for one. -/
theorem State.grantNext_grants : GrantsOnly
    (fun g => (g = .report → s.reportClaim = true) ∧ ∀ job, g = .boot job → s.bootJob = some job) s s.grantNext := by
  unfold State.grantNext
  (repeat' split)
  · exact .inr ⟨.refresh, rfl, by simp⟩
  · exact .inl rfl
  · rcases s.grantFetch_grants with h | ⟨_, h, _, rfl⟩
    · exact .inl h
    · exact .inr ⟨_, h, by simp⟩
  · next h =>
    cases hr : s.port.captureReq with
    | none => simp [hr] at h
    | some i => exact .inr ⟨.writeBack i, by simp, by simp⟩
  · rcases s.grantProcessor_grants with h | ⟨_, h, rfl | ⟨_, rfl⟩⟩
    · exact .inl h
    · exact .inr ⟨_, h, by simp⟩
    · exact .inr ⟨_, h, by simp⟩
  · next h =>
    cases hr : s.port.intakeReq with
    | none => simp [hr] at h
    | some i => exact .inr ⟨.intake i, by simp, by simp⟩
  · next h => exact .inr ⟨.report, rfl, fun _ => h, by simp⟩
  · rcases s.grantMover_grants with h | ⟨_, h, _, _, rfl⟩
    · exact .inl h
    · exact .inr ⟨_, h, by simp⟩
  · next job h =>
    refine .inr ⟨.boot job, rfl, by simp, fun j hj => ?_⟩
    cases hj
    unfold State.bootClaim at h
    split at h
    · next hb =>
      split at h <;> cases h
      exact hb
    · cases h
  · exact .inl rfl

/-! ### What the effects move -/

/-- The commands that move a phase index, a mark of the report area, or the grant in progress but to its end. -/
def movesKept : Instr → Bool
  | .powerOn | .supplyFall | .resetLineAssert _ | .finalWriteEnd | .confirmTimerExpiry _ | .headerReadEnd _
  | .arbiterGrant | .processorGrantEnd | .reportPostEnd | .stepTimerExpiry _ => true
  | _ => false

theorem Effect.kept (e : Effect c s u) (hc : movesKept c = false) :
    u.kept = s.kept ∨ u.kept = s.kept.setGrant none := by
  cases e
  all_goals cases hc
  all_goals simp

/-! ### Who writes what (O6) -/

/-- The parts that few commands write differ between two states at most where command `c` writes them. -/
def WrittenBy (c : Instr) (o p : Outside) : Prop :=
  (p.windows = o.windows ∨ c = .setWindow ∨ c = .clearWindow ∨ ∃ m, c = .headerReadEnd m)
    ∧ (p.profiles = o.profiles ∨ c = .profileRecordReadEnd)
    ∧ (p.sensors = o.sensors ∨ (∃ x v, c = .sensorInputChange x v) ∨ ∃ x a b, c = .debouncedChange x a b)
    ∧ (p.installedMb = o.installedMb ∨ ∃ m, c = .headerReadEnd m)
    ∧ (p.mode = o.mode ∧ p.overlayLength = o.overlayLength ∧ p.overlayBase = o.overlayBase ∧ p.guard = o.guard
        ∨ c = .bootRelease)

/-- Nothing is written but DRAM and the Boot Unit. -/
theorem WrittenBy.of_besideBoot {o p : Outside} {b : Boot} (h : p.besideMemory = { o.besideMemory with boot := b }) :
    WrittenBy c o p :=
  have field {α : Type} (f : Outside → α) : f p.besideMemory = f { o.besideMemory with boot := b } := congrArg f h
  ⟨.inl (field Outside.windows), .inl (field Outside.profiles), .inl (field Outside.sensors),
    .inl (field Outside.installedMb),
    .inl ⟨field Outside.mode, field Outside.overlayLength, field Outside.overlayBase, field Outside.guard⟩⟩

theorem WrittenBy.refl (c : Instr) (o : Outside) : WrittenBy c o o := WrittenBy.of_besideBoot (b := o.boot) rfl

@[simp] theorem State.withBoot_besideMemory (b : Boot) :
    (s.withBoot b).outside.besideMemory = { s.outside.besideMemory with boot := b } := rfl

theorem WrittenBy.of_withBoot {o : Outside} {b : Boot} (h : t.outside.besideMemory = o.besideMemory) :
    WrittenBy c o (t.withBoot b).outside :=
  .of_besideBoot (b := b) (by rw [State.withBoot_besideMemory, h])

theorem State.releaseProcessor_writtenBy : WrittenBy .bootRelease s.outside s.releaseProcessor.outside := by
  obtain ⟨_, h⟩ := s.releaseProcessor_outside
  rw [h]
  exact ⟨.inl rfl, .inl rfl, .inl rfl, .inl (Passage.setOverlay_installedMb _ _), .inr rfl⟩

theorem State.judgeHeader_writtenBy (m : Misread) (ws : List Word) :
    WrittenBy (.headerReadEnd m) s.outside (s.judgeHeader ws).outside := by
  obtain ⟨_, _, _, _, h⟩ := s.judgeHeader_outside ws
  rw [h]
  exact ⟨.inr (.inr (.inr ⟨m, rfl⟩)), .inl rfl, .inl rfl, .inr ⟨m, rfl⟩, .inl ⟨rfl, rfl, rfl, rfl⟩⟩

theorem WrittenBy.windows {o p : Outside} {table : Vector Window 8} (h : p = { o with windows := table })
    (hc : c = .setWindow ∨ c = .clearWindow) : WrittenBy c o p := by
  subst h
  exact ⟨.inr (hc.imp_right .inl), .inl rfl, .inl rfl, .inl rfl, .inl ⟨rfl, rfl, rfl, rfl⟩⟩

theorem Effect.writtenBy (e : Effect c s u) (hr : mayReset c = false) : WrittenBy c s.outside u.outside := by
  have plain (hc : writesOutside c = false) : WrittenBy c s.outside u.outside :=
    .of_besideBoot (b := s.boot) (e.besideMemory hc)
  cases e
  case powerOn | supplyFall | resetLineUp | resetLineUnpowered | restarted | ownWrite | finalWrite | thirdLapse | lapse =>
    cases hr
  case headerRead => exact State.judgeHeader_writtenBy (s := s.freePort) _ _
  case bootRelease =>
    have h := State.releaseProcessor_writtenBy (s := s.endGrant (.boot .record))
    exact h
  case resetLineDown | holdDelayEnd | fillEnd | copyAttemptEnd | headerBurst | fillBurst | copyReadBurst
      | copyWriteBurst => exact .of_withBoot (by simp)
  case setWindow =>
    obtain ⟨_, h⟩ := State.settleOrder_windows fun t ht => by
      obtain ⟨e, _, _, _, _, -, -, -, -, rfl⟩ := State.setWindow_ok ht; exact ⟨e, _, rfl⟩
    exact .windows h (.inl rfl)
  case clearWindow =>
    obtain ⟨_, h⟩ := State.settleOrder_windows fun t ht => by
      obtain ⟨e, -, rfl⟩ := State.clearWindow_ok ht; exact ⟨e, _, rfl⟩
    exact .windows h (.inr rfl)
  case profileRecordReadEnd h addr ws total a n _ =>
    obtain ⟨_, h⟩ := s.freePort.profileRead_outside h addr (ws ++ s.dramWords a n) total
    rw [h]
    exact ⟨.inl rfl, .inr rfl, .inl rfl, .inl rfl, .inl ⟨rfl, rfl, rfl, rfl⟩⟩
  case sensorInputChange x v =>
    exact ⟨.inl rfl, .inl rfl, .inr (.inl ⟨x, v, rfl⟩), .inl rfl, .inl ⟨rfl, rfl, rfl, rfl⟩⟩
  case debouncedChange x a b =>
    rw [State.deliver_outside]
    exact ⟨.inl rfl, .inl rfl, .inr (.inr ⟨x, a, b, rfl⟩), .inl rfl, .inl ⟨rfl, rfl, rfl, rfl⟩⟩
  all_goals exact plain rfl

/-- Settles O6: each effect writes what its command may write, and what follows of itself none of it. -/
theorem partsHaveTheirWriters : Obligations.PartsHaveTheirWriters := by
  intro c s t h hr
  exact exec_induction (P := fun t => WrittenBy c s.outside t.outside) h (.refl c _) (fun _ e => e.writtenBy hr)
    fun u hu => by rwa [u.settle_outside]

/-! ### Phase indices (O8) -/

/-- The phase index of a channel. -/
def Kept.phase (k : Kept) : Chan → BitVec 3
  | .d => k.phaseD
  | .p => k.phaseP

@[simp] theorem Kept.setGrant_phase (k : Kept) (g : Option Grant) (a : Chan) : (k.setGrant g).phase a = k.phase a := by
  cases a <;> rfl
@[simp] theorem Kept.setArea_phase (k : Kept) (n p c : Nat) (l : List ReportClass) (a : Chan) :
    (k.setArea n p c l).phase a = k.phase a := by cases a <;> rfl

/-- A channel steps without moving the phase index of the other. -/
theorem Kept.phase_of_but {k l : Kept} {a b : Chan} (h : k.but b = l.but b) (hab : b ≠ a) : k.phase a = l.phase a := by
  cases a <;> cases b
  · exact absurd rfl hab
  · exact (congrArg Kept.phaseD h : (k.but .p).phaseD = (l.but .p).phaseD)
  · exact (congrArg Kept.phaseP h : (k.but .d).phaseP = (l.but .d).phaseP)
  · exact absurd rfl hab

theorem State.observeCpu_kept (x : CpuAccess) : (s.observeCpu x).kept = s.kept
    ∨ s.consumes x.acc = true ∧ (s.observeCpu x).kept = s.kept.setArea s.reports.count s.reports.post
        ((s.reports.consume + 1) % s.reports.count) (s.reports.unconsumed.drop 1) := by
  simp only [State.observeCpu]
  (repeat' split)
  · exact .inl (by simp)
  · next h => exact .inr ⟨h, rfl⟩
  all_goals exact .inl rfl

theorem State.posted_kept (s : State) : (s.withReports s.reports.posted).kept = s.kept
    ∨ ∃ x, (s.withReports s.reports.posted).kept = s.kept.setArea s.reports.count
        ((s.reports.post + 1) % s.reports.count) s.reports.consume (s.reports.unconsumed ++ [x]) := by
  unfold Reports.posted
  split
  · exact .inl rfl
  · next x _ _ => exact .inr ⟨x.cls, rfl⟩

@[simp] theorem Port.sized_grant (p : Port) : p.sized.grant = p.grant := by
  simp only [Port.sized]; split <;> rfl

theorem State.loadEntries_kept (h : Header) (l : List (Fin 8)) (s : State) :
    (l.foldl (State.loadEntry h) s).kept = s.kept := by
  induction l generalizing s with
  | nil => rfl
  | cons e l ih =>
    rw [List.foldl_cons, ih]
    simp only [State.loadEntry]; (repeat' split) <;> simp

/-- The taking of a header gives the report area its slot count. -/
theorem State.judgeHeader_kept (ws : List Word) : ∃ n, (s.judgeHeader ws).kept
    = s.kept.setArea n s.reports.post s.reports.consume s.reports.unconsumed := by
  simp only [State.judgeHeader, State.configure]
  (repeat' split)
  · exact ⟨takenCount (headerOf ws).reportSlots 128, by
      simp [State.applyHeader, State.loadEntries_kept, Reports.recompute]⟩
  all_goals exact ⟨s.reports.count, by simp [State.applyDefaults, Reports.recompute]⟩

/-- A command that is neither the step timer of a channel nor may reset the part leaves the channel's phase index. -/
theorem Effect.phase (e : Effect c s u) (hr : mayReset c = false) (a : Chan) (ha : c ≠ .stepTimerExpiry a) :
    u.kept.phase a = s.kept.phase a := by
  have plain (hc : movesKept c = false) : u.kept.phase a = s.kept.phase a := by
    rcases e.kept hc with h | h <;> simp [h]
  cases e
  case powerOn | supplyFall | resetLineUp | resetLineUnpowered | restarted | ownWrite | finalWrite | thirdLapse | lapse =>
    cases hr
  case headerRead =>
    obtain ⟨_, h⟩ := s.freePort.judgeHeader_kept _
    rw [h]; simp
  case arbiterGrant =>
    rcases s.grantNext_grants with h | ⟨g, h, -⟩ <;> simp [h]
  case processorGrantEnd x _ _ =>
    rw [State.applyObs_kept]
    rcases State.observeCpu_kept (s := _) x with h | ⟨-, h⟩ <;> rw [h] <;> simp
  case reportPostEnd =>
    rw [State.admitOne_kept]
    rcases State.posted_kept (s.endGrant .report) with h | ⟨_, h⟩
    · exact (congrArg (Kept.phase · a) h).trans (by simp)
    · exact (congrArg (Kept.phase · a) h).trans (by simp)
  case stepTimerExpiry b =>
    exact Kept.phase_of_but (State.stepExpired_keptBut s b) fun hab => ha (congrArg Instr.stepTimerExpiry hab)
  all_goals exact plain rfl

/-- Settles O8: no effect but a step of the channel moves its phase index, nor does what follows of itself. -/
theorem phaseMovesByStepsAlone : Obligations.PhaseMovesByStepsAlone := by
  intro c s t h hr
  have phase (a : Chan) (ha : c ≠ .stepTimerExpiry a) : t.kept.phase a = s.kept.phase a :=
    exec_induction (P := fun t => t.kept.phase a = s.kept.phase a) h rfl (fun _ e => e.phase hr a ha)
      fun u hu => by rwa [u.settle_kept]
  exact ⟨phase .d, phase .p⟩

/-! ### The report area (O9) -/

/-- The report area is a legal ring, as far as these parts say. -/
structure Kept.Ring (k : Kept) : Prop where
  fits : k.unconsumed.length ≤ k.count
  ring : k.count ≠ 0 → k.post = (k.consume + k.unconsumed.length) % k.count ∧ k.consume < k.count
  room : k.grant = some .report → k.unconsumed.length < k.count

theorem areaLegal_iff : AreaLegal s ↔ s.kept.Ring :=
  ⟨fun h => ⟨h.fits, h.ring, h.room⟩, fun h => ⟨h.fits, h.ring, h.room⟩⟩

theorem Kept.Ring.grants {k : Kept} (h : k.Ring) {g : Option Grant} (room : g = some .report → k.unconsumed.length < k.count) :
    (k.setGrant g).Ring := ⟨h.fits, h.ring, room⟩

theorem Kept.Ring.ends {k : Kept} (h : k.Ring) : (k.setGrant none).Ring := h.grants nofun

/-- The phase indices say nothing of the ring. -/
theorem Kept.Ring.of_but {k l : Kept} {a : Chan} (h : k.Ring) (e : l.but a = k.but a) : l.Ring := by
  have field {α : Type} (f : Kept → α) : f (l.but a) = f (k.but a) := congrArg f e
  have parts (k : Kept) : (k.but a).count = k.count ∧ (k.but a).post = k.post ∧ (k.but a).consume = k.consume
      ∧ (k.but a).unconsumed = k.unconsumed ∧ (k.but a).grant = k.grant := by cases a <;> exact ⟨rfl, rfl, rfl, rfl, rfl⟩
  obtain ⟨count, post, consume, unconsumed, grant⟩ := parts l
  obtain ⟨count', post', consume', unconsumed', grant'⟩ := parts k
  have ec := count.symm.trans ((field Kept.count).trans count')
  have ep := post.symm.trans ((field Kept.post).trans post')
  have er := consume.symm.trans ((field Kept.consume).trans consume')
  have eu := unconsumed.symm.trans ((field Kept.unconsumed).trans unconsumed')
  have eg := grant.symm.trans ((field Kept.grant).trans grant')
  exact ⟨by rw [ec, eu]; exact h.fits, by rw [ec, ep, er, eu]; exact h.ring, by rw [eg, ec, eu]; exact h.room⟩

/-- A reset empties the area. -/
theorem ring_of_empty (h : s.reports = Reports.reset) (hg : s.port.grant = none) : s.kept.Ring where
  fits := by simp [State.kept, h, Reports.reset]
  ring := by simp [State.kept, h, Reports.reset]
  room := by simp [State.kept, hg]

/-- A posting into a free slot moves P_r on and makes one report more unconsumed (R42). -/
theorem Kept.Ring.posts {k : Kept} (h : k.Ring) (room : k.unconsumed.length < k.count) (x : ReportClass) :
    ((k.setArea k.count ((k.post + 1) % k.count) k.consume (k.unconsumed ++ [x])).setGrant none).Ring where
  fits := by simp only [Kept.setArea, Kept.setGrant, List.length_append, List.length_singleton]; omega
  ring := fun hc => by
    obtain ⟨post, consume⟩ := h.ring hc
    refine ⟨?_, consume⟩
    simp only [Kept.setArea, Kept.setGrant, List.length_append, List.length_singleton]
    rw [post, Nat.mod_add_mod, Nat.add_assoc]
  room := nofun

/-- A consumption moves C_r on and leaves one report less unconsumed (R43). -/
theorem Kept.Ring.consumes {k : Kept} (h : k.Ring) (some : k.unconsumed ≠ []) :
    ((k.setArea k.count k.post ((k.consume + 1) % k.count) (k.unconsumed.drop 1)).setGrant none).Ring where
  fits := by
    have := h.fits
    simp only [Kept.setArea, Kept.setGrant, List.length_drop]; omega
  ring := fun hc => by
    obtain ⟨post, -⟩ := h.ring hc
    have pos : 0 < k.unconsumed.length := List.length_pos_of_ne_nil some
    have count : 0 < k.count := Nat.pos_of_ne_zero hc
    refine ⟨?_, Nat.mod_lt _ count⟩
    simp only [Kept.setArea, Kept.setGrant, List.length_drop]
    rw [post]
    exact ring_drain pos
  room := nofun

theorem Effect.ring (e : Effect c s u) (hh : ∀ m, c ≠ .headerReadEnd m) (h : s.kept.Ring) : u.kept.Ring := by
  have plain (hc : movesKept c = false) : u.kept.Ring := by
    rcases e.kept hc with k | k <;> rw [k]
    · exact h
    · exact h.ends
  cases e
  case powerOn | supplyFall | resetLineUp | restarted | thirdLapse => exact ring_of_empty rfl rfl
  case resetLineUnpowered => exact h
  case ownWrite => rw [State.endInHand_kept, State.endGrant_kept]; exact h.ends
  case finalWrite => rw [State.endFinalWrite_kept, State.endGrant_kept]; exact h.ends
  case lapse => exact h
  case headerRead m _ _ => exact absurd rfl (hh m)
  case arbiterGrant =>
    rcases s.grantNext_grants with k | ⟨g, k, room, -⟩ <;> rw [k]
    · exact h
    · refine h.grants fun hg => ?_
      have claim := room (Option.some.inj hg)
      simp only [State.reportClaim, Bool.and_eq_true, decide_eq_true_eq] at claim
      exact claim.1.2
  case processorGrantEnd obs x _ _ =>
    rw [State.applyObs_kept]
    rcases State.observeCpu_kept x with k | ⟨takes, k⟩ <;> rw [k]
    · simp only [State.completeCpu_kept, State.endGrant_kept]
      exact h.ends
    · have unconsumed : s.reports.unconsumed ≠ [] := by
        simp only [State.consumes, Bool.and_eq_true, Bool.not_eq_true', List.isEmpty_eq_false_iff] at takes
        exact takes.1.2
      exact h.consumes unconsumed
  case reportPostEnd hg =>
    rw [State.admitOne_kept]
    rcases State.posted_kept (s.endGrant .report) with k | ⟨x, k⟩
    · exact k ▸ h.ends
    · have posts := h.posts (h.room hg) x
      exact k ▸ posts
  case stepTimerExpiry a => exact h.of_but (State.stepExpired_keptBut s a)
  all_goals exact plain rfl

/-- Settles O9: a posting goes into a free slot, a consumption takes an unconsumed one, and nothing else moves the ring. -/
theorem reportAreaStaysRing : Obligations.ReportAreaStaysRing := by
  intro c s t hs hh h
  rw [areaLegal_iff] at hs ⊢
  exact exec_induction (P := fun t => t.kept.Ring) h hs (fun _ e => e.ring hh hs) fun u hu => by rwa [u.settle_kept]

end Sys2Proof.Machine
end

section
/-! After boot every command leaves the Window Table within the limits of R7. -/

namespace Sys2Proof.Machine

open Sys2Proof

variable {s t u : State} {c : Instr}

/-! ### The limits of R7 -/

theorem rangeDisjoint_iff {ws : Vector Window 8} {e : Fin 8} {base length : Nat} :
    rangeDisjoint ws e base length = true ↔ ∀ j : Fin 8, j ≠ e → ws[j].kind ≠ .off →
      base + length ≤ ws[j].base ∨ ws[j].base + ws[j].length ≤ base := by
  simp only [rangeDisjoint, List.all_eq_true, List.mem_finRange, forall_const, Bool.or_eq_true, decide_eq_true_eq,
    or_assoc, ne_eq]
  exact forall_congr' fun j => by tauto

theorem State.rangeOk_iff {e : Fin 8} {base length : Nat} : s.rangeOk e base length = true ↔
    (base % 256 = 0 ∧ length % 256 = 0) ∧ (256 ≤ length ∧ length ≤ 0x800000) ∧ base + length ≤ s.installed
      ∧ (∀ j : Fin 8, j ≠ e → s.windows[j].kind ≠ .off →
          base + length ≤ s.windows[j].base ∨ s.windows[j].base + s.windows[j].length ≤ base)
      ∧ s.imageRange ≤ base := by
  simp only [State.rangeOk, Bool.and_eq_true, decide_eq_true_eq, rangeDisjoint_iff, and_assoc]

/-- What the limits measure a range against: the installed size and the overlay state. -/
def Outside.ranges (o : Outside) : Nat × OverlayMode × Nat × Nat :=
  (o.installedMb, o.mode, o.overlayLength, o.imageLength)

theorem State.installed_congr (h : t.outside.ranges = s.outside.ranges) : t.installed = s.installed := by
  have mb : t.passage.installedMb = s.passage.installedMb := (Prod.mk.inj h).1
  rw [State.installed, mb, State.installed]

theorem State.imageRange_congr (h : t.outside.ranges = s.outside.ranges) : t.imageRange = s.imageRange := by
  simp only [Outside.ranges, State.outside, Prod.mk.injEq] at h
  obtain ⟨-, mode, overlay, image⟩ := h
  simp only [State.imageRange, mode, overlay, image]

/-- A legal table depends on the table and what its limits measure against alone. -/
theorem WindowsLegal.congr (h : WindowsLegal s) (windows : t.windows = s.windows)
    (ranges : t.outside.ranges = s.outside.ranges) : WindowsLegal t where
  zero := windows ▸ h.zero
  one := windows ▸ h.one
  others := windows ▸ h.others
  multiples := windows ▸ h.multiples
  length := windows ▸ h.length
  inside := by rw [windows, State.installed_congr ranges]; exact h.inside
  image := by rw [windows, State.imageRange_congr ranges]; exact h.image
  apart := windows ▸ h.apart

theorem WindowsLegal.of_outside (h : WindowsLegal s) (e : t.outside.besideMemory = s.outside.besideMemory) :
    WindowsLegal t := by
  have windows : t.outside.besideMemory.windows = s.outside.besideMemory.windows := by rw [e]
  have ranges : t.outside.besideMemory.ranges = s.outside.besideMemory.ranges := by rw [e]
  exact h.congr windows ranges

/-- A table with every entry OFF is legal. -/
theorem windowsLegal_of_off (h : s.windows = Vector.replicate 8 Window.none) : WindowsLegal s := by
  have off (e : Fin 8) : s.windows[e].kind = .off := by rw [h]; simp [Window.none]
  exact
    { zero := .inl (off 0)
      one := .inl (off 1)
      others := fun e _ => by rw [off e]; exact ⟨nofun, nofun⟩
      multiples := fun e he => absurd (off e) he
      length := fun e he => absurd (off e) he
      inside := fun e he => absurd (off e) he
      image := fun e he => absurd (off e) he
      apart := fun e _ _ he => absurd (off e) he }

theorem windows_set_get (ws : Vector Window 8) (e j : Fin 8) (w : Window) :
    (ws.set e w)[j] = if j = e then w else ws[j] := by
  simp only [Fin.getElem_fin, Vector.getElem_set, Fin.ext_iff, eq_comm]

/-- An entry from 2 on takes a value that keeps the limits. -/
theorem WindowsLegal.set (h : WindowsLegal s) {e : Fin 8} (he : 2 ≤ e.val) {w : Window} (orders : w.kind ≠ .orders)
    (reports : w.kind ≠ .reports) (range : w.kind ≠ .off → s.rangeOk e w.base w.length = true)
    (windows : t.windows = s.windows.set e w) (ranges : t.outside.ranges = s.outside.ranges) : WindowsLegal t := by
  have get (j : Fin 8) : t.windows[j] = if j = e then w else s.windows[j] := by rw [windows, windows_set_get]
  have limits (hw : w.kind ≠ .off) := State.rangeOk_iff.mp (range hw)
  have first (j : Fin 8) (hj : j.val < 2) : t.windows[j] = s.windows[j] := by
    rw [get j, if_neg]
    rintro rfl; omega
  refine { zero := ?_, one := ?_, others := fun j hj => ?_, multiples := fun j => ?_, length := fun j => ?_,
           inside := fun j => ?_, image := fun j => ?_, apart := fun i j hij => ?_ }
  · exact first 0 (by decide) ▸ h.zero
  · exact first 1 (by decide) ▸ h.one
  · rw [get j]; split
    · exact ⟨orders, reports⟩
    · exact h.others j hj
  · rw [get j]; split
    · exact fun hw => (limits hw).1
    · exact h.multiples j
  · rw [get j]; split
    · exact fun hw => (limits hw).2.1
    · exact h.length j
  · rw [get j, State.installed_congr ranges]; split
    · exact fun hw => (limits hw).2.2.1
    · exact h.inside j
  · rw [get j, State.imageRange_congr ranges]; split
    · exact fun hw => (limits hw).2.2.2.2
    · exact h.image j
  · rw [get i, get j]
    split <;> split
    · next hi hj => exact absurd (hi.trans hj.symm) hij
    · next _ hj => exact fun hw hk => (limits hw).2.2.2.1 j hj hk
    · next hi _ => exact fun hk hw => ((limits hw).2.2.2.1 i hi hk).symm
    · exact h.apart i j hij

theorem windowOf_kind (k : WindowKind) (base length : Nat) (b : Fin 4) : (windowOf k base length b).kind = k := by
  cases k <;> rfl

theorem windowOf_range {k : WindowKind} (hk : k ≠ .off) (base length : Nat) (b : Fin 4) :
    (windowOf k base length b).base = base ∧ (windowOf k base length b).length = length := by
  cases k <;> first | exact absurd rfl hk | exact ⟨rfl, rfl⟩

/-! ### Orders that change the table (R11, R12) -/

theorem State.settleOrder_ok_or (h : InHand) (x : Except Result State) :
    (∃ t, x = .ok t ∧ s.settleOrder h x = t.completeOrder h) ∨ ∃ r, s.settleOrder h x = s.refuseOrder h r := by
  cases x with
  | ok t => exact .inl ⟨t, rfl, rfl⟩
  | error r => exact .inr ⟨r, rfl⟩

/-- An order that may replace an entry from 2 on, with limits kept, leaves the table legal. -/
theorem WindowsLegal.settles (hs : WindowsLegal s) {h : InHand} {x : Except Result State}
    (hx : ∀ t, x = .ok t → ∃ (e : Fin 8) (w : Window), 2 ≤ e.val ∧ w.kind ≠ .orders ∧ w.kind ≠ .reports
      ∧ (w.kind ≠ .off → s.rangeOk e w.base w.length = true) ∧ t = s.replaceEntry e w) :
    WindowsLegal (s.settleOrder h x) := by
  rcases s.settleOrder_ok_or h x with ⟨t, ok, ht⟩ | ⟨r, hr⟩
  · obtain ⟨e, w, two, orders, reports, range, rfl⟩ := hx t ok
    have outside : (s.settleOrder h x).outside = { s.outside with windows := s.windows.set e w } := by
      rw [ht, State.completeOrder_outside, State.replaceEntry_outside]
    exact hs.set two orders reports range (congrArg Outside.windows outside) (by rw [outside]; rfl)
  · exact hs.of_outside (by rw [hr, State.refuseOrder_outside])

theorem WindowsLegal.setWindow (hs : WindowsLegal s) (h : InHand) :
    WindowsLegal (s.settleOrder h (s.setWindow h.body)) :=
  hs.settles fun t ht => by
    obtain ⟨e, k, base, length, b, two, orders, reports, range, rfl⟩ := State.setWindow_ok ht
    refine ⟨e, windowOf k base length b, two, ?_, ?_, ?_, rfl⟩
    · rwa [windowOf_kind]
    · rwa [windowOf_kind]
    · rw [windowOf_kind]
      intro hk
      obtain ⟨hb, hl⟩ := windowOf_range hk base length b
      rw [hb, hl]
      exact range hk

theorem WindowsLegal.clearWindow (hs : WindowsLegal s) (h : InHand) :
    WindowsLegal (s.settleOrder h (s.clearWindow h.body)) :=
  hs.settles fun t ht => by
    obtain ⟨e, two, rfl⟩ := State.clearWindow_ok ht
    exact ⟨e, Window.none, two, nofun, nofun, fun hw => absurd rfl hw, rfl⟩

/-! ### The table after boot -/

/-- No grant of the Boot Unit is in progress. -/
def Kept.noBoot (k : Kept) : Prop := ∀ job, k.grant ≠ some (.boot job)

theorem State.noBoot_iff : s.kept.noBoot ↔ s.bootGrant = none := by
  have grant : s.kept.grant = s.port.grant := rfl
  unfold Kept.noBoot State.bootGrant
  rw [grant]
  split
  · next job hg => simp [hg]
  · next hno => exact ⟨fun _ => rfl, fun _ job hg => hno job hg⟩

theorem Kept.noBoot_of_but {k l : Kept} {a : Chan} (h : k.noBoot) (e : l.but a = k.but a) : l.noBoot := by
  have grants (k : Kept) : (k.but a).grant = k.grant := by cases a <;> rfl
  have grant : l.grant = k.grant := (grants l).symm.trans ((congrArg Kept.grant e).trans (grants k))
  rwa [Kept.noBoot, grant]

/-- The Boot Unit, being done, asks for no burst and is granted none. -/
theorem Effect.noBoot (e : Effect c s u) (done : s.boot.state = .done) (h : s.kept.noBoot) : u.kept.noBoot := by
  have ends {k : Kept} : (k.setGrant none).noBoot := nofun
  have plain (hc : movesKept c = false) : u.kept.noBoot := by
    rcases e.kept hc with k | k <;> rw [k]
    · exact h
    · exact ends
  cases e
  case powerOn | supplyFall | resetLineUp | restarted | thirdLapse => exact nofun
  case resetLineUnpowered => exact h
  case ownWrite => rw [State.endInHand_kept, State.endGrant_kept]; exact ends
  case finalWrite => rw [State.endFinalWrite_kept, State.endGrant_kept]; exact ends
  case lapse => exact h
  case headerRead hg => exact absurd (State.grant_of_bootGrant hg) (h _)
  case arbiterGrant =>
    rcases s.grantNext_grants with k | ⟨g, k, -, asks⟩ <;> rw [k]
    · exact h
    · intro job hg
      have asked := asks job (Option.some.inj hg)
      simp [State.bootJob, done] at asked
  case processorGrantEnd x _ _ =>
    rw [State.applyObs_kept]
    rcases State.observeCpu_kept x with k | ⟨-, k⟩ <;> rw [k] <;> exact nofun
  case reportPostEnd =>
    rw [State.admitOne_kept]
    rcases State.posted_kept (s.endGrant .report) with k | ⟨_, k⟩
    · intro job hg
      exact nomatch (congrArg Kept.grant k).symm.trans hg
    · intro job hg
      exact nomatch (congrArg Kept.grant k).symm.trans hg
  case stepTimerExpiry a => exact Kept.noBoot_of_but h (State.stepExpired_keptBut s a)
  all_goals exact plain rfl

/-- What the Window Table keeps after boot. -/
def TableSettled (t : State) : Prop := WindowsLegal t ∧ (t.boot.state = .done → t.bootGrant = none)

theorem Effect.tableSettled (e : Effect c s u) (hs : WindowsLegal s) (done : s.boot.state = .done)
    (hg : s.bootGrant = none) : TableSettled u := by
  have noBoot : u.bootGrant = none := State.noBoot_iff.mp (e.noBoot done (State.noBoot_iff.mpr hg))
  have plain (hc : writesOutside c = false) : WindowsLegal u := hs.of_outside (e.besideMemory hc)
  refine ⟨?_, fun _ => noBoot⟩
  cases e
  case headerRead h | fillEnd h | bootRelease h | headerBurst h | fillBurst h | copyReadBurst h | copyWriteBurst h =>
    rw [hg] at h; cases h
  case copyAttemptEnd h _ => rw [hg] at h; cases h
  case holdDelayEnd h => rw [done] at h; cases h
  case powerOn | supplyFall | resetLineUp | restarted | thirdLapse => exact windowsLegal_of_off rfl
  case resetLineUnpowered | resetLineDown | lapse | sensorInputChange => exact hs.congr rfl rfl
  case ownWrite => exact hs.of_outside (by simp)
  case finalWrite => exact hs.of_outside (by simp)
  case setWindow => exact hs.setWindow _
  case clearWindow => exact hs.clearWindow _
  case profileRecordReadEnd h addr ws total a n _ =>
    obtain ⟨_, ho⟩ := s.freePort.profileRead_outside h addr (ws ++ s.dramWords a n) total
    exact hs.congr (congrArg Outside.windows ho) (by rw [ho]; rfl)
  case debouncedChange x a b =>
    have legal : WindowsLegal (s.withSensors (s.sensors.set (sensorNumber x)
        s.sensors[sensorNumber x].debounced)) := hs.congr rfl rfl
    exact legal.of_outside (by rw [State.deliver_outside])
  all_goals exact plain rfl

/-- Settles O7: an order that changes the table keeps its limits, a reset sets every entry OFF, and after boot nothing
else reaches it. -/
theorem windowTableStaysLegal : Obligations.WindowTableStaysLegal := by
  intro c s t hs done hg h
  refine exec_induction (P := TableSettled) h ⟨hs, fun _ => hg⟩ (fun _ e => e.tableSettled hs done hg) fun u hu => ?_
  obtain ⟨legal, grant⟩ := hu
  refine ⟨legal.of_outside (by rw [u.settle_outside]), fun hd => ?_⟩
  have boot : u.settle.boot = u.boot := congrArg Outside.boot u.settle_outside
  rw [← State.noBoot_iff, u.settle_kept, State.noBoot_iff]
  exact grant (boot ▸ hd)

end Sys2Proof.Machine
end

section
/-! The band ring by places (R52): where a line stands from D on decides its state, and each event of Table 3-1 moves one
boundary between the FULL, DRAINING, FILLING and EMPTY stretches by one place. -/

namespace Sys2Proof.Machine

open Sys2Proof

/-! ### Places on the ring -/

/-- How far line `i` stands after line D on the ring. -/
def Band.place (b : Band) (i : Nat) : Nat := (i + b.lines - b.d) % b.lines

/-- The state of the line `o` places after D: DRAINING, FULL, FILLING and EMPTY follow one another (R52). -/
def ringState (c draining filling o : Nat) : LineState :=
  if o < c then if o < draining then .draining else .full else if o < c + filling then .filling else .empty

/-- The distance from mark `m` to line `i` on a ring of `n` lines. -/
theorem distance_eq {n i m : Nat} (hi : i < n) (hm : m < n) :
    (i + n - m) % n = if m ≤ i then i - m else i + n - m := by
  split
  · next h => rw [show i + n - m = i - m + n by omega, Nat.add_mod_right, Nat.mod_eq_of_lt (by omega)]
  · next h => exact Nat.mod_eq_of_lt (by omega)

/-- Moving on by fewer places than the ring has. -/
theorem advance_eq {n m k : Nat} (hm : m < n) (hk : k ≤ n) : (m + k) % n = if m + k < n then m + k else m + k - n := by
  split
  · next h => exact Nat.mod_eq_of_lt h
  · next h => rw [Nat.mod_eq_sub_mod (by omega), Nat.mod_eq_of_lt (by omega)]

section
variable {b : Band} {i k : Nat}

theorem Band.Legal.d_lt (h : b.Legal) (hi : i < b.lines) : b.d < b.lines := by
  obtain hd | ⟨hl, -⟩ := h.consumer
  · exact hd
  · omega

theorem Band.Legal.c_le (h : b.Legal) : b.c ≤ b.lines := le_trans (Nat.le_add_right _ _) h.room

/-- The line `k` places after D is the one whose place is `k`. -/
theorem Band.Legal.eq_iff_place (h : b.Legal) (hi : i < b.lines) (hk : k < b.lines) :
    i = (b.d + k) % b.lines ↔ b.place i = k := by
  have hd := h.d_lt hi
  rw [Band.place, distance_eq hi hd, advance_eq hd hk.le]
  split <;> split <;> omega

/-- The line `k` places after F stands `c + k` places after D. -/
theorem Band.Legal.eq_iff_place_f (h : b.Legal) (hi : i < b.lines) (hk : b.c + k < b.lines) :
    i = (b.f + k) % b.lines ↔ b.place i = b.c + k := by
  rw [h.ring, Nat.mod_add_mod, Nat.add_assoc, h.eq_iff_place hi hk]

theorem Band.Legal.eq_f_iff (h : b.Legal) (hi : i < b.lines) (hc : b.c < b.lines) : i = b.f ↔ b.place i = b.c := by
  rw [h.ring, h.eq_iff_place hi hc]

theorem Band.Legal.eq_d_iff (h : b.Legal) (hi : i < b.lines) : i = b.d ↔ b.place i = 0 := by
  have hd : b.d = (b.d + 0) % b.lines := (Nat.mod_eq_of_lt (h.d_lt hi)).symm
  rw [← h.eq_iff_place hi (by omega), ← hd]

theorem Band.Legal.place_lt (hi : i < b.lines) : b.place i < b.lines := Nat.mod_lt _ (by omega)

/-- The state of a line of a legal band by its place. -/
theorem Band.Legal.lineState_eq (h : b.Legal) (hi : i < b.lines) :
    b.lineState i = ringState b.c b.draining b.filling (b.place i) := by
  have hd := h.d_lt hi
  have hc := h.c_le
  have hf : b.f < b.lines := h.ring ▸ Nat.mod_lt _ (by omega)
  have from_f : ¬ b.place i < b.c → (i + b.lines - b.f) % b.lines = b.place i - b.c := by
    intro hp
    rw [Band.place, distance_eq hi hd] at hp ⊢
    rw [distance_eq hi hf, h.ring, advance_eq hd hc]
    split <;> split <;> split at hp <;> split <;> omega
  unfold Band.lineState ringState
  change (if b.place i < b.c then if b.place i < b.draining then _ else _ else _) = _
  split
  · rfl
  · next hp =>
    rw [from_f hp]
    exact if_congr (by omega) rfl rfl

/-- Moving D on by one brings every line one place nearer; the line that was at D comes last. -/
theorem Band.Legal.place_next (h : b.Legal) (hi : i < b.lines) {x : Band} (hl : x.lines = b.lines)
    (hd : x.d = (b.d + 1) % b.lines) : x.place i = if b.place i = 0 then b.lines - 1 else b.place i - 1 := by
  have lt := h.d_lt hi
  have lt' : (b.d + 1) % b.lines < b.lines := Nat.mod_lt _ (by omega)
  rw [Band.place, hl, hd, distance_eq hi lt', Band.place, distance_eq hi lt, advance_eq lt (by omega)]
  split <;> split <;> split <;> split <;> omega

end

/-! ### The records after the events (R54 to R61) -/

section
variable {b : Band}

theorem Band.claim_of (h1 : b.c + b.filling < b.lines) (h2 : b.filling < 2) :
    b.claim = { b with filling := b.filling + 1 } := by
  simp [Band.claim, Band.canClaim, h1, h2]

theorem Band.writeBackEnd_of (h : 0 < b.filling) :
    b.writeBackEnd = { b with c := b.c + 1, f := (b.f + 1) % b.lines, filling := b.filling - 1 } := if_pos h

theorem Band.fill_of (h : b.c + b.filling < b.lines) :
    b.fill = { b with c := b.c + 1, f := (b.f + 1) % b.lines } := if_pos h

theorem Band.drain_of (h : b.draining < b.c) : b.drain = { b with c := b.c - 1, d := (b.d + 1) % b.lines } := if_pos h

theorem Band.fetch_of (h1 : b.draining < b.c) (h2 : b.draining < 2) :
    b.fetch = { b with draining := b.draining + 1 } := by
  simp [Band.fetch, Band.canFetch, h1, h2]

theorem Band.strobeEnd_of (h : 0 < b.draining) (hc : 0 < b.c) :
    b.strobeEnd = { b with c := b.c - 1, d := (b.d + 1) % b.lines, draining := b.draining - 1 } := if_pos ⟨h, hc⟩

end

/-! ### The line that each event moves (Table 3-1) -/

section
variable {b : Band} {i : Nat}

theorem Band.Legal.lineState_claim (h : b.Legal) (hi : i < b.lines) (room : b.c + b.filling < b.lines)
    (two : b.filling < 2) :
    b.claim.lineState i = if i = (b.f + b.filling) % b.lines then .filling else b.lineState i := by
  have legal := b.claim_legal h
  rw [Band.claim_of room two] at legal ⊢
  rw [legal.lineState_eq (i := i) hi, h.lineState_eq hi, if_congr (h.eq_iff_place_f hi room) rfl rfl]
  change ringState b.c b.draining (b.filling + 1) (b.place i) = _
  unfold ringState
  grind

theorem Band.Legal.lineState_writeBackEnd (h : b.Legal) (hi : i < b.lines) (some : 0 < b.filling) :
    b.writeBackEnd.lineState i = if i = b.f then .full else b.lineState i := by
  have legal := b.writeBackEnd_legal h
  have hc : b.c < b.lines := by have := h.room; omega
  have hd := h.draining
  rw [Band.writeBackEnd_of some] at legal ⊢
  rw [legal.lineState_eq (i := i) hi, h.lineState_eq hi, if_congr (h.eq_f_iff hi hc) rfl rfl]
  change ringState (b.c + 1) b.draining (b.filling - 1) (b.place i) = _
  unfold ringState
  grind

theorem Band.Legal.lineState_withdraw (h : b.Legal) (hi : i < b.lines) (some : 0 < b.filling) :
    b.withdraw.lineState i = if i = (b.f + b.filling - 1) % b.lines then .empty else b.lineState i := by
  have legal := b.withdraw_legal h
  have room := h.room
  rw [legal.lineState_eq (i := i) hi, h.lineState_eq hi, Nat.add_sub_assoc some,
    if_congr (h.eq_iff_place_f hi (by omega)) rfl rfl]
  change ringState b.c b.draining (b.filling - 1) (b.place i) = _
  unfold ringState
  grind

theorem Band.Legal.lineState_fill (h : b.Legal) (hi : i < b.lines) (hc : b.c < b.lines) (none : b.filling = 0) :
    b.fill.lineState i = if i = b.f then .full else b.lineState i := by
  have legal := b.fill_legal h
  have hd := h.draining
  rw [Band.fill_of (by omega)] at legal ⊢
  rw [legal.lineState_eq (i := i) hi, h.lineState_eq hi, if_congr (h.eq_f_iff hi hc) rfl rfl]
  change ringState (b.c + 1) b.draining b.filling (b.place i) = _
  unfold ringState
  grind

theorem Band.Legal.lineState_drain (h : b.Legal) (hi : i < b.lines) (hc : 0 < b.c) (none : b.draining = 0) :
    b.drain.lineState i = if i = b.d then .empty else b.lineState i := by
  have legal := b.drain_legal h
  have room := h.room
  have hp := Band.Legal.place_lt hi
  rw [Band.drain_of (by omega)] at legal ⊢
  rw [legal.lineState_eq (i := i) hi, h.lineState_eq hi, if_congr (h.eq_d_iff hi) rfl rfl,
    h.place_next hi (x := { b with c := b.c - 1, d := (b.d + 1) % b.lines }) rfl rfl]
  change ringState (b.c - 1) b.draining b.filling _ = _
  unfold ringState
  grind

theorem Band.Legal.lineState_fetch (h : b.Legal) (hi : i < b.lines) (ready : b.draining < b.c) (two : b.draining < 2) :
    b.fetch.lineState i = if i = (b.d + b.draining) % b.lines then .draining else b.lineState i := by
  have legal := b.fetch_legal h
  have hc := h.c_le
  rw [Band.fetch_of ready two] at legal ⊢
  rw [legal.lineState_eq (i := i) hi, h.lineState_eq hi, if_congr (h.eq_iff_place hi (by omega)) rfl rfl]
  change ringState b.c (b.draining + 1) b.filling (b.place i) = _
  unfold ringState
  grind

theorem Band.Legal.lineState_strobeEnd (h : b.Legal) (hi : i < b.lines) (some : 0 < b.draining) :
    b.strobeEnd.lineState i = if i = b.d then .empty else b.lineState i := by
  have legal := b.strobeEnd_legal h
  have room := h.room
  have hd := h.draining
  have hp := Band.Legal.place_lt hi
  rw [Band.strobeEnd_of some (by omega)] at legal ⊢
  rw [legal.lineState_eq (i := i) hi, h.lineState_eq hi, if_congr (h.eq_d_iff hi) rfl rfl,
    h.place_next hi (x := { b with c := b.c - 1, d := (b.d + 1) % b.lines, draining := b.draining - 1 }) rfl rfl]
  change ringState (b.c - 1) (b.draining - 1) b.filling _ = _
  unfold ringState
  grind

theorem Band.Legal.lineState_revert (h : b.Legal) (hi : i < b.lines) :
    b.revert.lineState i = if b.lineState i = .draining then .full else b.lineState i := by
  have legal := b.revert_legal h
  rw [legal.lineState_eq (i := i) hi, h.lineState_eq hi]
  change ringState b.c 0 b.filling (b.place i) = _
  unfold ringState
  grind

end

/-- Settles O11: the line that each event moves, and the record it leaves. -/
theorem bandEventsMoveLinesAndMarks : Obligations.BandEventsMoveLinesAndMarks := by
  refine ⟨fun b i h hi => ⟨h.lineState_claim hi, h.lineState_writeBackEnd hi, h.lineState_withdraw hi,
    h.lineState_fill hi, h.lineState_drain hi, h.lineState_fetch hi, h.lineState_strobeEnd hi, h.lineState_revert hi⟩,
    fun b h => ⟨Band.claim_of, Band.writeBackEnd_of, fun _ => rfl, ?fill, ?drain, Band.fetch_of, ?strobe, rfl⟩⟩
  case fill => exact fun hc none => Band.fill_of (by omega)
  case drain => exact fun hc none => Band.drain_of (by omega)
  case strobe => exact fun some => Band.strobeEnd_of some (lt_of_lt_of_le some h.draining)

end Sys2Proof.Machine
end

section
/-! What the Band Unit answers, one rule per case: the judgement of an access by role and line state (R62 to R64), the
accesses that an event lets be judged again (R65), and the notice test with the offer of its notice (R67). -/

namespace Sys2Proof.Machine

open Sys2Proof

/-! ### The tables of the judgement (R62 to R64) -/

section
variable {x : Band} {b : Fin 4} {line offset : Nat} {op : AccessOp}

theorem Band.closing_iff : x.closing offset op = true ↔ opIsWord op = true ∧ offset + 2 = x.width := by
  simp only [Band.closing, Bool.and_eq_true, decide_eq_true_eq]

theorem Band.judge_capture_hold (hr : x.role = .capture) (hl : x.lineState line = .empty ∨ x.lineState line = .filling) :
    x.judge b line offset op = .hold := by
  obtain hl | hl := hl <;> simp only [Band.judge, hr, hl]

theorem Band.judge_capture_closing (hr : x.role = .capture) (hl : x.lineState line = .full)
    (hc : x.closing offset op = true) (hw : opIsWrite op = false) :
    x.judge b line offset op = .pass (if line = x.d then .drain b line else .bandOrder b) := by
  simp only [Band.judge, hr, hl, hc, hw]
  exact (apply_ite Verdict.pass _ _ _).symm

theorem Band.judge_capture_plain (hr : x.role = .capture) (hl : x.lineState line = .full)
    (hp : x.closing offset op = false ∨ opIsWrite op = true) : x.judge b line offset op = .pass .nothing := by
  simp only [Band.judge, hr, hl]
  obtain hp | hp := hp <;> simp [hp]

theorem Band.judge_emit_hold (hr : x.role = .emit) (hw : opIsWrite op = true)
    (hl : x.lineState line = .full ∨ x.lineState line = .draining) : x.judge b line offset op = .hold := by
  obtain hl | hl := hl <;> simp [Band.judge, hr, hl, hw]

theorem Band.judge_emit_closing (hr : x.role = .emit) (hw : opIsWrite op = true) (hl : x.lineState line = .empty)
    (hc : x.closing offset op = true) :
    x.judge b line offset op = .pass (if line = x.f then .fill b line else .bandOrder b) := by
  simp only [Band.judge, hr, hl, hc, hw]
  exact (apply_ite Verdict.pass _ _ _).symm

theorem Band.judge_emit_plain (hr : x.role = .emit) (hw : opIsWrite op = true) (hl : x.lineState line = .empty)
    (hc : x.closing offset op = false) : x.judge b line offset op = .pass .nothing := by
  simp [Band.judge, hr, hl, hw, hc]

theorem Band.judge_copy_hold (hr : x.role = .copy) (hw : opIsWrite op = true) (hl : x.lineState line ≠ .empty) :
    x.judge b line offset op = .hold := by
  simp only [Band.judge, hr, hw, if_true]
  split
  case h_4 h => exact absurd h hl
  all_goals rfl

theorem Band.judge_copy_empty (hr : x.role = .copy) (hw : opIsWrite op = true) (hl : x.lineState line = .empty) :
    x.judge b line offset op = .pass .nothing := by
  simp [Band.judge, hr, hw, hl]

theorem Band.judge_read (hr : x.role = .emit ∨ x.role = .copy) (hw : opIsWrite op = false) :
    x.judge b line offset op = .pass .nothing := by
  obtain hr | hr := hr <;> simp [Band.judge, hr, hw]

end

section
variable {s : State} {b : Fin 4} {changed : Nat → Bool}

/-! ### Judged again at the grant (R65) -/

theorem State.rejudge_outside_lines {a : Access} (h : s.bandPlace a.at = none) : s.rejudge a = .pass .nothing := by
  simp only [State.rejudge, h]

theorem State.rejudge_in_line {a : Access} {b' : Fin 4} {line offset : Nat}
    (h : s.bandPlace a.at = some (b', line, offset)) : s.rejudge a = s.bands[b'].judge b' line offset a.op := by
  simp only [State.rejudge, h]

/-- The words of the mover's burst stand at their destinations while it writes, a held write among them (R135). -/
theorem Mover.wordAddr_eq (m : Mover) (i : Nat) :
    m.wordAddr i = if m.state = .writing ∨ m.state = .held ∧ m.heldWrite = true then m.destAddr i else m.sourceAddr i := by
  unfold Mover.wordAddr Mover.work
  cases m.state <;> cases m.heldWrite <;> simp

@[simp] theorem Path.anew_band (judged : Option Obs) : (Path.band b judged).anew b = .band b none := by
  simp only [Path.anew, if_true]

/-- A path that is not through the band stays. -/
theorem Path.anew_other {path : Path} (h : ∀ judged, path ≠ .band b judged) : path.anew b = path := by
  cases path with
  | plain => rfl
  | rom offset => rfl
  | band b' judged => exact if_neg (by rintro rfl; exact h judged rfl)

theorem State.judgeAnew_cpu_changed {y : CpuAccess} {judged : Option Obs} (hy : s.passage.cpu = some y)
    (hs : y.status = .passing (.band b judged)) (hc : changed y.acc.at = true) :
    (s.judgeAnew b changed).passage.cpu = some { y with status := .passing (.band b none) } := by
  simp [State.judgeAnew, hy, CpuAccess.anew, hs, hc]

theorem State.judgeAnew_cpu_stays {y : CpuAccess} (hy : s.passage.cpu = some y)
    (h : (∀ judged, y.status ≠ .passing (.band b judged)) ∨ changed y.acc.at = false) :
    (s.judgeAnew b changed).passage.cpu = some y := by
  have same : y.anew b changed = y := by
    unfold CpuAccess.anew
    split
    · next path hp =>
      split
      · next hc =>
        have other : ∀ judged, path ≠ .band b judged := by
          rintro judged rfl
          exact h.elim (fun k => k _ hp) fun k => by rw [k] at hc; cases hc
        rw [Path.anew_other other, ← hp]
      · rfl
    · rfl
    · rfl
  simp [State.judgeAnew, hy, same]

/-- The burst that waits after a change of line states, word by word. -/
theorem State.judgeAnew_burst {paths : List Path} {i : Nat} {path : Path} (hp : s.port.moverReq = some paths)
    (hi : paths[i]? = some path) : ∃ new, (s.judgeAnew b changed).port.moverReq = some new ∧ new.length = paths.length
      ∧ new[i]? = some (if changed (s.mover.wordAddr (s.mover.next + i)) then path.anew b else path) := by
  refine ⟨s.mover.anew b changed s.mover.next paths, ?_, Mover.anew_length .., ?_⟩
  · simp [State.judgeAnew, hp]
  · simp [Mover.anew_getElem?, hi]

/-- The judgement that an event makes necessary again, with the condition as a proposition. -/
theorem State.judgeAnew_rules {P : Nat → Prop} (hP : ∀ a, changed a = true ↔ P a) :
    (∀ y judged, s.passage.cpu = some y → y.status = .passing (.band b judged) → P y.acc.at →
      (s.judgeAnew b changed).passage.cpu = some { y with status := .passing (.band b none) })
    ∧ (∀ y, s.passage.cpu = some y → (∀ judged, y.status ≠ .passing (.band b judged)) ∨ ¬ P y.acc.at →
      (s.judgeAnew b changed).passage.cpu = some y)
    ∧ (∀ paths i path, s.port.moverReq = some paths → paths[i]? = some path →
      ∃ new, (s.judgeAnew b changed).port.moverReq = some new ∧ new.length = paths.length
      ∧ (∀ judged, path = .band b judged → P (s.mover.wordAddr (s.mover.next + i)) → new[i]? = some (.band b none))
      ∧ ((∀ judged, path ≠ .band b judged) ∨ ¬ P (s.mover.wordAddr (s.mover.next + i)) → new[i]? = some path)) := by
  simp only [← hP, Bool.not_eq_true]
  refine ⟨fun y judged hy hs hc => State.judgeAnew_cpu_changed hy hs hc, fun y hy h => State.judgeAnew_cpu_stays hy h,
    fun paths i path hp hi => ?_⟩
  obtain ⟨new, hn, hl, hw⟩ := State.judgeAnew_burst (s := s) (b := b) (changed := changed) hp hi
  refine ⟨new, hn, hl, ?_, ?_⟩
  · rintro judged rfl hc
    rw [hw, if_pos hc, Path.anew_band]
  · rintro (other | same)
    · rw [hw, Path.anew_other other, ite_self]
    · rw [hw, same, if_neg Bool.false_ne_true]

theorem State.lineChanges_iff {x : Band} {a : Nat} :
    s.lineChanges b x a = true
      ↔ ∃ line offset, s.bandPlace a = some (b, line, offset) ∧ s.bands[b].lineState line ≠ x.lineState line := by
  unfold State.lineChanges
  split
  · next h => simp [h]
  · next b' line offset h =>
    simp only [h, Bool.and_eq_true, decide_eq_true_eq, Option.some.injEq, Prod.mk.injEq]
    constructor
    · rintro ⟨rfl, hl⟩
      exact ⟨line, offset, ⟨rfl, rfl, rfl⟩, hl⟩
    · rintro ⟨_, _, ⟨rfl, rfl, rfl⟩, hl⟩
      exact ⟨rfl, hl⟩

end

/-- Settles O12: the tables, the judgement that stands at the grant, and what each change of a band lets be judged again. -/
theorem bandJudgesByTables : Obligations.BandJudgesByTables := by
  refine ⟨fun x b line offset op => ?tables, fun s a => ?standing, fun s b x => ?anew⟩
  case tables =>
    simp only [← Band.closing_iff, Bool.not_eq_true]
    exact ⟨Band.judge_capture_hold, fun hr hl hc hw => Band.judge_capture_closing hr hl hc hw,
      fun hr hl hp => Band.judge_capture_plain hr hl hp, Band.judge_emit_hold,
      fun hr hw hl hc => Band.judge_emit_closing hr hw hl hc, fun hr hw hl hc => Band.judge_emit_plain hr hw hl hc,
      Band.judge_copy_hold, Band.judge_copy_empty, fun hr hw => Band.judge_read hr hw⟩
  case standing =>
    exact ⟨rfl, fun _ => rfl, fun _ _ => rfl, fun _ h => State.rejudge_outside_lines h,
      fun _ _ _ _ h => State.rejudge_in_line h⟩
  case anew =>
    have lines := (s.withBand b x).judgeAnew_rules (b := b) fun a => s.lineChanges_iff (b := b) (x := x) (a := a)
    have whole := (s.withBand b x).judgeAnew_rules (b := b) (changed := fun _ => true) (P := fun _ => True) (by simp)
    simp only [Mover.wordAddr_eq] at lines whole
    exact ⟨⟨rfl, lines⟩, ⟨rfl, whole⟩⟩

/-! ### The notice test (R67) -/

section
variable {b : Band} {up : Bool}

/-- C has risen to the notice level of an armed CAPTURE or COPY band. -/
def Band.raisesHigh (b : Band) (up : Bool) : Prop :=
  (b.role = .capture ∨ b.role = .copy) ∧ up = true ∧ b.c = b.noticeLevel ∧ b.armed = true ∧ b.noticeLevel ≠ 0

/-- C has fallen to the notice level of an armed EMIT band. -/
def Band.raisesLow (b : Band) (up : Bool) : Prop :=
  b.role = .emit ∧ up = false ∧ b.c = b.noticeLevel ∧ b.armed = true ∧ b.noticeLevel ≠ 0

/-- C has moved off the notice level of a band that is not armed. -/
def Band.armsAgain (b : Band) (up : Bool) : Prop :=
  ((b.role = .capture ∨ b.role = .copy) ∧ up = false ∧ b.c < b.noticeLevel
    ∨ b.role = .emit ∧ up = true ∧ b.noticeLevel < b.c) ∧ b.armed = false

theorem Band.noticeTest_high (h : b.raisesHigh up) : b.noticeTest up = ({ b with armed := false }, some .high) := by
  obtain ⟨hr | hr, rfl, hc, ha, hn⟩ := h <;> simp [Band.noticeTest, hr, hc, ha, hn]

theorem Band.noticeTest_low (h : b.raisesLow up) : b.noticeTest up = ({ b with armed := false }, some .low) := by
  obtain ⟨hr, rfl, hc, ha, hn⟩ := h
  simp [Band.noticeTest, hr, hc, ha, hn]

theorem Band.noticeTest_arms (h : b.armsAgain up) : b.noticeTest up = ({ b with armed := true }, none) := by
  obtain ⟨⟨hr | hr, rfl, hc⟩ | ⟨hr, rfl, hc⟩, ha⟩ := h <;> simp [Band.noticeTest, hr, hc, ha]

theorem Band.noticeTest_none (high : ¬ b.raisesHigh up) (low : ¬ b.raisesLow up) (arms : ¬ b.armsAgain up) :
    b.noticeTest up = (b, none) := by
  unfold Band.raisesHigh at high
  unfold Band.raisesLow at low
  unfold Band.armsAgain at arms
  unfold Band.noticeTest
  cases hr : b.role <;> cases up <;> simp_all

end

/-! ### The offer of a notice (R44, R45) -/

section
variable {s : State} {b : Fin 4}

theorem State.noticeWaits_iff : s.noticeWaits b = true ↔ ∃ w ∈ s.reports.waiting, ∃ r, w.item = .notice b r := by
  rw [State.noticeWaits, List.any_eq_true]
  refine exists_congr fun w => and_congr_right fun _ => ?_
  cases h : w.item <;> simp

theorem State.hasRoom_of_no_area (h : s.hasReports = false) : s.hasRoom = true := by simp [State.hasRoom, h]

theorem State.hasRoom_of_room (h : s.reports.pending.length < 8) : s.hasRoom = true := by
  simp [State.hasRoom, Config.pendingPlaces, h]

theorem State.hasRoom_full (ha : s.hasReports = true) (h : 8 ≤ s.reports.pending.length) : s.hasRoom = false := by
  simp [State.hasRoom, Config.pendingPlaces, ha, Nat.not_lt.mpr h]

theorem State.enter_of_area (h : s.hasReports = true) (r : Report) :
    s.enter r = s.withReports { s.reports with pending := s.reports.pending ++ [r] } := if_pos h

theorem State.enter_of_no_area (h : s.hasReports = false) (r : Report) : s.enter r = s := if_neg (by simp [h])

/-- A report offered with room in the pending queue enters it. -/
theorem State.offer_enters (h : s.reports.pending.length < 8) (block : Block) (item : WaitingItem) :
    s.offer block item = s.enterItem item := if_pos (s.hasRoom_of_room h)

/-- A report offered with no report area is discarded. -/
theorem State.offer_discarded (h : s.hasReports = false) (block : Block) (item : WaitingItem) :
    s.offer block item = s.enterItem item := if_pos (s.hasRoom_of_no_area h)

/-- A report offered with the pending queue full waits. -/
theorem State.offer_waits (ha : s.hasReports = true) (h : 8 ≤ s.reports.pending.length) (block : Block)
    (item : WaitingItem) :
    s.offer block item = s.withReports { s.reports with waiting := s.reports.waiting ++ [⟨block, item⟩] } :=
  if_neg (by simp [s.hasRoom_full ha h])

theorem State.offerNotice_dropped {r : Report}
    (h : (∃ w ∈ s.reports.waiting, ∃ r, w.item = .notice b r) ∨ s.hasReports = false) : s.offerNotice b r = s := by
  rw [State.offerNotice]
  split
  · rfl
  · next hw =>
    have hn := h.resolve_left fun k => hw (State.noticeWaits_iff.mpr k)
    rw [s.offer_discarded hn]
    exact s.enter_of_no_area hn r

theorem State.offerNotice_of_none_waits {r : Report} (h : ¬ ∃ w ∈ s.reports.waiting, ∃ r, w.item = .notice b r) :
    s.offerNotice b r = s.offer .band (.notice b r) := if_neg fun k => h (State.noticeWaits_iff.mp k)

theorem noticeReport_eq (b : Fin 4) (y : Band) (dir : NoticeDirection) :
    noticeReport b y dir = ⟨.band, 1, [wordNat (b.val + if dir = .high then 0 else 256), wordNat y.c, wordNat y.f,
      wordNat y.d, wordNat (y.filling + y.draining * 256), 0, 0]⟩ := by
  cases dir <;> rfl

theorem State.withCount_no_notice {x : Band} {up : Bool} (h : (x.noticeTest up).2 = none) :
    s.withCount b x up = s.withLines b (x.noticeTest up).1 := by
  simp only [State.withCount, h]

theorem State.withCount_notice {x : Band} {up : Bool} {dir : NoticeDirection} (h : (x.noticeTest up).2 = some dir) :
    s.withCount b x up = (s.withLines b (x.noticeTest up).1).offerNotice b (noticeReport b (x.noticeTest up).1 dir) := by
  simp only [State.withCount, h]

end

/-- Settles O13: the four cases of the test, then the offer of the notice that it raises. -/
theorem noticeTestFollowsTable : Obligations.NoticeTestFollowsTable := by
  refine ⟨fun b up => ⟨Band.noticeTest_high, Band.noticeTest_low, Band.noticeTest_arms, Band.noticeTest_none⟩,
    fun s b x up => ⟨State.withCount_no_notice, fun dir hd => ?_⟩⟩
  rw [State.withCount_notice hd, ← noticeReport_eq]
  have waiting : (s.withLines b (x.noticeTest up).1).reports = s.reports := rfl
  have area : (s.withLines b (x.noticeTest up).1).hasReports = s.hasReports := rfl
  rw [← area, ← waiting]
  generalize s.withLines b (x.noticeTest up).1 = v
  refine ⟨?dropped, ?enters, ?waits⟩
  case dropped => exact fun h => State.offerNotice_dropped h
  case enters =>
    intro hw ha room
    rw [State.offerNotice_of_none_waits hw, State.offer_enters room]
    exact State.enter_of_area ha _
  case waits =>
    intro hw ha full
    rw [State.offerNotice_of_none_waits hw, State.offer_waits ha full]

end Sys2Proof.Machine
end

section
/-! What a state that follows of itself keeps of the state that an event left, field by field; and DRAM read back after
the word transfers of a grant. -/

namespace Sys2Proof.Machine

open Sys2Proof

/-! ### What follows of itself, field by field -/

section
variable {u t : State}

theorem Follows.dram (f : Follows u t) : t.dram = u.dram := congrArg Outside.dram f.outside
theorem Follows.windows (f : Follows u t) : t.windows = u.windows := congrArg Outside.windows f.outside
theorem Follows.boot (f : Follows u t) : t.boot = u.boot := congrArg Outside.boot f.outside
theorem Follows.sensors (f : Follows u t) : t.sensors = u.sensors := congrArg Outside.sensors f.outside
theorem Follows.installedMb (f : Follows u t) : t.passage.installedMb = u.passage.installedMb :=
  congrArg Outside.installedMb f.outside
theorem Follows.bands (f : Follows u t) : t.bands = u.bands := congrArg Page.bands f.page
theorem Follows.capture (f : Follows u t) : t.capture = u.capture := congrArg Page.capture f.page
theorem Follows.emit (f : Follows u t) : t.emit = u.emit := congrArg Page.emit f.page
theorem Follows.ring (f : Follows u t) : t.ring = u.ring := congrArg Page.ring f.page
theorem Follows.cpu (f : Follows u t) : t.passage.cpu = u.passage.cpu := by rw [f.passage]
theorem Follows.reply (f : Follows u t) : t.passage.reply = u.passage.reply := by rw [f.passage]
theorem Follows.powerState (f : Follows u t) : t.power.state = u.power.state := by rw [f.power]
theorem Follows.dramByte (f : Follows u t) (a : Nat) : t.dramByte a = u.dramByte a := by
  rw [State.dramByte, f.dram, State.dramByte]
theorem Follows.dramWord (f : Follows u t) (a : Nat) : t.dramWord a = u.dramWord a := by
  simp only [State.dramWord, f.dramByte]

/-- The running orders of the channels' queues stand. -/
theorem Follows.running (f : Follows u t) {q : QueueId} (hq : q ≠ .mover) : t.running q = u.running q := by
  obtain ⟨d, p, -, -⟩ := f.queues
  cases q
  case d => exact congrArg Queue.running d
  case p => exact congrArg Queue.running p
  case mover => exact absurd rfl hq

end

/-! ### DRAM after the transfers of a grant -/

section
variable {s t : State}

theorem Memory.writeAll_append (m x y : List Host.Cell) :
    Memory.writeAll m (x ++ y) = Memory.writeAll (Memory.writeAll m x) y := by
  induction x generalizing m with
  | nil => rfl
  | cons c rest ih => exact ih _

theorem State.store_append (x y : List Host.Cell) : s.store (x ++ y) = (s.store x).store y := by
  simp only [State.store, State.withDram, Memory.writeAll_append]

theorem State.dramByte_store_other (h : Memory.wf s.dram) {cells : List Host.Cell} {a : Nat}
    (ha : ∀ c ∈ cells, c.1 ≠ a) : (s.store cells).dramByte a = s.dramByte a := by
  exact Memory.read_writeAll_other h ha

/-- The transfers of words from `a` upward write the bytes from `a` on, two for each word. -/
theorem wordTransfers_at {a : Nat} {ws : List Word} {c : Host.Cell} (hc : c ∈ (wordTransfers a ws).flatten) :
    a ≤ c.1 ∧ c.1 < a + 2 * ws.length := by
  induction ws generalizing a with
  | nil => simp [wordTransfers] at hc
  | cons w rest ih =>
    rw [wordTransfers, List.flatten_cons, List.mem_append] at hc
    obtain hc | hc := hc
    · simp only [wordBytes, List.mem_cons, List.not_mem_nil, or_false] at hc
      obtain rfl | rfl := hc <;> (simp only [List.length_cons]; omega)
    · have := ih hc
      simp only [List.length_cons]
      omega

theorem State.dramWord_congr {a : Nat} (h0 : t.dramByte a = s.dramByte a) (h1 : t.dramByte (a + 1) = s.dramByte (a + 1)) :
    t.dramWord a = s.dramWord a := by
  rw [State.dramWord, h0, h1, State.dramWord]

theorem State.dramWords_congr {a n : Nat} (h : ∀ x, a ≤ x → x < a + 2 * n → t.dramByte x = s.dramByte x) :
    t.dramWords a n = s.dramWords a n := by
  induction n generalizing a with
  | zero => rfl
  | succ n ih =>
    rw [State.dramWords, State.dramWords, State.dramWord_congr (h a (by omega) (by omega)) (h (a + 1) (by omega) (by omega)),
      ih fun x h1 h2 => h x (by omega) (by omega)]

/-- Words stored from an address upward read back from there. -/
theorem State.dramWords_store_transfers (h : Memory.wf s.dram) (a : Nat) (ws : List Word) :
    (s.store (wordTransfers a ws).flatten).dramWords a ws.length = ws := by
  induction ws generalizing s a with
  | nil => rfl
  | cons w rest ih =>
    have wf := State.store_wf h (wordBytes a w)
    have later (x : Nat) (hx : x < a + 2) : ∀ c ∈ (wordTransfers (a + 2) rest).flatten, c.1 ≠ x := by
      intro c hc
      have := wordTransfers_at hc
      omega
    have first : ((s.store (wordBytes a w)).store (wordTransfers (a + 2) rest).flatten).dramWord a = w := by
      rw [State.dramWord_congr (State.dramByte_store_other wf (later a (by omega)))
        (State.dramByte_store_other wf (later (a + 1) (by omega))), State.dramWord_store_word h]
    rw [wordTransfers, List.flatten_cons, State.store_append, List.length_cons, State.dramWords, first, ih wf]

theorem State.dramWords_withPort (p : Port) (a n : Nat) : (s.withPort p).dramWords a n = s.dramWords a n :=
  State.dramWords_congr fun _ _ _ => rfl

end

end Sys2Proof.Machine
end

section
/-! The Report Unit (R20, R37, R42 to R46): what a fault, an ended order, an admission and a posting do to the pending queue,
the waiting reports and the report area. -/

namespace Sys2Proof.Machine

open Sys2Proof

variable {s : State}

/-! ### Faults (R20) -/

theorem stopAt_eq (limit n : Nat) : stopAt limit n = min limit n := by
  unfold stopAt
  split <;> omega

theorem State.raiseFault_enters (ha : s.hasReports = true) (room : s.reports.pending.length < 8) (f : PassageFault) :
    s.raiseFault f = (s.withReports { s.reports with
      pending := s.reports.pending ++ [passageReport f s.passage.unposted] }).withPassage
        { s.passage with unposted := 0 } := by
  rw [State.raiseFault, if_pos (s.hasRoom_of_room room), s.enter_of_area ha]

theorem State.raiseFault_counts (ha : s.hasReports = true) (full : 8 ≤ s.reports.pending.length) (f : PassageFault) :
    s.raiseFault f = s.withPassage { s.passage with unposted := min 255 (s.passage.unposted + 1) } := by
  rw [State.raiseFault, if_neg (by simp [s.hasRoom_full ha full]), stopAt_eq]

theorem State.raiseFault_discarded (ha : s.hasReports = false) (f : PassageFault) :
    s.raiseFault f = s.withPassage { s.passage with unposted := 0 } := by
  rw [State.raiseFault, if_pos (s.hasRoom_of_no_area ha), s.enter_of_no_area ha]

/-- Settles O14: one equation for each of the three states of the pending queue. -/
theorem faultsTakeUpTheCount : Obligations.FaultsTakeUpTheCount := fun _ f =>
  ⟨fun ha room => State.raiseFault_enters ha room f, fun ha full => State.raiseFault_counts ha full f,
    fun ha => State.raiseFault_discarded ha f⟩

/-! ### The end of an order (R37, R45) -/

section
variable {q : QueueId} {ro : Running}

@[simp] theorem Intake.queue_withQueue_same (i : Intake) (q : QueueId) (x : Queue) : (i.withQueue q x).queue q = x := by
  cases q <;> rfl

@[simp] theorem State.running_withRunning (q : QueueId) (r : Option Running) : (s.withRunning q r).running q = r := by
  cases q <;> rfl

@[simp] theorem State.withRunning_reports (q : QueueId) (r : Option Running) : (s.withRunning q r).reports = s.reports := rfl

@[simp] theorem State.withRunning_finalWrites (q : QueueId) (r : Option Running) :
    (s.withRunning q r).intake.finalWrites = s.intake.finalWrites := by
  cases q <;> rfl

theorem State.endOrder_of_running (h : s.running q = some ro) (block : Block) (r : Result) (figures : List Word) :
    s.endOrder q block r figures
      = (s.withRunning q (some { ro with stage := .offered, result := r, figures := figures })).offer block (.completion q) := by
  simp only [State.endOrder, h]

/-- The COMPLETION report of a running order enters, and its final write falls due. -/
theorem State.enterCompletion_of_running (h : s.running q = some ro) (ha : s.hasReports = true) :
    (s.enterCompletion q).running q = some { ro with stage := .entered }
    ∧ (s.enterCompletion q).reports = { s.reports with pending := s.reports.pending ++ [completionReport ro] }
    ∧ (s.enterCompletion q).intake.finalWrites
      = s.intake.finalWrites ++ [⟨.queue q, ro.order.slot, ro.order.kind, ro.result⟩] := by
  simp only [State.enterCompletion, h, s.enter_of_area ha]
  cases q <;> exact ⟨rfl, rfl, rfl⟩

end

/-- Settles O15: with room the report enters and the final write falls due; else the report waits. -/
theorem endedOrdersReport : Obligations.EndedOrdersReport := by
  intro s q block r figures ro hr ha
  let ended : Running := { ro with result := r, figures := figures }
  let v := s.withRunning q (some { ended with stage := .offered })
  have hv : v.running q = some { ended with stage := .offered } := State.running_withRunning ..
  have finals : v.intake.finalWrites = s.intake.finalWrites := State.withRunning_finalWrites ..
  rw [State.endOrder_of_running hr]
  refine ⟨fun room => ?enters, fun full => ?waits⟩
  case enters =>
    rw [State.offer_enters (s := v) room]
    obtain ⟨running, reports, writes⟩ := State.enterCompletion_of_running hv ha
    exact ⟨running, reports, writes.trans (by rw [finals])⟩
  case waits =>
    rw [State.offer_waits (s := v) ha full]
    exact ⟨hv, rfl, finals⟩

/-! ### Admission (R46) -/

theorem admitNext_eq_none {ws : List Waiting} : admitNext ws = none ↔ ws = [] := by
  cases ws with
  | nil => simp [admitNext]
  | cons w rest =>
    simp only [admitNext, reduceCtorEq, iff_false]
    split
    · simp
    · split <;> simp

/-- The report admitted has a higher claim than every older one that waits, and no lower one than every newer one. -/
theorem admitNext_eq_some {ws : List Waiting} {w : Waiting} {rest : List Waiting} (h : admitNext ws = some (w, rest)) :
    ∃ older newer, ws = older ++ w :: newer ∧ rest = older ++ newer
      ∧ (∀ x ∈ older, w.block.claim < x.block.claim) ∧ ∀ x ∈ newer, w.block.claim ≤ x.block.claim := by
  induction ws generalizing w rest with
  | nil => simp [admitNext] at h
  | cons first others ih =>
    unfold admitNext at h
    split at h
    · next hn =>
      obtain rfl := admitNext_eq_none.mp hn
      obtain ⟨rfl, rfl⟩ := h
      exact ⟨[], [], rfl, rfl, by simp, by simp⟩
    · next x left hx =>
      obtain ⟨older, newer, rfl, rfl, ho, hn⟩ := ih hx
      split at h
      · next less =>
        obtain ⟨rfl, rfl⟩ := h
        exact ⟨first :: older, newer, rfl, rfl, by simpa using ⟨less, ho⟩, hn⟩
      · next le =>
        obtain ⟨rfl, rfl⟩ := h
        refine ⟨[], older ++ x :: newer, rfl, rfl, by simp, fun y hy => ?_⟩
        have hxy : x.block.claim ≤ y.block.claim := by
          simp only [List.mem_append, List.mem_cons] at hy
          obtain hy | rfl | hy := hy
          · exact (ho y hy).le
          · exact le_rfl
          · exact hn y hy
        omega

/-- Settles O16, by induction on the waiting reports. -/
theorem admissionFollowsClaims : Obligations.AdmissionFollowsClaims :=
  ⟨fun _ => ⟨admitNext_eq_none, fun _ _ h => admitNext_eq_some h⟩, by decide⟩

/-! ### Posting (R42) -/

section
variable {x : Report} {rest : List Report}

theorem Reports.posted_of_pending {r : Reports} (h : r.pending = x :: rest) :
    r.posted = { r with
      pending := rest
      unconsumed := r.unconsumed ++ [x.cls]
      post := (r.post + 1) % r.count
      seq := if r.seq = 15 then 1 else r.seq + 1
      attention := (r.unconsumed ++ [x.cls]).any fun c => r.mask.getLsbD (classBit c) } := by
  simp only [Reports.posted, h]
  rfl

/-- REPORT_POST_END ends the grant, moves the area on and admits a waiting report. -/
theorem exec_reportPostEnd (hg : s.port.grant = some .report) :
    exec .reportPostEnd s = finish ((s.endGrant .report).withReports s.reports.posted).admitOne := if_pos hg

theorem State.admitOne_none (h : s.reports.waiting = []) : s.admitOne = s := by
  simp only [State.admitOne, h, admitNext]

theorem State.admitOne_report {block : Block} {r : Report} {others : List Waiting} (ha : s.hasReports = true)
    (h : admitNext s.reports.waiting = some (⟨block, .report r⟩, others)) :
    s.admitOne = s.withReports { s.reports with waiting := others, pending := s.reports.pending ++ [r] } := by
  simp only [State.admitOne, h, State.enterItem]
  exact State.enter_of_area (s := s.withReports { s.reports with waiting := others }) ha r

theorem State.admitOne_completion {block : Block} {q : QueueId} {others : List Waiting}
    (h : admitNext s.reports.waiting = some (⟨block, .completion q⟩, others)) :
    s.admitOne = (s.withReports { s.reports with waiting := others }).enterCompletion q := by
  simp only [State.admitOne, h, State.enterItem]

/-- DRAM after a posting: the head of the slot, and the seven body words behind it. -/
theorem State.endGrant_report_words (hp : s.reports.pending = x :: rest) (wf : Memory.wf s.dram) (hb : x.body.length = 7) :
    (s.endGrant .report).dramWord (s.reportAddr s.reports.post) = reportHead x.cls x.code s.reports.seq
    ∧ (s.endGrant .report).dramWords (s.reportAddr s.reports.post + 2) 7 = x.body := by
  have transfers : s.endGrant .report = ((s.store (wordTransfers (s.reportAddr s.reports.post + 2) x.body).flatten).store
      (wordBytes (s.reportAddr s.reports.post) (reportHead x.cls x.code s.reports.seq))).freePort := by
    rw [← State.store_append]
    simp [State.endGrant, State.grantTransfers, State.reportTransfers, hp, wordTransfers]
  have wf' := State.store_wf wf (wordTransfers (s.reportAddr s.reports.post + 2) x.body).flatten
  rw [transfers]
  refine ⟨State.dramWord_store_word wf' _ _, ?_⟩
  have body := State.dramWords_store_transfers wf (s.reportAddr s.reports.post + 2) x.body
  rw [hb] at body
  refine Eq.trans (State.dramWords_congr fun a low _ => ?_) body
  refine State.dramByte_store_other wf' fun c hc => ?_
  simp only [wordBytes, List.mem_cons, List.not_mem_nil, or_false] at hc
  obtain rfl | rfl := hc <;> (simp only; omega)

end

/-- Settles O17: the posting, the admission of the report that takes the freed place, and the slot in DRAM. -/
theorem postingAdvancesTheArea : Obligations.PostingAdvancesTheArea := by
  intro s x rest hg hp
  simp only [← Reports.posted_of_pending hp]
  have posts := exec_reportPostEnd hg
  have hpending : s.reports.posted.pending = rest := by rw [Reports.posted_of_pending hp]
  have hwaiting : s.reports.posted.waiting = s.reports.waiting := by rw [Reports.posted_of_pending hp]
  refine ⟨?none, ?report, ?completion, ?words⟩
  case none =>
    intro hw
    rw [State.admitOne_none (by exact hwaiting.trans hw)] at posts
    exact leads_of_finish posts
  case report =>
    intro block r others hn ha
    rw [← hwaiting] at hn
    rw [State.admitOne_report (by exact ha) (by exact hn)] at posts
    have leads := leads_of_finish posts
    rw [← hpending]
    exact leads
  case completion =>
    intro block q others ro hn ha hr
    rw [← hwaiting] at hn
    rw [State.admitOne_completion (by exact hn)] at posts
    obtain ⟨t, ht, f⟩ := leads_of_finish posts
    have entered := (State.enterCompletion_of_running (s := (((s.endGrant .report).withReports s.reports.posted).withReports
      { s.reports.posted with waiting := others })) (q := q) (ro := ro) hr ha).2.1
    refine ⟨t, ht, ?_, f.grant.trans ?_⟩
    · rw [← hpending]
      exact (congrArg (fun r => r.pending <+: t.reports.pending) entered).mp f.pending
    · exact congrArg Kept.grant (State.enterCompletion_kept _ q)
  case words =>
    intro wf hb
    obtain ⟨t, ht, f⟩ := leads_of_finish posts
    obtain ⟨head, body⟩ := State.endGrant_report_words hp wf hb
    have same (a : Nat) : t.dramByte a = (s.endGrant .report).dramByte a := by
      have outside := f.outside.trans State.admitOne_outside
      exact congrArg (Memory.read Config.unlistedDram · a) (congrArg Outside.dram outside)
    exact ⟨t, ht, (State.dramWord_congr (same _) (same _)).trans head,
      (State.dramWords_congr fun a _ _ => same a).trans body⟩

end Sys2Proof.Machine
end

section
/-! Offers beside the reports and the Intake, and what follows of itself exactly: the request under the processor-passage
claim (R21), and the Intake's take and request after the mover has gone on (R29, R37). -/

namespace Sys2Proof.Machine

open Sys2Proof

variable {s t : State}

/-! ### What an offered report and an ended order leave -/

/-- A state with the Report Unit, the Intake and the unposted-fault count left out: what no offer of a report and no end of
an order writes. -/
def State.besideReports (s : State) : State :=
  { s with reports := Reports.reset, intake := Intake.reset, passage := { s.passage with unposted := 0 } }

@[simp] theorem State.withReports_besideReports (x : Reports) : (s.withReports x).besideReports = s.besideReports := rfl
@[simp] theorem State.withIntake_besideReports (x : Intake) : (s.withIntake x).besideReports = s.besideReports := rfl
@[simp] theorem State.withRunning_besideReports (q : QueueId) (r : Option Running) :
    (s.withRunning q r).besideReports = s.besideReports := rfl
@[simp] theorem State.enter_besideReports (r : Report) : (s.enter r).besideReports = s.besideReports := by
  unfold State.enter; split <;> rfl
@[simp] theorem State.enterCompletion_besideReports (q : QueueId) :
    (s.enterCompletion q).besideReports = s.besideReports := by
  unfold State.enterCompletion; split <;> simp
@[simp] theorem State.enterItem_besideReports (i : WaitingItem) : (s.enterItem i).besideReports = s.besideReports := by
  cases i <;> simp [State.enterItem]
@[simp] theorem State.offer_besideReports (block : Block) (item : WaitingItem) :
    (s.offer block item).besideReports = s.besideReports := by
  unfold State.offer; split <;> simp
@[simp] theorem State.offerNotice_besideReports (b : Fin 4) (r : Report) :
    (s.offerNotice b r).besideReports = s.besideReports := by
  unfold State.offerNotice; split <;> simp
@[simp] theorem State.dropNotice_besideReports (b : Fin 4) : (s.dropNotice b).besideReports = s.besideReports := rfl
@[simp] theorem State.offerPower_besideReports (r : Report) : (s.offerPower r).besideReports = s.besideReports := by
  unfold State.offerPower; split <;> simp
@[simp] theorem State.offerSensor_besideReports (x : Sensor) : (s.offerSensor x).besideReports = s.besideReports := by
  unfold State.offerSensor; (repeat' split) <;> simp
@[simp] theorem State.raiseFault_besideReports (f : PassageFault) : (s.raiseFault f).besideReports = s.besideReports := by
  unfold State.raiseFault State.enter
  (repeat' split) <;> rfl
@[simp] theorem State.endOrder_besideReports (q : QueueId) (block : Block) (result : Result) (figures : List Word) :
    (s.endOrder q block result figures).besideReports = s.besideReports := by
  unfold State.endOrder; split <;> simp

section
variable (h : t.besideReports = s.besideReports)
include h

theorem State.port_of_besideReports : t.port = s.port := (congrArg State.port h :)
theorem State.cpu_of_besideReports : t.passage.cpu = s.passage.cpu := (congrArg (·.passage.cpu) h :)
theorem State.reply_of_besideReports : t.passage.reply = s.passage.reply := (congrArg (·.passage.reply) h :)
theorem State.pins_of_besideReports : t.pins = s.pins := (congrArg State.pins h :)
theorem State.bands_of_besideReports : t.bands = s.bands := (congrArg State.bands h :)
theorem State.capture_of_besideReports : t.capture = s.capture := (congrArg State.capture h :)
theorem State.emit_of_besideReports : t.emit = s.emit := (congrArg State.emit h :)
theorem State.chanD_of_besideReports : t.chanD = s.chanD := (congrArg State.chanD h :)
theorem State.chanP_of_besideReports : t.chanP = s.chanP := (congrArg State.chanP h :)
theorem State.mover_of_besideReports : t.mover = s.mover := (congrArg State.mover h :)
theorem State.power_of_besideReports : t.power = s.power := (congrArg State.power h :)
theorem State.ring_of_besideReports : t.ring = s.ring := (congrArg State.ring h :)

end

@[simp] theorem State.enter_intake (r : Report) : (s.enter r).intake = s.intake := by
  unfold State.enter; split <;> rfl
@[simp] theorem State.raiseFault_intake (f : PassageFault) : (s.raiseFault f).intake = s.intake := by
  unfold State.raiseFault State.enter; (repeat' split) <;> rfl
@[simp] theorem State.offerNotice_intake (b : Fin 4) (r : Report) : (s.offerNotice b r).intake = s.intake := by
  simp only [State.offerNotice, State.offer, State.enterItem]; (repeat' split) <;> simp
@[simp] theorem State.dropNotice_intake (b : Fin 4) : (s.dropNotice b).intake = s.intake := rfl

/-! ### The mover goes on: what it leaves at the port and in the Intake -/

/-- A port with the mover's request left out. -/
def Port.besideMover (p : Port) : Port := { p with moverReq := none }

/-- The Intake as the mover leaves it: its queue's order may have ended and final writes may have fallen due. -/
def Intake.MoverWent (i j : Intake) : Prop := ∃ q w, j = { i with mQueue := q, finalWrites := i.finalWrites ++ w }

theorem Intake.MoverWent.refl (i : Intake) : i.MoverWent i := ⟨i.mQueue, [], by simp⟩

theorem Intake.MoverWent.trans {i j k : Intake} (h : i.MoverWent j) (h' : j.MoverWent k) : i.MoverWent k := by
  obtain ⟨q, w, rfl⟩ := h
  obtain ⟨q', w', rfl⟩ := h'
  exact ⟨q', w ++ w', by simp⟩

theorem State.endOrder_mover_went (r : Result) (figures : List Word) :
    s.intake.MoverWent (s.endOrder .mover .mover r figures).intake := by
  unfold State.endOrder State.offer
  split
  · exact .refl _
  · next ro _ =>
    split
    · simp only [State.enterItem, State.enterCompletion, State.running_withRunning]
      refine ⟨{ s.intake.mQueue with running := some { ro with stage := .entered, result := r, figures := figures } },
        [⟨.queue .mover, ro.order.slot, ro.order.kind, r⟩], ?_⟩
      simp [State.withRunning, Intake.withQueue, Intake.queue]
    · refine ⟨{ s.intake.mQueue with running := some { ro with stage := .offered, result := r, figures := figures } }, [], ?_⟩
      simp [State.withRunning, Intake.withQueue, Intake.queue]

/-- What the mover leaves between two of its acts. -/
structure MoverLeaves (s t : State) : Prop where
  port : t.port.besideMover = s.port.besideMover
  intake : s.intake.MoverWent t.intake
  wakes : t.power = s.power
  cpu : t.passage.cpu = s.passage.cpu

theorem MoverLeaves.refl (s : State) : MoverLeaves s s := ⟨rfl, .refl _, rfl, rfl⟩

theorem MoverLeaves.trans {u : State} (h : MoverLeaves s t) (k : MoverLeaves t u) : MoverLeaves s u :=
  ⟨k.port.trans h.port, h.intake.trans k.intake, k.wakes.trans h.wakes, k.cpu.trans h.cpu⟩

theorem MoverLeaves.of_besideReports {p : Port} {m : Mover} (hp : p.besideMover = s.port.besideMover)
    (h : t.besideReports = ((s.withPort p).withMover m).besideReports) (hi : s.intake.MoverWent t.intake) :
    MoverLeaves s t :=
  ⟨(congrArg Port.besideMover (State.port_of_besideReports h)).trans hp, hi, (State.power_of_besideReports h :),
    (State.cpu_of_besideReports h :)⟩

theorem State.endTransfer_leaves (r : Result) : MoverLeaves s (s.endTransfer r) :=
  .of_besideReports (p := { s.port with moverReq := none })
    (m := { s.mover with state := .ending, heldOn := none, aborting := false }) rfl (State.endOrder_besideReports ..)
    (State.endOrder_mover_went (s := (s.withPort _).withMover _) ..)

theorem State.turnChunk_leaves : MoverLeaves s s.turnChunk := by
  unfold State.turnChunk
  dsimp only
  (repeat' split) <;> first
    | exact .refl _
    | exact State.endTransfer_leaves _
    | exact ⟨rfl, .refl _, rfl, rfl⟩

theorem State.moverAct_leaves : MoverLeaves s s.moverAct := by
  unfold State.moverAct
  dsimp only
  (repeat' split) <;> first
    | exact .refl _
    | exact State.turnChunk_leaves
    | exact ⟨rfl, .refl _, rfl, rfl⟩
    | exact .of_besideReports (p := s.port) (m := s.mover.skip) rfl (State.raiseFault_besideReports ..)
        (by simpa using Intake.MoverWent.refl _)

theorem State.runMover_leaves (n : Nat) : MoverLeaves s (s.runMover n) := by
  induction n generalizing s with
  | zero => exact .refl _
  | succ n ih =>
    rw [State.runMover]
    split
    · exact State.moverAct_leaves.trans ih
    · exact .refl _

theorem State.settleMover_leaves (s : State) : MoverLeaves s s.settleMover := by
  unfold State.settleMover
  split
  · exact State.runMover_leaves _
  · exact .refl _

theorem State.settleMover_quiet (h : s.moverFree = false) : s.settleMover = s := if_neg (by simp [h])

/-! ### The request under the processor-passage claim (R21) -/

/-- What stands under the processor-passage claim once what follows of itself has followed: a request that waits or is in
its grant stays, else a wake word that is still to be written goes before the processor's access. -/
def State.processorAsk (s : State) : Option ProcReq :=
  if s.port.procReq.isNone && !s.processorGranted then
    if !s.power.wakeWrites.isEmpty then some .wakeWord else if s.cpuForward then some .access else none
  else s.port.procReq

theorem State.settleProcessor_procReq (s : State) : s.settleProcessor.port.procReq = s.processorAsk := by
  unfold State.settleProcessor State.processorAsk
  split
  · next h =>
    rw [Bool.and_eq_true, Option.isNone_iff_eq_none] at h
    (repeat' split) <;> simp [h.1]
  · rfl

@[simp] theorem State.settleTake_port (s : State) : s.settleTake.port = s.port := by
  unfold State.settleTake
  (repeat' split) <;> rfl

@[simp] theorem State.settleIntake_procReq (s : State) : s.settleIntake.port.procReq = s.port.procReq := by
  unfold State.settleIntake State.requestFetch
  (repeat' split) <;> rfl

@[simp] theorem State.settleLapse_procReq (s : State) : s.settleLapse.port.procReq = s.port.procReq := by
  unfold State.settleLapse
  (repeat' split) <;> dsimp only <;> (repeat' split) <;> rfl

theorem State.settleCapture_eq (s : State) : ∃ r, s.settleCapture = s.withPort { s.port with captureReq := r } := by
  unfold State.settleCapture
  split
  · exact ⟨_, rfl⟩
  · exact ⟨_, rfl⟩

theorem State.settleEmit_eq (s : State) : ∃ r, s.settleEmit = s.withPort { s.port with fetchReq := r } := by
  unfold State.settleEmit
  split
  · exact ⟨_, rfl⟩
  · exact ⟨_, rfl⟩

theorem State.settleProcessor_eq (s : State) : ∃ r, s.settleProcessor = s.withPort { s.port with procReq := r } := by
  unfold State.settleProcessor
  (repeat' split) <;> exact ⟨_, rfl⟩

/-- The mover, the Capture Engine and the Emit Engine leave what the processor-passage request rests on. -/
theorem State.processorAsk_congr (hr : t.port.procReq = s.port.procReq) (hg : t.port.grant = s.port.grant)
    (hw : t.power.wakeWrites = s.power.wakeWrites) (hc : t.passage.cpu = s.passage.cpu) :
    t.processorAsk = s.processorAsk := by
  unfold State.processorAsk State.processorGranted State.cpuForward
  rw [hr, hg, hw, hc]

/-- The request under the processor-passage claim in the state that a step answers. -/
theorem State.settle_procReq (s : State) : s.settle.port.procReq = s.processorAsk := by
  unfold State.settle
  rw [State.settleLapse_procReq, State.settleIntake_procReq, State.settleTake_port, State.settleProcessor_procReq]
  have went := s.settleMover_leaves
  obtain ⟨r, hr⟩ := s.settleMover.settleCapture_eq
  obtain ⟨r', hr'⟩ := s.settleMover.settleCapture.settleEmit_eq
  rw [hr', hr]
  exact State.processorAsk_congr (congrArg Port.procReq went.port :) (congrArg Port.grant went.port :)
    (congrArg Power.wakeWrites went.wakes :) went.cpu

/-! ### The Intake's take and request (R29, R37) -/

theorem State.settleTake_withPort (s : State) (p : Port) : (s.withPort p).settleTake = s.settleTake.withPort p := by
  unfold State.settleTake
  have orders : (s.withPort p).hasOrders = s.hasOrders := rfl
  have slots : (s.withPort p).intake = s.intake := rfl
  rw [orders, slots]
  (repeat' split) <;> rfl

@[simp] theorem State.settleLapse_intake (s : State) : s.settleLapse.intake = s.intake := by
  unfold State.settleLapse
  (repeat' split) <;> dsimp only <;> (repeat' split) <;> rfl

@[simp] theorem State.settleLapse_intakeReq (s : State) : s.settleLapse.port.intakeReq = s.port.intakeReq := by
  unfold State.settleLapse
  (repeat' split) <;> dsimp only <;> (repeat' split) <;> rfl

/-- The Intake's own part of what follows of itself rests on the Intake, its place at the port and the order area alone. -/
theorem State.settleTakes_congr (hi : t.intake = s.intake) (hr : t.port.intakeReq = s.port.intakeReq)
    (hg : t.port.grant = s.port.grant) (ho : t.hasOrders = s.hasOrders) :
    t.settleTake.settleIntake.intake = s.settleTake.settleIntake.intake
      ∧ t.settleTake.settleIntake.port.intakeReq = s.settleTake.settleIntake.port.intakeReq := by
  have take : t.settleTake.intake = s.settleTake.intake := by
    unfold State.settleTake
    rw [ho, hi]
    (repeat' split) <;> simp [State.takeSlot, hi]
  have req : t.settleTake.port.intakeReq = s.settleTake.port.intakeReq := by simpa using hr
  have granted : t.settleTake.intakeGranted = s.settleTake.intakeGranted := by
    simp only [State.intakeGranted, State.settleTake_port, hg]
  unfold State.settleIntake
  rw [take, req, granted]
  split
  · split
    · exact ⟨rfl, rfl⟩
    · next h _ _ =>
      unfold State.requestFetch
      rw [take]
      dsimp only
      split <;> simp [State.withSlot, take]
    · exact ⟨take, rfl⟩
    · exact ⟨take, req⟩
  · exact ⟨take, req⟩

/-- The Intake and its request in the state that a step answers. -/
theorem State.settle_intake (s : State) : ∃ i, s.intake.MoverWent i ∧ (s.moverFree = false → i = s.intake)
    ∧ s.settle.intake = (s.withIntake i).settleTake.settleIntake.intake
    ∧ s.settle.port.intakeReq = (s.withIntake i).settleTake.settleIntake.port.intakeReq := by
  have went := s.settleMover_leaves
  refine ⟨s.settleMover.intake, went.intake, fun h => by rw [State.settleMover_quiet h], ?_⟩
  unfold State.settle
  rw [State.settleLapse_intake, State.settleLapse_intakeReq]
  obtain ⟨r, hr⟩ := s.settleMover.settleCapture_eq
  obtain ⟨r', hr'⟩ := s.settleMover.settleCapture.settleEmit_eq
  obtain ⟨r'', hr''⟩ := s.settleMover.settleCapture.settleEmit.settleProcessor_eq
  rw [hr'', hr', hr]
  have orders : s.settleMover.hasOrders = s.hasOrders := by
    unfold State.hasOrders
    rw [show s.settleMover.windows = s.windows from congrArg Outside.windows s.settleMover_outside]
  exact State.settleTakes_congr rfl (congrArg Port.intakeReq went.port :) (congrArg Port.grant went.port :) orders

end Sys2Proof.Machine
end

section
/-! The processor's access at its arrival (R1 to R10, R15, R145): the treatment that each check gives, and what the treatment
leads to. -/

namespace Sys2Proof.Machine

open Sys2Proof

variable {s : State} {a : Access}

/-! ### The checks of R1 -/

theorem romBase_eq : Config.romBase = 0xE00000 := rfl

theorem State.overlaid_iff : s.overlaid .processor a = true ↔ s.Overlaid a := by
  simp [State.overlaid, State.Overlaid]

theorem State.overlaid_processor (h : ¬ s.Overlaid a) : s.overlaid .processor a = false := by
  rwa [← Bool.not_eq_true, State.overlaid_iff]

theorem State.imageGuarded_iff : s.imageGuarded a = true
    ↔ s.passage.mode = .shadow ∧ s.passage.guard = true ∧ opIsWrite a.op = true ∧ a.at < s.passage.imageLength := by
  simp [State.imageGuarded, and_assoc]

theorem State.classify_overlaid (h : s.Overlaid a) : s.classify .processor a =
    if opIsWrite a.op then .drop .guard .romWrite a.addr none else .pass (.rom (s.passage.overlayBase + a.at)) := by
  rw [State.classify, if_pos (State.overlaid_iff.mpr h)]

theorem State.classify_rom (h : ¬ s.Overlaid a) (hr : 0xE00000 ≤ a.at) : s.classify .processor a =
    if opIsWrite a.op then .drop .guard .romWrite a.at none else .pass (.rom (a.at - 0xE00000)) := by
  rw [State.classify, if_neg (by simp [State.overlaid_processor h]), romBase_eq, if_pos hr]

theorem State.classify_noMemory (h : ¬ s.Overlaid a) (hr : a.at < 0xE00000) (hm : s.installed ≤ a.at) :
    s.classify .processor a = .drop .noMemory .noReason a.at (onesData a.op) := by
  rw [State.classify, if_neg (by simp [State.overlaid_processor h]), romBase_eq, if_neg (Nat.not_le.mpr hr), if_pos hm]

theorem State.classify_image (h : ¬ s.Overlaid a) (hr : a.at < 0xE00000) (hm : a.at < s.installed)
    (hg : s.imageGuarded a = true) : s.classify .processor a = .drop .guard .image a.at none := by
  rw [State.classify, if_neg (by simp [State.overlaid_processor h]), romBase_eq, if_neg (Nat.not_le.mpr hr),
    if_neg (Nat.not_le.mpr hm), if_pos hg]

/-- An access that no check before the window check matches goes to the Power Unit at the rest address, else to the window
check. -/
theorem State.classify_windows (h : s.ReachesWindows a) : s.classify .processor a =
    if s.restAddress = some a.at then if a.op = .readWord then .hold .rest else .pass .plain
    else s.windowTreatment .processor a := by
  have guard : ¬ s.imageGuarded a = true := fun k => h.image (State.imageGuarded_iff.mp k)
  rw [State.classify, if_neg (by simp [State.overlaid_processor h.overlay]), romBase_eq, if_neg (Nat.not_le.mpr h.rom),
    if_neg (Nat.not_le.mpr h.memory), if_neg guard]
  exact if_congr (and_iff_right rfl) rfl rfl

theorem State.classify_rest (h : s.ReachesWindows a) (hr : s.restAddress = some a.at) :
    s.classify .processor a = if a.op = .readWord then .hold .rest else .pass .plain := by
  rw [State.classify_windows h, if_pos hr]

/-! ### The window check (R8 to R10) -/

theorem State.classify_outside_windows (h : s.ReachesWindows a) (hr : s.restAddress ≠ some a.at)
    (hw : s.windowAt a.at = none) : s.classify .processor a = .pass .plain := by
  rw [State.classify_windows h, if_neg hr, State.windowTreatment, hw]

section
variable {e : Fin 8} (h : s.ReachesWindows a) (hr : s.restAddress ≠ some a.at) (hw : s.windowAt a.at = some e)
include h hr hw

theorem State.classify_guard (hk : s.windows[e].kind = .guard) :
    s.classify .processor a = if opIsWrite a.op then .drop .guard .window a.at none else .pass .plain := by
  simp only [State.classify_windows h, if_neg hr, State.windowTreatment, hw, hk]

theorem State.classify_orders (hk : s.windows[e].kind = .orders) :
    s.classify .processor a = s.ordersTreatment .processor (a.at - s.windows[e].base) := by
  simp only [State.classify_windows h, if_neg hr, State.windowTreatment, hw, hk]

theorem State.classify_reports (hk : s.windows[e].kind = .reports) :
    s.classify .processor a = s.reportsTreatment a (a.at - s.windows[e].base) := by
  simp only [State.classify_windows h, if_neg hr, State.windowTreatment, hw, hk]

theorem State.classify_band (hk : s.windows[e].kind = .band) : s.classify .processor a = s.bandTreatment a := by
  simp only [State.classify_windows h, if_neg hr, State.windowTreatment, hw, hk]

end

theorem State.ordersTreatment_eq (offset : Nat) : s.ordersTreatment .processor offset =
    if offset / 16 < s.intake.slots.length ∧ (s.intake.slot (offset / 16)).state = .fetching
    then .hold (.slot (offset / 16)) else .pass .plain := by
  unfold State.ordersTreatment slotOf
  by_cases hs : offset / 16 < s.intake.slots.length
  · simp only [hs, if_true, true_and]
  · simp only [hs, if_false, false_and]

theorem State.reportsTreatment_eq (offset : Nat) : s.reportsTreatment a offset =
    if offset / 16 < s.reports.count ∧ opIsWrite a.op = true ∧ s.reports.unconsumedSlot (offset / 16) = true
    then .drop .guard .reportSlot a.at none else .pass .plain := by
  unfold State.reportsTreatment slotOf
  by_cases hs : offset / 16 < s.reports.count
  · simp only [hs, if_true, true_and]
  · simp only [hs, if_false, false_and]

theorem State.bandTreatment_outside_lines (h : s.bandPlace a.at = none) : s.bandTreatment a = .pass .plain := by
  simp only [State.bandTreatment, h]

section
variable {b : Fin 4} {line offset : Nat} (h : s.bandPlace a.at = some (b, line, offset))
include h

theorem State.bandTreatment_pass {obs : Obs} (hj : s.bands[b].judge b line offset a.op = .pass obs) :
    s.bandTreatment a = .pass (.band b (some obs)) := by
  simp only [State.bandTreatment, h, hj]

theorem State.bandTreatment_hold (hj : s.bands[b].judge b line offset a.op = .hold) :
    s.bandTreatment a = .hold (.line b line) := by
  simp only [State.bandTreatment, h, hj]

end

/-! ### Dropped, forwarded, held -/

section
variable {t : HoldTimer}

theorem State.presentCpu_drop {code : PassageCode} {reason : GuardReason} {addr : Nat} {data : Option Word}
    (h : s.classify .processor a = .drop code reason addr data) :
    s.presentCpu a t = (s.completeCpu a data).raiseFault ⟨code, reason, .processor, a.op, addr, 0⟩ := by
  simp only [State.presentCpu, h]

theorem State.presentCpu_pass {path : Path} (h : s.classify .processor a = .pass path) :
    s.presentCpu a t = s.withCpu (some ⟨a, .passing path, t.stop⟩) := by
  simp only [State.presentCpu, h]

theorem State.presentCpu_hold {why : HoldReason} (h : s.classify .processor a = .hold why) :
    s.presentCpu a t = s.holdCpu a why t := by
  simp only [State.presentCpu, h]

/-- A hold on a band line with a limit runs the hold timer. -/
theorem State.holdCpu_line_timed {b : Fin 4} {line : Nat} (h : t.limit s.bands[b].holdLimit ≠ 0) :
    s.holdCpu a (.line b line) t = s.withCpu (some ⟨a, .held (.line b line), .running (t.limit s.bands[b].holdLimit)⟩) :=
  if_neg h

/-- A hold on a band line with a limit of 0 expires at once. -/
theorem State.holdCpu_line_expires {b : Fin 4} {line : Nat} (h : t.limit s.bands[b].holdLimit = 0) :
    s.holdCpu a (.line b line) t = s.expireHold ⟨a, .held (.line b line), t⟩ b :=
  if_pos h

theorem State.endHold_write {x : CpuAccess} (h : opIsWrite x.acc.op = true) : s.endHold x = s.completeCpu x.acc none :=
  if_pos h

theorem State.endHold_read {x : CpuAccess} (h : opIsWrite x.acc.op = false) :
    s.endHold x = s.withCpu (some { x with status := .completing, timer := .unused }) := if_neg (by simp [h])

theorem State.expireHold_write {x : CpuAccess} {b : Fin 4} (h : opIsWrite x.acc.op = true) : s.expireHold x b
    = (s.completeCpu x.acc none).raiseFault ⟨.holdExpired, .noReason, .processor, x.acc.op, x.acc.at, b.val⟩ := by
  rw [State.expireHold, State.endHold_write h]

theorem State.expireHold_read {x : CpuAccess} {b : Fin 4} (h : opIsWrite x.acc.op = false) : s.expireHold x b
    = (s.withCpu (some ⟨x.acc, .completing, .unused⟩)).raiseFault
      ⟨.holdExpired, .noReason, .processor, x.acc.op, x.acc.at, b.val⟩ := by
  rw [State.expireHold, State.endHold_read h]

end

/-! ### PROCESSOR_ACCESS -/

section
variable {addr : Addr} {op : AccessOp}

theorem exec_processorAccess_outside (h : outsidePart addr.toNat = true) :
    exec (.processorAccess addr op) s = .next s := if_neg (by simp [h])

variable (free : s.busFree = true) (inside : outsidePart addr.toNat = false)
include free inside

theorem exec_processorAccess :
    exec (.processorAccess addr op) s = finish (s.presentCpu ⟨addr.toNat, op⟩ .unused) :=
  if_pos ⟨free, by simp [inside]⟩

theorem leads_access_drop {code : PassageCode} {reason : GuardReason} {at' : Nat} {data : Option Word}
    (h : s.classify .processor ⟨addr.toNat, op⟩ = .drop code reason at' data) :
    Leads (.processorAccess addr op) s
      ((s.withPassage { s.passage with cpu := none, reply := some ⟨⟨addr.toNat, op⟩, data⟩ }).raiseFault
        ⟨code, reason, .processor, op, at', 0⟩) :=
  leads_of_finish ((exec_processorAccess free inside).trans (congrArg finish (State.presentCpu_drop h)))

theorem leads_access_pass {path : Path} (h : s.classify .processor ⟨addr.toNat, op⟩ = .pass path) :
    Leads (.processorAccess addr op) s
      (s.withPassage { s.passage with cpu := some ⟨⟨addr.toNat, op⟩, .passing path, .unused⟩ }) :=
  leads_of_finish ((exec_processorAccess free inside).trans (congrArg finish (State.presentCpu_pass h)))

theorem leads_access_hold {why : HoldReason} (h : s.classify .processor ⟨addr.toNat, op⟩ = .hold why) :
    Leads (.processorAccess addr op) s (s.holdCpu ⟨addr.toNat, op⟩ why .unused) :=
  leads_of_finish ((exec_processorAccess free inside).trans (congrArg finish (State.presentCpu_hold h)))

end

/-- Settles O18: the four checks that drop, in their order. -/
theorem checksDropAccesses : Obligations.ChecksDropAccesses := by
  intro s addr op free inside
  refine ⟨?overlay, ?rom, ?memory, ?image⟩
  case overlay =>
    intro ho hw
    exact leads_access_drop free inside ((State.classify_overlaid ho).trans (if_pos hw))
  case rom =>
    intro ho hr hw
    exact leads_access_drop free inside ((State.classify_rom ho hr).trans (if_pos hw))
  case memory =>
    intro ho hr hm
    have leads := leads_access_drop free inside (State.classify_noMemory ho hr hm)
    cases op <;> exact leads
  case image =>
    intro ho hr hm shadow guard hw hi
    exact leads_access_drop free inside
      (State.classify_image ho hr hm (State.imageGuarded_iff.mpr ⟨shadow, guard, hw, hi⟩))

/-! ### What is asked in the same event (R21) -/

theorem State.cpuForward_none (h : s.passage.cpu = none) : s.cpuForward = false := by simp only [State.cpuForward, h]

theorem State.cpuForward_held {y : CpuAccess} {why : HoldReason} (h : s.passage.cpu = some y) (hs : y.status = .held why) :
    s.cpuForward = false := by
  simp only [State.cpuForward, h, hs]

theorem State.cpuForward_passing {y : CpuAccess} (h : s.passage.cpu = some y) (hs : ∀ why, y.status ≠ .held why) :
    s.cpuForward = true := by
  unfold State.cpuForward
  rw [h]
  cases hy : y.status with
  | held why => exact absurd hy (hs why)
  | passing path => simp only [hy]
  | completing => simp only [hy]

theorem State.processorGranted_eq_false (h1 : ∀ obs, s.port.grant ≠ some (.processor obs))
    (h2 : s.port.grant ≠ some .wakeWord) : s.processorGranted = false := by
  unfold State.processorGranted
  split
  · next obs h => exact absurd h (h1 obs)
  · next h => exact absurd h h2
  · rfl

/-- With the claim free a wake word that is still to be written is asked. -/
theorem State.processorAsk_wakeWord (hr : s.port.procReq = none) (hg : s.processorGranted = false)
    (hw : s.power.wakeWrites ≠ []) : s.processorAsk = some .wakeWord := by
  simp [State.processorAsk, hr, hg, hw]

/-- With the claim free and no wake word to be written the processor's access is asked, if it is to be forwarded. -/
theorem State.processorAsk_access (hr : s.port.procReq = none) (hg : s.processorGranted = false)
    (hw : s.power.wakeWrites = []) : s.processorAsk = if s.cpuForward then some .access else none := by
  simp [State.processorAsk, hr, hg, hw]

@[simp] theorem State.raiseFault_port (f : PassageFault) : (s.raiseFault f).port = s.port :=
  State.port_of_besideReports (s.raiseFault_besideReports f)
@[simp] theorem State.raiseFault_power (f : PassageFault) : (s.raiseFault f).power = s.power :=
  State.power_of_besideReports (s.raiseFault_besideReports f)

@[simp] theorem State.expireHold_port (x : CpuAccess) (b : Fin 4) : (s.expireHold x b).port = s.port := by
  unfold State.expireHold State.endHold; split <;> simp [State.completeCpu, State.withCpu]
@[simp] theorem State.expireHold_power (x : CpuAccess) (b : Fin 4) : (s.expireHold x b).power = s.power := by
  unfold State.expireHold State.endHold; split <;> simp [State.completeCpu, State.withCpu]
@[simp] theorem State.presentCpu_port (a : Access) (t : HoldTimer) : (s.presentCpu a t).port = s.port := by
  unfold State.presentCpu State.holdCpu; (repeat' split) <;> simp [State.completeCpu, State.withCpu]
@[simp] theorem State.presentCpu_power (a : Access) (t : HoldTimer) : (s.presentCpu a t).power = s.power := by
  unfold State.presentCpu State.holdCpu; (repeat' split) <;> simp [State.completeCpu, State.withCpu]

/-- Settles O19: the paths without the Window Table, and the request that follows. -/
theorem checksForwardAccesses : Obligations.ChecksForwardAccesses := by
  intro s addr op
  refine ⟨exec_processorAccess_outside, fun free inside => ⟨?overlay, ?rom, ?plain, ?rest, ?asked⟩⟩
  case overlay =>
    intro ho hw
    exact leads_access_pass free inside ((State.classify_overlaid ho).trans (if_neg (by simp [hw])))
  case rom =>
    intro ho hr hw
    exact leads_access_pass free inside ((State.classify_rom ho hr).trans (if_neg (by simp [hw])))
  case plain =>
    intro reaches hr hw
    exact leads_access_pass free inside (State.classify_outside_windows reaches hr hw)
  case rest =>
    intro reaches hr
    have classified := State.classify_rest reaches hr
    split
    · next read => exact leads_access_hold free inside (classified.trans (if_pos read))
    · next other => exact leads_access_pass free inside (classified.trans (if_neg other))
  case asked =>
    intro req noAccess noWake
    have run := exec_processorAccess (op := op) free inside
    obtain ⟨t, ht, f⟩ := leads_of_finish run
    obtain rfl : _ = t := Host.Outcome.next.inj (run.symm.trans ht)
    generalize hv : s.presentCpu ⟨addr.toNat, op⟩ .unused = v at *
    have port : v.port = s.port := hv ▸ State.presentCpu_port ..
    have power : v.power = s.power := hv ▸ State.presentCpu_power ..
    have hr : v.port.procReq = none := port ▸ req
    have hg : v.processorGranted = false := State.processorGranted_eq_false (port ▸ noAccess) (port ▸ noWake)
    refine ⟨v.settle, ht, fun hw => ?_, fun hw => ⟨fun hc => ?_, fun y hy => ⟨?_, fun hs => ?_⟩⟩⟩
    · rw [State.settle_procReq, State.processorAsk_wakeWord hr hg (power ▸ hw)]
    · rw [State.settle_procReq, State.processorAsk_access hr hg (power ▸ hw), State.cpuForward_none (f.cpu ▸ hc)]
      rfl
    · rintro ⟨why, hs⟩
      rw [State.settle_procReq, State.processorAsk_access hr hg (power ▸ hw), State.cpuForward_held (f.cpu ▸ hy) hs]
      rfl
    · rw [State.settle_procReq, State.processorAsk_access hr hg (power ▸ hw), State.cpuForward_passing (f.cpu ▸ hy) hs]
      rfl

/-- Settles O20: the treatment by the kind of the window, and in a band's lines by the judgement. -/
theorem windowsTreatAccesses : Obligations.WindowsTreatAccesses := by
  intro s addr op e free inside a waiting dropped slot reaches hr hw
  refine ⟨?guard, ?orders, ?reports, ?outsideLines, ?band⟩
  case guard =>
    intro hk
    have classified := State.classify_guard reaches hr hw hk
    split
    · next write => exact leads_access_drop free inside (classified.trans (if_pos write))
    · next read => exact leads_access_pass free inside (classified.trans (if_neg read))
  case orders =>
    intro hk
    have classified := (State.classify_orders reaches hr hw hk).trans (State.ordersTreatment_eq _)
    split
    · next fetching => exact leads_access_hold free inside (classified.trans (if_pos fetching))
    · next other => exact leads_access_pass free inside (classified.trans (if_neg other))
  case reports =>
    intro hk
    have classified := (State.classify_reports reaches hr hw hk).trans (State.reportsTreatment_eq _)
    split
    · next unconsumed => exact leads_access_drop free inside (classified.trans (if_pos unconsumed))
    · next other => exact leads_access_pass free inside (classified.trans (if_neg other))
  case outsideLines =>
    intro hk hp
    exact leads_access_pass free inside
      ((State.classify_band reaches hr hw hk).trans (State.bandTreatment_outside_lines hp))
  case band =>
    intro hk b line offset hp
    have classified := State.classify_band reaches hr hw hk
    refine ⟨fun obs hj => ?pass, fun hj limit => ?held, fun hj zero write => ?expiredWrite, fun hj zero read => ?expiredRead⟩
    case pass => exact leads_access_pass free inside (classified.trans (State.bandTreatment_pass hp hj))
    all_goals have leads := leads_access_hold free inside (classified.trans (State.bandTreatment_hold hp hj))
    case held =>
      rw [State.holdCpu_line_timed (t := .unused) limit] at leads
      exact leads
    case expiredWrite =>
      rw [State.holdCpu_line_expires (t := .unused) zero, State.expireHold_write write] at leads
      exact leads
    case expiredRead =>
      rw [State.holdCpu_line_expires (t := .unused) zero, State.expireHold_read read] at leads
      exact leads

/-! ### ACCESS_HOLD_EXPIRY (R17) -/

theorem leads_accessHoldExpiry {x : CpuAccess} {b : Fin 4} {line limit : Nat} (hx : s.passage.cpu = some x)
    (hs : x.status = .held (.line b line)) (ht : x.timer = .running limit) :
    Leads .accessHoldExpiry s (s.expireHold x b) := by
  have timed : s.timedHold = some (x, b) := by simp only [State.timedHold, hx, hs, ht]
  have run : execAccessHoldExpiry s = finish (s.expireHold x b) := by simp only [execAccessHoldExpiry, timed]
  exact leads_of_finish run

/-- Settles O21: the end of the hold of a write and of a read. -/
theorem holdExpiryEndsTheHold : Obligations.HoldExpiryEndsTheHold := by
  intro s x b line limit hx hs ht
  have leads := leads_accessHoldExpiry hx hs ht
  refine ⟨fun write => ?_, fun read => ?_⟩
  · rw [State.expireHold_write write] at leads
    exact leads
  · rw [State.expireHold_read read] at leads
    exact leads

end Sys2Proof.Machine
end

section
/-! The end of the processor's grant (R1, R21): the access completes, and the Band Unit, the Intake and the Report Unit
observe it (R27, R43, R57, R58). -/

namespace Sys2Proof.Machine

open Sys2Proof

variable {s t : State} {x : CpuAccess} {obs : Obs}

/-! ### What the access returned and stored -/

/-- What a read of an access that is not of ROM returns. -/
theorem State.cpuData_dram (h : ∀ offset, x.status ≠ .passing (.rom offset)) : s.cpuData x = s.dramData x.acc := by
  unfold State.cpuData
  split
  · next offset hs => exact absurd hs (h offset)
  all_goals rfl

theorem State.cpuData_rom {offset : Nat} (h : x.status = .passing (.rom offset)) :
    s.cpuData x = s.romData x.acc offset := by
  simp only [State.cpuData, h]

/-- A read writes no byte, a write those of its access. -/
theorem State.cpuTransfers_flatten (h : s.passage.cpu = some x) : s.cpuTransfers.flatten = x.acc.bytes := by
  simp only [State.cpuTransfers, h]
  cases hop : x.acc.op <;> simp [opIsWrite, Access.bytes, hop]

theorem State.endGrant_processor (h : s.passage.cpu = some x) :
    s.endGrant (.processor obs) = (s.store x.acc.bytes).freePort := by
  rw [State.endGrant, State.grantTransfers, State.cpuTransfers_flatten h]

/-- The state in which a grant of the processor's access is observed: its bytes written, the access complete. -/
def State.accessDone (s : State) (x : CpuAccess) : State :=
  ((s.store x.acc.bytes).freePort).completeCpu x.acc (s.cpuData x)

theorem exec_processorGrantEnd (hg : s.port.grant = some (.processor obs)) (hx : s.passage.cpu = some x) :
    exec .processorGrantEnd s
      = finish (((s.accessDone x).observeCpu x).applyObs obs .processor x.acc.op x.acc.at) := by
  change execProcessorGrantEnd s = _
  simp only [execProcessorGrantEnd, hg, hx, State.endGrant_processor hx]
  rfl

/-! ### The bus stays free -/

/-- The processor has no access, and its last one was answered so. -/
def State.Answered (s : State) (r : Option Reply) : Prop := s.passage.cpu = none ∧ s.passage.reply = r

section
variable {r : Option Reply}

theorem State.Answered.beside (h : s.Answered r) (e : t.besideReports = s.besideReports) : t.Answered r :=
  ⟨(State.cpu_of_besideReports e).trans h.1, (State.reply_of_besideReports e).trans h.2⟩

theorem State.Answered.withLines (h : s.Answered r) (b : Fin 4) (y : Band) : (s.withLines b y).Answered r := by
  refine ⟨?_, h.2⟩
  change s.passage.cpu.map _ = none
  rw [h.1]
  rfl

theorem State.Answered.withCount (h : s.Answered r) (b : Fin 4) (y : Band) (up : Bool) : (s.withCount b y up).Answered r := by
  unfold State.withCount
  split
  · exact h.withLines _ _
  · exact (h.withLines _ _).beside (State.offerNotice_besideReports ..)

theorem State.Answered.observeCpu (h : s.Answered r) (x : CpuAccess) : (s.observeCpu x).Answered r := by
  unfold State.observeCpu State.observeHead
  (repeat' split) <;> first
    | exact ⟨h.1, h.2⟩
    | exact h.beside (State.raiseFault_besideReports ..)

theorem State.Answered.resumeP (h : s.Answered r) (b : Fin 4) : (s.resumeP b).Answered r := by
  unfold State.resumeP State.emitProceed State.tryLatch
  (repeat' split) <;> exact ⟨h.1, h.2⟩

theorem State.Answered.beginLine (h : s.Answered r) (p : CaptureParams) (q : CaptureRecord) :
    (s.beginLine p q).Answered r := by
  unfold State.beginLine
  split
  · exact State.Answered.withLines ⟨h.1, h.2⟩ _ _
  · exact ⟨h.1, h.2⟩

theorem State.Answered.captureProceed (h : s.Answered r) (p : CaptureParams) (q : CaptureRecord) (level : Nat) :
    (s.captureProceed p q level).Answered r := by
  unfold State.captureProceed
  generalize ({ s.chanD with k := level }.enterMoving _) = c
  have moved : (s.withChanD c).Answered r := ⟨h.1, h.2⟩
  exact moved.beginLine _ _

theorem State.Answered.resumeD (h : s.Answered r) (b : Fin 4) : (s.resumeD b).Answered r := by
  unfold State.resumeD
  (repeat' split) <;> first
    | exact h
    | exact h.captureProceed _ _ _

theorem State.Answered.applyObs (h : s.Answered r) (obs : Obs) (who : Requester) (op : AccessOp) (addr : Nat) :
    (s.applyObs obs who op addr).Answered r := by
  unfold State.applyObs
  (repeat' split) <;> first
    | exact h
    | exact (h.withCount _ _ _).resumeP _
    | exact (h.withCount _ _ _).resumeD _
    | exact h.beside (State.raiseFault_besideReports ..)

end

@[simp] theorem State.observeCpu_port (x : CpuAccess) : (s.observeCpu x).port = s.port := by
  unfold State.observeCpu State.observeHead
  (repeat' split) <;> first
    | rfl
    | exact State.raiseFault_port _

/-! ### A channel that is not paused does not resume -/

theorem State.resumeP_of_not_paused {b : Fin 4}
    (h : ∀ p r, s.emitNow = some (p, r) → p.band = b → s.chanP.state ≠ .paused) : s.resumeP b = s := by
  unfold State.resumeP
  split
  · next p r hn => exact if_neg fun k => h p r hn k.2.1 k.1
  · rfl

theorem State.resumeD_of_not_paused {b : Fin 4}
    (h : ∀ p r, s.captureNow = some (p, r) → p.band = b → s.chanD.state ≠ .paused) : s.resumeD b = s := by
  unfold State.resumeD
  split
  · next p r hn => exact if_neg fun k => h p r hn k.2.1 k.1
  · rfl

theorem State.emitNow_congr (hi : t.intake = s.intake) (he : t.emit = s.emit) : t.emitNow = s.emitNow := by
  simp only [State.emitNow, State.activeWork, State.running, hi, he]

theorem State.captureNow_congr (hi : t.intake = s.intake) (hc : t.capture = s.capture) : t.captureNow = s.captureNow := by
  simp only [State.captureNow, State.activeWork, State.running, hi, hc]

section
variable (b : Fin 4) (y : Band) (up : Bool)

theorem State.withCount_beside :
    (s.withCount b y up).besideReports = (s.withLines b (y.noticeTest up).1).besideReports := by
  unfold State.withCount
  split <;> simp

@[simp] theorem State.withCount_intake : (s.withCount b y up).intake = s.intake := by
  unfold State.withCount
  split <;> simp

@[simp] theorem State.withCount_chanD : (s.withCount b y up).chanD = s.chanD :=
  (State.chanD_of_besideReports (State.withCount_beside ..) :)
@[simp] theorem State.withCount_chanP : (s.withCount b y up).chanP = s.chanP :=
  (State.chanP_of_besideReports (State.withCount_beside ..) :)
@[simp] theorem State.withCount_emit : (s.withCount b y up).emit = s.emit :=
  (State.emit_of_besideReports (State.withCount_beside ..) :)
@[simp] theorem State.withCount_capture : (s.withCount b y up).capture = s.capture :=
  (State.capture_of_besideReports (State.withCount_beside ..) :)

@[simp] theorem State.withCount_emitNow : (s.withCount b y up).emitNow = s.emitNow :=
  State.emitNow_congr (State.withCount_intake ..) (State.withCount_emit ..)
@[simp] theorem State.withCount_captureNow : (s.withCount b y up).captureNow = s.captureNow :=
  State.captureNow_congr (State.withCount_intake ..) (State.withCount_capture ..)

end

/-! ### The observation of the Band Unit (R57, R58, R65) -/

section
variable {b : Fin 4} {line addr : Nat} {who : Requester} {op : AccessOp}

theorem State.applyObs_fill (hr : s.bands[b].role = .emit) (hl : line = s.bands[b].f)
    (room : s.bands[b].c + s.bands[b].filling < s.bands[b].lines)
    (quiet : ∀ p r, s.emitNow = some (p, r) → p.band = b → s.chanP.state ≠ .paused) :
    s.applyObs (.fill b line) who op addr = s.withCount b
      { s.bands[b] with c := s.bands[b].c + 1, f := (s.bands[b].f + 1) % s.bands[b].lines } true := by
  have c_lt : s.bands[b].c < s.bands[b].lines := by omega
  have fits : s.bands[b].role = .emit ∧ line = s.bands[b].f ∧ s.bands[b].c < s.bands[b].lines := ⟨hr, hl, c_lt⟩
  rw [State.applyObs, if_pos fits, Band.fill_of room, State.resumeP_of_not_paused (by simpa using quiet)]

theorem State.applyObs_fill_not_made (h : s.bands[b].role ≠ .emit ∨ line ≠ s.bands[b].f ∨ s.bands[b].lines ≤ s.bands[b].c) :
    s.applyObs (.fill b line) who op addr = s := by
  rw [State.applyObs, if_neg]
  rintro ⟨hr, hl, hc⟩
  exact h.elim (· hr) fun k => k.elim (· hl) (Nat.not_le.mpr hc)

theorem State.applyObs_drain (hr : s.bands[b].role = .capture) (hl : line = s.bands[b].d)
    (ready : s.bands[b].draining < s.bands[b].c)
    (quiet : ∀ p r, s.captureNow = some (p, r) → p.band = b → s.chanD.state ≠ .paused) :
    s.applyObs (.drain b line) who op addr = s.withCount b
      { s.bands[b] with c := s.bands[b].c - 1, d := (s.bands[b].d + 1) % s.bands[b].lines } false := by
  have fits : s.bands[b].role = .capture ∧ line = s.bands[b].d ∧ 0 < s.bands[b].c := ⟨hr, hl, by omega⟩
  rw [State.applyObs, if_pos fits, Band.drain_of ready, State.resumeD_of_not_paused (by simpa using quiet)]

theorem State.applyObs_drain_not_made (h : s.bands[b].role ≠ .capture ∨ line ≠ s.bands[b].d ∨ s.bands[b].c = 0) :
    s.applyObs (.drain b line) who op addr = s := by
  rw [State.applyObs, if_neg]
  rintro ⟨hr, hl, hc⟩
  exact h.elim (· hr) fun k => k.elim (· hl) (Nat.ne_of_gt hc)

end

/-- Only an access that passed plain is observed by the Intake and the Report Unit. -/
theorem State.observeCpu_not_plain (h : x.status ≠ .passing .plain) : s.observeCpu x = s := if_neg h

/-- Settles O22: what the access returned and stored, then the four observations of an access given to the Band Unit. -/
theorem grantEndCompletesTheAccess : Obligations.GrantEndCompletesTheAccess := by
  intro s obs x hg hx
  have run := exec_processorGrantEnd hg hx
  refine ⟨?completes, ?observed⟩
  case completes =>
    obtain ⟨t, ht, f⟩ := leads_of_finish run
    have done : (s.accessDone x).Answered (some ⟨x.acc, s.cpuData x⟩) := ⟨rfl, rfl⟩
    obtain ⟨free, answer⟩ := (done.observeCpu x).applyObs obs .processor x.acc.op x.acc.at
    have kept := State.applyObs_kept (s := (s.accessDone x).observeCpu x) obs .processor x.acc.op x.acc.at
    have outside : t.outside = (s.accessDone x).outside := by rw [f.outside]; simp
    have hdram : t.dram = Memory.writeAll s.dram x.acc.bytes := congrArg Outside.dram outside
    refine ⟨t, ht, f.cpu.trans free, ?grant, ?dram, ?rom, ?stored⟩
    case grant => exact f.grant.trans ((congrArg Kept.grant kept :).trans (congrArg Port.grant (State.observeCpu_port x) :))
    case dram =>
      intro hs
      rw [f.reply, answer, State.cpuData_dram hs]
      cases hop : x.acc.op <;> simp only [State.dramData, hop]
    case rom =>
      intro offset hs
      rw [f.reply, answer, State.cpuData_rom hs]
      cases hop : x.acc.op <;> simp only [State.romData, hop]
    case stored =>
      rw [hdram]
      cases hop : x.acc.op <;> simp only [Access.bytes, hop] <;> rfl
  case observed =>
    rintro ⟨b0, judged, hs⟩ data stored v
    have data_eq : s.cpuData x = data := by
      rw [State.cpuData_dram (by simp [hs])]
      cases hop : x.acc.op <;> simp only [State.dramData, data, hop]
    have stored_eq : x.acc.bytes = stored := by
      cases hop : x.acc.op <;> simp only [Access.bytes, stored, hop]
    have done : s.accessDone x = v := by
      rw [State.accessDone, data_eq, stored_eq]
      rfl
    rw [State.observeCpu_not_plain (by simp [hs]), done] at run
    have bands : v.bands = s.bands := rfl
    have emits : v.emitNow = s.emitNow := rfl
    have captures : v.captureNow = s.captureNow := rfl
    have chanP : v.chanP = s.chanP := rfl
    have chanD : v.chanD = s.chanD := rfl
    rw [← bands, ← emits, ← captures, ← chanP, ← chanD]
    clear_value v
    refine ⟨?nothing, ?fill, ?drain, ?order⟩
    case nothing =>
      rintro rfl
      exact leads_of_finish run
    case fill =>
      rintro b line rfl
      refine ⟨fun hr hl room quiet => ?_, fun h => ?_⟩
      · rw [State.applyObs_fill hr hl room quiet] at run
        exact leads_of_finish run
      · rw [State.applyObs_fill_not_made h] at run
        exact leads_of_finish run
    case drain =>
      rintro b line rfl
      refine ⟨fun hr hl ready quiet => ?_, fun h => ?_⟩
      · rw [State.applyObs_drain hr hl ready quiet] at run
        exact leads_of_finish run
      · rw [State.applyObs_drain_not_made h] at run
        exact leads_of_finish run
    case order =>
      rintro b rfl
      exact leads_of_finish run

end Sys2Proof.Machine
end

section
/-! The head words (R27, R43): a posting and a consumption as the grant of the processor's access ends, and the slot that the
Intake then begins to take (R29, R37, R38). -/

namespace Sys2Proof.Machine

open Sys2Proof

variable {s t : State}

/-! ### A posting (R27) -/

/-- The head word of a slot is observed there: a posting takes a FREE slot, and finds any other busy. -/
theorem State.observeHead_eq {i addr : Nat} {w : Word} (ho : s.hasOrders = true) (hi : i < s.intake.slots.length)
    (ha : addr = s.slotAddr i) : s.observeHead addr w = if bits w 5 4 = 1 then
      if (s.intake.slot i).state = .free then s.withSlot i { state := .posted, kind := some (w.extractLsb' 8 8), early := false }
      else s.raiseFault ⟨.slotBusy, .noReason, .processor, .writeWord w, addr, 0⟩
    else s := by
  subst ha
  have offset : s.slotAddr i - s.windows[0].base = 16 * i := by rw [State.slotAddr]; omega
  have slot : slotOf s.intake.slots.length (16 * i) = some i := by
    rw [slotOf, if_pos (by omega)]
    congr 1
    omega
  have low : s.windows[0].base ≤ s.slotAddr i := by rw [State.slotAddr]; omega
  unfold State.observeHead
  rw [offset, slot]
  simp only [ho, low, headPosts, Nat.mul_mod_right, true_and, decide_eq_true_eq]
  rfl

/-! ### A take (R29, R38) -/

/-- The Intake in WAITING with no order in hand begins to take slot N where it is POSTED. -/
theorem State.settleTake_next (ho : s.hasOrders = true) (hh : s.intake.inHand = none) (hs : s.intake.state = .waiting)
    (hp : (s.intake.slot s.intake.next).state = .posted) : s.settleTake = s.takeSlot s.intake.next false := by
  simp only [State.settleTake, ho, hh, hs, hp, Bool.not_true, Bool.false_eq_true, if_false, if_true]

/-- The Intake in DISPATCH_WAIT with no order in hand begins to take the urgent slot that the scan finds. -/
theorem State.settleTake_urgent {i : Nat} (ho : s.hasOrders = true) (hh : s.intake.inHand = none)
    (hs : s.intake.state = .dispatchWait) (hu : s.intake.urgentSlot = some i) : s.settleTake = s.takeSlot i true := by
  simp only [State.settleTake, ho, hh, hs, hu, Bool.not_true, Bool.false_eq_true, if_false]

@[simp] theorem State.settleIntake_inHand (s : State) : s.settleIntake.intake.inHand = s.intake.inHand := by
  unfold State.settleIntake State.requestFetch
  (repeat' split) <;> dsimp only <;> (repeat' split) <;> rfl

/-- The body fetch of an order to be fetched is asked, its slot FETCHING, with the request free and no final write that
waits. -/
theorem State.settleIntake_fetch {h : InHand} (hr : s.port.intakeReq = none) (hg : s.intakeGranted = false)
    (hw : s.intake.finalWrites = []) (hh : s.intake.inHand = some h) (hs : h.stage = .fetch) :
    s.settleIntake = s.requestFetch h := by
  have job : s.intake.nextJob = some .fetch := by simp only [Intake.nextJob, hw, hh, hs]
  simp only [State.settleIntake, hr, hg, job, hh, Option.isNone_none, Bool.not_false, Bool.and_self, if_true]

theorem State.requestFetch_posted {h : InHand} (hp : (s.intake.slot h.slot).state = .posted) :
    ((s.requestFetch h).intake.slot h.slot).state = .fetching ∧ (s.requestFetch h).intake.state = .fetching
      ∧ (s.requestFetch h).port.intakeReq = some .fetch := by
  have lt := Intake.lt_of_posted hp
  rw [State.requestFetch, if_pos hp]
  refine ⟨?_, rfl, rfl⟩
  have set := s.intake.slot_withSlot h.slot h.slot { s.intake.slot h.slot with state := .fetching }
  rw [if_pos ⟨rfl, lt⟩] at set
  exact congrArg SlotRecord.state set

/-- With its request in use or a final write waiting the Intake requests no body fetch: the slots and its state stay. -/
theorem State.settleIntake_busy (h : s.port.intakeReq ≠ none ∨ s.intake.finalWrites ≠ []) :
    s.settleIntake.intake.slots = s.intake.slots ∧ s.settleIntake.intake.state = s.intake.state := by
  unfold State.settleIntake
  split
  · next free =>
    rw [Bool.and_eq_true, Option.isNone_iff_eq_none] at free
    split
    · exact ⟨rfl, rfl⟩
    · next hj hh => exact absurd (Intake.nextJob_fetch hj hh).1 (h.resolve_left (· free.1))
    · exact ⟨rfl, rfl⟩
    · exact ⟨rfl, rfl⟩
  · exact ⟨rfl, rfl⟩

theorem State.settleTake_slots (s : State) : s.settleTake.intake.slots = s.intake.slots
    ∧ s.settleTake.intake.state = s.intake.state ∧ s.settleTake.intake.finalWrites = s.intake.finalWrites := by
  unfold State.settleTake
  (repeat' split) <;> exact ⟨rfl, rfl, rfl⟩

/-- A step after which the Intake's request is in use or a final write waits leaves the slots and the intake state. -/
theorem State.settle_busy (h : s.port.intakeReq ≠ none ∨ s.intake.finalWrites ≠ []) :
    s.settle.intake.slots = s.intake.slots ∧ s.settle.intake.state = s.intake.state := by
  obtain ⟨i, ⟨q, w, rfl⟩, -, intake, -⟩ := s.settle_intake
  rw [intake]
  generalize hv : s.withIntake { s.intake with mQueue := q, finalWrites := s.intake.finalWrites ++ w } = v
  have slots : v.intake.slots = s.intake.slots := by rw [← hv]; rfl
  have state : v.intake.state = s.intake.state := by rw [← hv]; rfl
  have busy : v.settleTake.port.intakeReq ≠ none ∨ v.settleTake.intake.finalWrites ≠ [] := by
    rw [State.settleTake_port, (State.settleTake_slots v).2.2, ← hv]
    exact h.imp id fun k e => k (List.append_eq_nil_iff.mp e).1
  obtain ⟨slots', state', -⟩ := State.settleTake_slots v
  obtain ⟨slots'', state''⟩ := State.settleIntake_busy busy
  exact ⟨slots''.trans (slots'.trans slots), state''.trans (state'.trans state)⟩

/-! ### The scan for an urgent slot (R38) -/

/-- The places that the scan goes through: round from behind N to the slot before N. -/
theorem mem_scan_iff {next n i : Nat} (hn : next < n) :
    i ∈ (List.range (n - 1)).map (fun j => (next + 1 + j) % n) ↔ i < n ∧ i ≠ next := by
  simp only [List.mem_map, List.mem_range]
  constructor
  · rintro ⟨j, hj, rfl⟩
    refine ⟨Nat.mod_lt _ (by omega), ?_⟩
    rw [Nat.add_assoc, advance_eq hn (by omega)]
    split <;> omega
  · rintro ⟨hi, ne⟩
    rcases Nat.lt_or_ge i next with h | h
    · refine ⟨i + n - next - 1, by omega, ?_⟩
      rw [Nat.add_assoc, advance_eq hn (by omega)]
      split <;> omega
    · refine ⟨i - next - 1, by omega, ?_⟩
      rw [Nat.add_assoc, advance_eq hn (by omega)]
      split <;> omega

/-- A slot is POSTED with an urgent kind. -/
def SlotRecord.urgent (r : SlotRecord) : Bool := r.state = .posted && urgentKind r.kind

/-- Where the scan found nothing, an urgent posting at a slot other than N is what it then finds. -/
theorem Intake.urgentSlot_of_posting {i : Intake} {n : Nat} {r : SlotRecord} (none : i.urgentSlot = none)
    (hnext : i.next < i.slots.length) (hn : n < i.slots.length) (ne : n ≠ i.next) (urgent : r.urgent = true) :
    (i.withSlot n r).urgentSlot = some n := by
  have old : ∀ m ∈ (List.range (i.slots.length - 1)).map (fun j => (i.next + 1 + j) % i.slots.length),
      ¬ (i.slot m).urgent = true := List.find?_eq_none.mp none
  have length : (i.withSlot n r).slots.length = i.slots.length := List.length_set
  have found : (i.withSlot n r).urgentSlot
      = ((List.range (i.slots.length - 1)).map fun j => (i.next + 1 + j) % i.slots.length).find?
        fun m => ((i.withSlot n r).slot m).urgent := by
    unfold Intake.urgentSlot
    rw [length]
    rfl
  rw [found]
  have same : ((i.withSlot n r).slot n).urgent = true := by rw [Intake.slot_withSlot, if_pos ⟨rfl, hn⟩]; exact urgent
  have some' := List.find?_isSome (p := fun m => ((i.withSlot n r).slot m).urgent).mpr ⟨n, (mem_scan_iff hnext).mpr ⟨hn, ne⟩, same⟩
  obtain ⟨m, hm⟩ := Option.isSome_iff_exists.mp some'
  rw [hm]
  by_contra other
  have hmn : ¬ (n = m ∧ n < i.slots.length) := fun k => other (congrArg some k.1.symm)
  have urgent_m := List.find?_some hm
  rw [Intake.slot_withSlot, if_neg hmn] at urgent_m
  exact old m (List.mem_of_find?_eq_some hm) urgent_m

/-! ### A consumption (R43) -/

theorem State.consumes_iff {a : Access} : s.consumes a = true ↔ s.hasReports = true ∧ a.op = .readWord
    ∧ s.reports.unconsumed ≠ [] ∧ a.at = s.reportAddr s.reports.consume := by
  simp [State.consumes, and_assoc]

/-! ### The take that follows a posting -/

/-- The slot that a posting has just been made to, and what the Intake does with it in the same event. -/
theorem State.settle_takes {v : State} {i : Nat} {k : Byte} {urgent : Bool} (ho : v.hasOrders = true)
    (hh : v.intake.inHand = none) (hi : v.intake.slot i = { state := .posted, kind := some k, early := false })
    (takes : urgent = false ∧ v.intake.state = .waiting ∧ i = v.intake.next
      ∨ urgent = true ∧ v.intake.state = .dispatchWait ∧ v.intake.urgentSlot = some i) :
    v.settle.intake.inHand = some { slot := i, kind := k, body := [], urgent := urgent, stage := .fetch }
    ∧ (v.port.intakeReq = none → v.intakeGranted = false → v.intake.finalWrites = [] → v.moverFree = false →
      (v.settle.intake.slot i).state = .fetching ∧ v.settle.intake.state = .fetching
        ∧ v.settle.port.intakeReq = some .fetch) := by
  obtain ⟨j, ⟨q, w, rfl⟩, quiet, intake, request⟩ := v.settle_intake
  have taken : (v.withIntake { v.intake with mQueue := q, finalWrites := v.intake.finalWrites ++ w }).settleTake
      = (v.withIntake { v.intake with mQueue := q, finalWrites := v.intake.finalWrites ++ w }).takeSlot i urgent := by
    obtain ⟨rfl, hs, rfl⟩ | ⟨rfl, hs, hu⟩ := takes
    · exact State.settleTake_next ho hh hs (congrArg SlotRecord.state hi)
    · exact State.settleTake_urgent ho hh hs hu
  have kind : (v.intake.slot i).kind.getD 0 = k := by rw [hi]; rfl
  have hand : ((v.withIntake { v.intake with mQueue := q, finalWrites := v.intake.finalWrites ++ w }).takeSlot i
      urgent).intake.inHand = some { slot := i, kind := k, body := [], urgent := urgent, stage := .fetch } := by
    rw [← kind]
    rfl
  rw [intake, request, taken, State.settleIntake_inHand]
  refine ⟨hand, fun hr hg hw hf => ?_⟩
  have nothing : v.intake.finalWrites ++ w = [] := by
    rw [show v.intake.finalWrites ++ w = v.intake.finalWrites from congrArg Intake.finalWrites (quiet hf)]
    exact hw
  have fetches := State.settleIntake_fetch (s := (v.withIntake
    { v.intake with mQueue := q, finalWrites := v.intake.finalWrites ++ w }).takeSlot i urgent) hr hg nothing hand rfl
  rw [fetches]
  exact State.requestFetch_posted (congrArg SlotRecord.state hi)

theorem State.applyObs_nothing (who : Requester) (op : AccessOp) (addr : Nat) : s.applyObs .nothing who op addr = s := rfl

/-- PROCESSOR_GRANT_END of an access that passed plain. -/
theorem exec_plainGrantEnd {x : CpuAccess} (hg : s.port.grant = some (.processor .nothing)) (hx : s.passage.cpu = some x)
    (hs : x.status = .passing .plain) : exec .processorGrantEnd s = finish ((s.accessDone x).observeCpu x) ∧
    s.accessDone x = ((s.store x.acc.bytes).freePort).withPassage
      { s.passage with cpu := none, reply := some ⟨x.acc, s.dramData x.acc⟩ } := by
  refine ⟨by rw [exec_processorGrantEnd hg hx, State.applyObs_nothing], ?_⟩
  rw [State.accessDone, State.cpuData_dram (by simp [hs])]
  rfl

/-- Settles O23: the posting with its three outcomes, the take in the same event, and the consumption. -/
theorem headAccessesAreObserved : Obligations.HeadAccessesAreObserved := by
  refine ⟨?posting, ?consumption⟩
  case posting =>
    intro s x i w hg hx hs hop ho hi ha v
    obtain ⟨run, done⟩ := exec_plainGrantEnd hg hx hs
    have done : s.accessDone x = v := by
      rw [done, ← State.endGrant_processor (obs := .nothing) hx, State.dramData, hop]
    have observed : v.observeCpu x = v.observeHead x.acc.at w := by simp only [State.observeCpu, hs, hop, if_true]
    rw [done, observed, State.observeHead_eq (s := v) ho hi ha] at run
    refine ⟨fun posts free => ?posted, fun posts busy => ?busy, fun other => ?other, fun posts free idle => ?taken⟩
    case posted =>
      rw [if_pos posts, if_pos (by exact free)] at run
      exact leads_of_finish run
    case busy =>
      rw [if_pos posts, if_neg (by exact busy)] at run
      exact leads_of_finish run
    case other =>
      rw [if_neg other] at run
      exact leads_of_finish run
    case taken =>
      rw [if_pos posts, if_pos (by exact free)] at run
      obtain ⟨t, ht, f⟩ := leads_of_finish run
      obtain rfl : _ = t := Host.Outcome.next.inj (run.symm.trans ht)
      let r : SlotRecord := { state := .posted, kind := some (w.extractLsb' 8 8), early := false }
      have slot : (v.withSlot i r).intake.slot i = r :=
        (Intake.slot_withSlot s.intake i i r).trans (if_pos ⟨rfl, hi⟩)
      refine ⟨_, ht, fun urgent takes => ?_, fun busy => ?_⟩
      · have takes' : urgent = false ∧ s.intake.state = .waiting ∧ i = s.intake.next
            ∨ urgent = true ∧ s.intake.state = .dispatchWait ∧ (s.intake.withSlot i r).urgentSlot = some i := by
          refine takes.imp id ?_
          rintro ⟨hu, hw, ne, hn, none, kind⟩
          refine ⟨hu, hw, Intake.urgentSlot_of_posting none hn hi ne ?_⟩
          obtain kind | kind := kind <;> simp [r, SlotRecord.urgent, urgentKind, kind]
        obtain ⟨hand, fetch⟩ := State.settle_takes (v := v.withSlot i r) ho idle slot takes'
        refine ⟨hand, fun hr hw hf => fetch hr rfl hw ?_⟩
        have waits : s.moverFree = (v.withSlot i r).moverFree := by
          simp only [State.moverFree, State.moverGranted, hg]
          rfl
        rw [← waits]
        exact hf
      · obtain ⟨slots, state⟩ := State.settle_busy (s := v.withSlot i r) busy
        refine ⟨?_, state⟩
        have same : (v.withSlot i r).settle.intake.slot i = r :=
          (congrArg (·.getD i SlotRecord.reset) slots).trans slot
        exact congrArg SlotRecord.state same
  case consumption =>
    intro s x hg hx hs hop ho v
    obtain ⟨run, done⟩ := exec_plainGrantEnd hg hx hs
    have done : s.accessDone x = v := by
      rw [done, Access.bytes, State.dramData, hop]
      rfl
    have observed : v.observeCpu x = if v.consumes x.acc then v.consumeReport else v := by
      simp only [State.observeCpu, hs, hop, if_true]
    rw [done, observed] at run
    refine ⟨fun some at' => ?_, fun nothing => ?_⟩
    · rw [if_pos (State.consumes_iff (s := v).mpr ⟨ho, hop, some, at'⟩)] at run
      have leads := leads_of_finish run
      rw [State.consumeReport, List.drop_one] at leads
      exact leads
    · rw [if_neg fun k => ?_] at run
      · exact leads_of_finish run
      · obtain ⟨-, -, some, at'⟩ := State.consumes_iff.mp k
        exact nothing.elim some (· at')

end Sys2Proof.Machine
end

section
/-! The arbiter (R21 to R23, R65): the waiting request of highest claim, one equation per claim, and the grant that it makes. -/

namespace Sys2Proof.Machine

open Sys2Proof

variable {s : State}

/-! ### The claims with DRAM active (Table 1-5) -/

section Active
variable (active : s.port.dram = .active)
include active

theorem State.dramActive_of : s.dramActive = true := decide_eq_true active

theorem State.grantNext_refresh (due : s.port.refreshDue = true) : s.grantNext = s.grantRefresh := by
  simp [State.grantNext, State.refreshClaim, State.dramActive_of active, due]

omit active in
theorem State.grantNext_asked (not_due : s.port.refreshDue = false) (asked : s.port.selfAsked = true) : s.grantNext = s := by
  simp [State.grantNext, State.refreshClaim, not_due, asked]

section
variable (none1 : s.port.refreshDue = false ∧ s.port.selfAsked = false)
include none1

omit active in
theorem State.grantNext_fetch (claim : s.fetchClaim = true) : s.grantNext = s.grantFetch := by
  simp [State.grantNext, State.refreshClaim, none1, claim]

section
variable (none2 : s.fetchClaim = false)
include none2

theorem State.grantNext_capture {i : StoreId} (hr : s.port.captureReq = some i) :
    s.grantNext = s.withPort { s.port with captureReq := none, grant := some (.writeBack i) } := by
  simp [State.grantNext, State.refreshClaim, none1, none2, hr, State.dramActive_of active]

section
variable (none3 : s.port.captureReq = none)
include none3

omit active in
theorem State.grantNext_processor (claim : s.processorClaim = true) : s.grantNext = s.grantProcessor := by
  simp [State.grantNext, State.refreshClaim, none1, none2, none3, claim]

section
variable (none4 : s.port.procReq = none)
include none4

omit active none1 none2 none3 in
theorem State.processorClaim_none : s.processorClaim = false := by simp only [State.processorClaim, none4]

theorem State.grantNext_intake {job : IntakeJob} (hr : s.port.intakeReq = some job) :
    s.grantNext = s.withPort { s.port with intakeReq := none, grant := some (.intake job) } := by
  simp [State.grantNext, State.refreshClaim, none1, none2, none3, State.processorClaim_none none4, hr,
    State.dramActive_of active]

section
variable (none5 : s.port.intakeReq = none)
include none5

omit active in
theorem State.grantNext_report (claim : s.reportClaim = true) : s.grantNext = s.grantTo .report := by
  simp [State.grantNext, State.refreshClaim, none1, none2, none3, State.processorClaim_none none4,
    none5, claim]

section
variable (none6 : s.reportClaim = false)
include none6

theorem State.grantNext_mover {paths : List Path} (hr : s.port.moverReq = some paths) : s.grantNext = s.grantMover := by
  simp [State.grantNext, State.refreshClaim, none1, none2, none3, State.processorClaim_none none4,
    none5, none6, State.moverClaim, hr, State.dramActive_of active]

theorem State.grantNext_boot (none7 : s.port.moverReq = none) {job : BootJob} (hj : s.bootJob = some job) :
    s.grantNext = s.grantTo (.boot job) := by
  have claim : s.bootClaim = some job := by simp [State.bootClaim, hj, State.dramActive_of active]
  simp [State.grantNext, State.refreshClaim, none1, none2, none3, State.processorClaim_none none4,
    none5, none6, State.moverClaim, none7, claim]

end
end
end
end
end
end

end Active

/-! ### The claims with DRAM not active (R22, R159) -/

section Inactive
variable (inactive : s.port.dram ≠ .active)
include inactive

theorem State.dramActive_not : s.dramActive = false := decide_eq_false inactive

/-- Beside ROM reads no request is granted. -/
theorem State.grantNext_inactive : s.grantNext = if s.port.selfAsked then s else
    if s.processorClaim then s.grantProcessor
    else match s.bootClaim with
      | some job => s.grantTo (.boot job)
      | none => s := by
  have off := State.dramActive_not inactive
  simp [State.grantNext, State.refreshClaim, State.fetchClaim, State.reportClaim, State.moverClaim, off] <;> rfl

/-- The processor's access is a ROM read. -/
def State.romRead (s : State) : Prop :=
  ∃ x offset, s.port.procReq = some .access ∧ s.passage.cpu = some x ∧ x.status = .passing (.rom offset)

theorem State.processorClaim_inactive : s.processorClaim = true ↔ s.romRead := by
  have off := State.dramActive_not inactive
  constructor
  · intro claim
    unfold State.processorClaim at claim
    split at claim
    · rw [off] at claim; cases claim
    · next x hr hx =>
      split at claim
      · next offset hs => exact ⟨x, offset, hr, hx, hs⟩
      all_goals first
        | cases claim
        | (rw [off] at claim; cases claim)
    all_goals cases claim
  · rintro ⟨x, offset, hr, hx, hs⟩
    simp only [State.processorClaim, hr, hx, hs]

theorem State.bootClaim_inactive {job : BootJob} (hj : s.bootJob = some job) :
    s.bootClaim = if job.readsRom then some job else none := by
  simp only [State.bootClaim, hj, State.dramActive_not inactive, Bool.or_false]

end Inactive

/-- A Boot Unit burst reads ROM alone. -/
theorem BootJob.readsRom_iff (job : BootJob) :
    job.readsRom = true ↔ (∃ offset, job = .header offset) ∨ ∃ offset n, job = .copyRead offset n := by
  cases job <;> simp [BootJob.readsRom]

/-! ### The processor's access at its grant (R65) -/

section
variable {x : CpuAccess}

theorem State.grantProcessor_access (hr : s.port.procReq = some .access) (hx : s.passage.cpu = some x) :
    s.grantProcessor = s.grantCpu x := by
  simp only [State.grantProcessor, hr, hx]

theorem State.processorClaim_access (active : s.dramActive = true) (hr : s.port.procReq = some .access)
    (hx : s.passage.cpu = some x) (hs : ∀ why, x.status ≠ .held why) : s.processorClaim = true := by
  unfold State.processorClaim
  rw [hr, hx]
  cases hst : x.status with
  | held why => exact absurd hst (hs why)
  | passing path => cases path <;> simp only [hst, active]
  | completing => simp only [hst, active]

theorem State.grantCpu_completing (hs : x.status = .completing) : s.grantCpu x
    = s.withPort { s.port with procReq := none, grant := some (.processor .nothing) } := by
  simp only [State.grantCpu, hs]
  rfl

/-- An access that passes by the judgement that stands is granted with its observation. -/
theorem State.grantCpu_passes {path : Path} {obs : Obs} (hs : x.status = .passing path)
    (hj : s.standing path x.acc = .pass obs) : s.grantCpu x
    = s.withPort { s.port with procReq := none, grant := some (.processor obs) } := by
  simp only [State.grantCpu, hs, hj]
  rfl

/-- An access that is judged again and held is held from this moment. -/
theorem State.grantCpu_holds {path : Path} {b : Fin 4} {line offset : Nat} (hs : x.status = .passing path)
    (hj : s.standing path x.acc = .hold) (hp : s.bandPlace x.acc.at = some (b, line, offset)) :
    s.grantCpu x = (s.withPort { s.port with procReq := none }).holdCpu x.acc (.line b line) x.timer := by
  simp only [State.grantCpu, hs, hj, hp]

end

/-! ### The mover's burst at its grant (R65, R137) -/

section
variable {paths : List Path} {n : Nat} {obs : Obs}

theorem State.cutPlace_none (h : n = paths.length ∨ obs ≠ .nothing) : s.cutPlace paths (n, obs) = none := by
  rw [State.cutPlace, if_neg]
  rintro ⟨less, nothing⟩
  exact h.elim (fun k => by simp [k] at less) (· nothing)

theorem State.cutPlace_some {a : Access} {b : Fin 4} {line offset : Nat} (less : n < paths.length) (nothing : obs = .nothing)
    (ha : s.mover.access (s.mover.next + n) = some a) (hp : s.bandPlace a.at = some (b, line, offset)) :
    s.cutPlace paths (n, obs) = some (b, line) := by
  rw [State.cutPlace, if_pos ⟨less, nothing⟩]
  simp only [ha, Option.bind_some, hp, Option.map_some]

variable (free : s.port.grant = none) (hr : s.port.moverReq = some paths) (hc : s.moverCut paths s.mover.next = (n, obs))
include free hr hc

omit free in
theorem State.grantMover_whole (hn : n ≠ 0) (h : n = paths.length ∨ obs ≠ .nothing) : s.grantMover
    = s.withPort { s.port with moverReq := none, grant := if n = 0 then none else some (.mover n obs) } := by
  simp only [State.grantMover, hr, hc, State.cutPlace_none h, if_neg hn]
  rfl

theorem State.grantMover_cut {a : Access} {b : Fin 4} {line offset : Nat} (less : n < paths.length)
    (nothing : obs = .nothing) (ha : s.mover.access (s.mover.next + n) = some a)
    (hp : s.bandPlace a.at = some (b, line, offset)) : s.grantMover
    = (s.withPort { s.port with moverReq := none, grant := if n = 0 then none else some (.mover n obs) }).withMover
      { s.mover with state := .held, heldOn := some (b, line), heldWrite := decide (s.mover.state = .writing) } := by
  simp only [State.grantMover, hr, hc, State.cutPlace_some less nothing ha hp]
  by_cases hn : n = 0
  · rw [if_pos hn, if_pos hn, ← free]
    rfl
  · rw [if_neg hn, if_neg hn]
    rfl

end

/-! ### ARBITER_GRANT -/

theorem exec_arbiterGrant (free : s.port.grant = none) : exec .arbiterGrant s = finish s.grantNext := if_pos free

theorem leads_arbiterGrant {u : State} (free : s.port.grant = none) (h : s.grantNext = u) : Leads .arbiterGrant s u :=
  leads_of_finish (h ▸ exec_arbiterGrant free)

theorem State.grantFetch_eq {p : EmitParams} {r : EmitRecord} {i : StoreId} (he : s.emitNow = some (p, r))
    (hi : s.emit.freeStore = some i) : s.grantFetch.port.grant = some (.fetch i)
      ∧ s.grantFetch.bands = s.bands.set p.band s.bands[p.band].fetch
      ∧ s.grantFetch.emit.store i = { state := .loading, line := s.bands[p.band].fetchLine, words := [] } := by
  simp only [State.grantFetch, he, hi]
  exact ⟨rfl, rfl, by cases i <;> rfl⟩

theorem State.fetchClaim_of {p : EmitParams} {r : EmitRecord} {i : StoreId} (active : s.port.dram = .active)
    (req : s.port.fetchReq = true) (he : s.emitNow = some (p, r)) (hi : s.emit.freeStore = some i) :
    s.fetchClaim = true := by
  simp [State.fetchClaim, req, State.dramActive_of active, he, hi]

theorem State.reportClaim_of (active : s.port.dram = .active) (some' : s.reports.pending ≠ []) (ha : s.hasReports = true)
    (room : s.reports.unconsumed.length < s.reports.count) : s.reportClaim = true := by
  simp [State.reportClaim, some', ha, room, State.dramActive_of active]

/-- Settles O24: the claims with DRAM active, the ROM reads with DRAM not active, and the refresh's own timer and cycle. -/
theorem grantsFollowTheClaims : Obligations.GrantsFollowTheClaims := by
  refine ⟨fun s => ⟨fun busy => if_neg busy, fun free active => ?active, fun free inactive => ?inactive⟩, fun s => ?refresh⟩
  case active =>
    refine ⟨fun due => leads_arbiterGrant free (State.grantNext_refresh active due),
      fun asked not_due => leads_arbiterGrant free (State.grantNext_asked not_due asked),
      fun n1 p r i req he hi => ?fetch,
      fun ⟨n1, n2⟩ i hr => leads_arbiterGrant free (State.grantNext_capture active n1 n2 hr),
      fun ⟨⟨n1, n2⟩, n3⟩ hr => ?wakeWord, fun ⟨⟨n1, n2⟩, n3⟩ x hr hx => ?access,
      fun ⟨⟨⟨n1, n2⟩, n3⟩, n4⟩ job hr => leads_arbiterGrant free (State.grantNext_intake active n1 n2 n3 n4 hr),
      fun ⟨⟨⟨⟨n1, n2⟩, n3⟩, n4⟩, n5⟩ some' ha room => leads_arbiterGrant free
        (State.grantNext_report n1 n2 n3 n4 n5 (State.reportClaim_of active some' ha room)),
      fun ⟨⟨⟨⟨⟨n1, n2⟩, n3⟩, n4⟩, n5⟩, n6⟩ paths n obs hr hc => ?mover,
      fun ⟨⟨⟨⟨⟨⟨n1, n2⟩, n3⟩, n4⟩, n5⟩, n6⟩, n7⟩ job hj => leads_arbiterGrant free
        (State.grantNext_boot active n1 n2 n3 n4 n5 n6 n7 hj)⟩
    case fetch =>
      have claim := State.fetchClaim_of active req he hi
      obtain ⟨t, ht, f⟩ := leads_arbiterGrant free (State.grantNext_fetch n1 claim)
      obtain ⟨grant, bands, store⟩ := State.grantFetch_eq he hi
      refine ⟨t, ht, f.grant.trans grant, ?_, ?_⟩
      · simp [f.bands, bands]
      · rw [f.emit, store]
    case wakeWord =>
      have claim : s.processorClaim = true := by simp only [State.processorClaim, hr, State.dramActive_of active]
      have grants : s.grantProcessor = s.withPort { s.port with procReq := none, grant := some .wakeWord } := by
        simp only [State.grantProcessor, hr]
      exact leads_arbiterGrant free ((State.grantNext_processor n1 n2 n3 claim).trans grants)
    case access =>
      intro v granted limit
      have leads {u : State} (hs : ∀ why, x.status ≠ .held why) (hu : s.grantCpu x = u) : Leads .arbiterGrant s u :=
        leads_arbiterGrant free ((State.grantNext_processor n1 n2 n3
          (State.processorClaim_access (State.dramActive_of active) hr hx hs)).trans
            ((State.grantProcessor_access hr hx).trans hu))
      have limit_eq (b : Fin 4) : limit b = x.timer.limit s.bands[b].holdLimit := by
        cases ht : x.timer <;> simp only [limit, ht, HoldTimer.limit]
      refine ⟨?plain, fun b0 obs hs => leads (by simp [hs]) (State.grantCpu_passes hs rfl), fun b0 hs => ⟨fun hp => ?_, ?again⟩⟩
      case plain =>
        rintro (hs | ⟨offset, hs⟩ | hs)
        · exact leads (by simp [hs]) (State.grantCpu_passes hs rfl)
        · exact leads (by simp [hs]) (State.grantCpu_passes hs rfl)
        · exact leads (by simp [hs]) (State.grantCpu_completing hs)
      case again =>
        intro b line offset hp
        refine ⟨fun obs hj => ?_, fun hj long => ?_, fun hj zero => ?_⟩
        · exact leads (by simp [hs]) (State.grantCpu_passes hs ((State.rejudge_in_line hp).trans hj))
        · have holds := State.grantCpu_holds hs ((State.rejudge_in_line hp).trans hj) hp
          rw [State.holdCpu_line_timed (s := s.withPort { s.port with procReq := none }) (limit_eq b ▸ long)] at holds
          rw [limit_eq]
          exact leads (by simp [hs]) holds
        · have holds := State.grantCpu_holds hs ((State.rejudge_in_line hp).trans hj) hp
          rw [State.holdCpu_line_expires (s := s.withPort { s.port with procReq := none }) (limit_eq b ▸ zero)] at holds
          split
          · next write =>
            rw [State.expireHold_write (x := ⟨x.acc, .held (.line b line), x.timer⟩) write] at holds
            exact leads (by simp [hs]) holds
          · next read =>
            rw [State.expireHold_read (x := ⟨x.acc, .held (.line b line), x.timer⟩) (by simpa using read)] at holds
            exact leads (by simp [hs]) holds
      · exact leads (by simp [hs]) (State.grantCpu_passes hs (State.rejudge_outside_lines hp))
    case mover =>
      have next := State.grantNext_mover active n1 n2 n3 n4 n5 n6 hr
      exact ⟨fun hn h => leads_arbiterGrant free (next.trans (State.grantMover_whole hr hc hn h)),
        fun a b line offset less nothing ha hp =>
          leads_arbiterGrant free (next.trans (State.grantMover_cut free hr hc less nothing ha hp))⟩
  case inactive =>
    have next := State.grantNext_inactive inactive
    refine ⟨fun not_asked read => ?_, fun not_asked no_read job hj burst => ?_, fun no_read no_burst => ?_⟩
    · rw [not_asked, if_neg Bool.false_ne_true, if_pos ((State.processorClaim_inactive inactive).mpr read)] at next
      obtain ⟨x, offset, hr, hx, hs⟩ := read
      exact leads_arbiterGrant free (next.trans ((State.grantProcessor_access hr hx).trans (State.grantCpu_passes hs rfl)))
    · rw [not_asked, if_neg Bool.false_ne_true, if_neg (mt (State.processorClaim_inactive inactive).mp no_read),
        State.bootClaim_inactive inactive hj, if_pos (job.readsRom_iff.mpr burst)] at next
      exact leads_arbiterGrant free next
    · refine leads_arbiterGrant free (next.trans ?_)
      rw [if_neg (mt (State.processorClaim_inactive inactive).mp no_read)]
      split
      · rfl
      · cases hj : s.bootJob with
        | none => simp only [State.bootClaim, hj]
        | some job => rw [State.bootClaim_inactive inactive hj, if_neg (mt job.readsRom_iff.mp (no_burst job hj))]
  case refresh =>
    exact ⟨fun timer => leads_of_finish (if_pos timer), fun stopped => if_neg (by simp [stopped]),
      fun cycle => leads_of_finish (if_pos cycle), fun other => if_neg other⟩

end Sys2Proof.Machine
end

section
/-! The resets (R24, R32, R157, R158, R165): every block takes its reset values, and DRAM is what the cut of the grant in
progress leaves. -/

namespace Sys2Proof.Machine

open Sys2Proof

variable {s : State}

/-! ### What the three makers of a reset state leave -/

theorem SensorCell.map_atReset (cells : Vector SensorCell 6) (x : Fin 6) :
    (cells.map SensorCell.atReset)[x] = (cells[x]).atReset := by simp

theorem State.resetPart_resetValues (cause : ResetKind) (words : Nat) : ResetValues (s.resetPart cause words) :=
  resetValues_of_blocks rfl ⟨_, rfl⟩ rfl ⟨_, _, _, rfl⟩ rfl rfl rfl rfl rfl rfl rfl rfl rfl rfl rfl
    (fun x => by simp [State.resetPart, SensorCell.atReset]) ⟨_, _, _, rfl⟩

theorem State.losePower_resetValues : ResetValues s.losePower :=
  resetValues_of_blocks rfl ⟨1, rfl⟩ rfl ⟨_, _, _, rfl⟩ rfl rfl rfl rfl rfl rfl rfl rfl rfl rfl rfl
    (fun x => by simp [State.losePower, SensorCell.atReset]) ⟨_, _, _, rfl⟩

theorem State.risePower_resetValues : ResetValues s.risePower :=
  resetValues_of_blocks rfl ⟨1, rfl⟩ rfl ⟨_, _, _, rfl⟩ rfl rfl rfl rfl rfl rfl rfl rfl rfl rfl rfl
    (fun x => by simp [State.risePower, SensorCell.atReset]) ⟨_, _, _, rfl⟩

/-! ### What a reset keeps -/

theorem State.cutGrant_dram_of_some (words : Nat) {g : Grant} (h : s.port.grant = some g) :
    (s.cutGrant words).dram = Memory.writeAll s.dram ((s.grantTransfers g).take words).flatten := by
  simp only [State.cutGrant, h]
  rfl

/-- The cut of a grant reaches DRAM and the port's grant only. -/
theorem State.cutGrant_eq (words : Nat) : ∃ dram, s.cutGrant words
    = (s.withDram dram).withPort { s.port with grant := none } := by
  unfold State.cutGrant
  split
  · exact ⟨_, rfl⟩
  · next none => exact ⟨s.dram, by rw [← none]; rfl⟩

/-- What a RESET LINE, a RESTART and a LAPSE keep of the state before (R24, R157). -/
structure ResetKeeps (s t : State) (cause : ResetKind) : Prop where
  values : ResetValues t
  clock : t.pins.clock = true
  installed : t.passage.installedMb = s.passage.installedMb
  cause : t.boot.cause = cause
  owed : t.boot.fillOwed = s.boot.fillOwed
  inputs : ∀ x : Fin 6, t.sensors[x].input = s.sensors[x].input
  line : t.pins.resetLine = s.pins.resetLine
  delay : t.boot.holdDelay = !s.pins.resetLine
  awake : s.port.dram ≠ .selfRefresh → t.port.dram = s.port.dram ∧ t.port.refreshTimer = s.port.refreshTimer
  asleep : s.port.dram = .selfRefresh → t.port.dram = .active ∧ t.port.refreshTimer = true ∧ t.port.refreshDue = true

theorem State.resetPart_keeps (cause : ResetKind) (words : Nat) : ResetKeeps s (s.resetPart cause words) cause := by
  have values := s.resetPart_resetValues cause words
  obtain ⟨dram, cut⟩ := s.cutGrant_eq words
  rw [State.resetPart, cut] at values ⊢
  exact
    { values := values
      clock := rfl
      installed := rfl
      cause := rfl
      owed := rfl
      inputs := fun x => by simp [SensorCell.atReset, State.withDram, State.withPort]
      line := rfl
      delay := rfl
      awake := fun h => by simp [Port.afterReset, h, State.withPort, State.withDram]
      asleep := fun h => by simp [Port.afterReset, h, State.withPort, State.withDram] }

/-- Settles O25. -/
theorem supplyAndLineMoveThePart : Obligations.SupplyAndLineMoveThePart := by
  refine ⟨fun s => ⟨fun down => ?rise, fun up => ?fall, fun up => if_pos up, fun down => if_neg (by simp [down])⟩,
    fun s => ⟨fun line up hold => ?release, fun line => if_neg (by simp [line]), fun hold delay => ?header, fun no => ?none⟩⟩
  case rise =>
    refine ⟨s.risePower, if_neg (by simp [down]), s.risePower_resetValues, rfl, rfl, rfl, rfl, rfl, rfl, fun x => ?_⟩
    simp [State.risePower, SensorCell.atReset]
  case fall => exact ⟨s.losePower, if_pos up, s.losePower_resetValues, rfl, rfl, rfl⟩
  case release =>
    refine leads_of_next ((if_pos line).trans ?_)
    simp [State.withResetLine, up, hold]
  case header => exact leads_of_next (if_pos ⟨hold, delay⟩)
  case none =>
    refine if_neg fun ⟨hold, delay⟩ => ?_
    rcases no with no | no
    · exact no hold
    · rw [no] at delay
      cases delay

/-- Settles O26: the two commands by which a reset of these kinds begins, through `State.resetPart_keeps`. -/
theorem resetsKeepTheDram : Obligations.ResetsKeepTheDram := by
  intro s words kept
  have keeps {u : State} (cause : ResetKind) (port : u.port = s.port) (passage : u.passage = s.passage)
      (boot : u.boot = s.boot) (sensors : u.sensors = s.sensors)
      (cut : (u.cutGrant words).dram = (s.cutGrant words).dram) : kept cause (u.resetPart cause words) := by
    have k := u.resetPart_keeps cause words
    refine ⟨k.values, k.clock, passage ▸ k.installed, k.cause, boot ▸ k.owed, sensors ▸ k.inputs, fun none => ?_,
      fun g some => ?_, port ▸ k.awake, port ▸ k.asleep⟩
    · rw [State.resetPart_dram, cut, State.cutGrant_dram_of_none words none]
    · rw [State.resetPart_dram, cut, State.cutGrant_dram_of_some words some]
  refine ⟨fun line up => ?assert, fun line => if_pos line, fun confirm timer third => ?lapse⟩
  case assert =>
    refine ⟨(s.withResetLine true).resetPart .resetLine words, (if_neg (by simp [line])).trans (if_pos up),
      keeps _ rfl rfl rfl rfl ?_, (State.resetPart_keeps _ _).line, (State.resetPart_keeps _ _).delay⟩
    cases hg : s.port.grant with
    | none => rw [State.cutGrant_dram_of_none words hg, State.cutGrant_dram_of_none words (by exact hg)]; rfl
    | some g => rw [State.cutGrant_dram_of_some words hg, State.cutGrant_dram_of_some words (by exact hg)]; rfl
  case lapse =>
    exact ⟨s.resetPart .lapse words, (if_pos ⟨confirm, timer⟩).trans (if_pos (Nat.succ_le_succ third)),
      keeps _ rfl rfl rfl rfl rfl, (State.resetPart_keeps _ _).delay⟩

/-! ### RESTART (R32, R165) -/

theorem State.completeOrder_eq (h : InHand) : s.completeOrder h
    = s.withIntake { s.intake with inHand := some { h with stage := .ending .ok }, state := .executing } := rfl

theorem exec_restart {h : InHand} (inHand : s.orderInHand kindRestart = some h) : exec .restart s
    = finish (s.withIntake { s.intake with inHand := some { h with stage := .ending .ok }, state := .executing }) := by
  have run : execRestart s = finish (s.completeOrder h) := onOrder_eq inHand fun h s => s.completeOrder h
  simp only [exec, run, State.completeOrder_eq]

/-- The final write of the order in hand is the store of its head. -/
theorem State.endGrant_own {h : InHand} {r : Result} (inHand : s.intake.inHand = some h) :
    s.endGrant (.intake (.own r)) = (s.store (wordBytes (s.slotAddr h.slot) (orderHead h.kind .done r))).freePort := by
  simp only [State.endGrant, State.grantTransfers, State.intakeTransfers, State.headTransfers, inHand]
  rfl

theorem exec_finalWriteEnd_restart {h : InHand} (inHand : s.intake.inHand = some h) (kind : h.kind = kindRestart)
    (grant : s.port.grant = some (.intake (.own .ok))) :
    exec .finalWriteEnd s = .next ((s.endGrant (.intake (.own .ok))).resetPart .restart 0) := by
  simp only [exec, execFinalWriteEnd, grant, inHand, kind, true_and, if_true]

theorem State.dramByte_store_word_other (wf : Memory.wf s.dram) {a b : Nat} (w : Word) (first : b ≠ a) (second : b ≠ a + 1) :
    (s.store (wordBytes a w)).dramByte b = s.dramByte b := by
  refine State.dramByte_store_other wf fun c hc => ?_
  rcases List.mem_pair.mp hc with rfl | rfl
  · exact first.symm
  · exact second.symm

/-- Settles O27. -/
theorem restartResetsAfterItsFinalWrite : Obligations.RestartResetsAfterItsFinalWrite := by
  refine fun s h => ⟨fun inHand => leads_of_finish (exec_restart inHand), fun inHand kind grant wf => ?_⟩
  have run := exec_finalWriteEnd_restart inHand kind grant
  have k := (s.endGrant (.intake (.own .ok))).resetPart_keeps .restart 0
  have dram : ((s.endGrant (.intake (.own .ok))).resetPart .restart 0).dram
      = (s.store (wordBytes (s.slotAddr h.slot) (orderHead kindRestart .done .ok))).dram := by
    rw [State.resetPart_dram, State.cutGrant_dram_of_none 0 rfl, State.endGrant_own inHand, kind]
    rfl
  generalize (s.endGrant (.intake (.own .ok))).resetPart .restart 0 = t at run k dram
  have byte (a : Nat) : t.dramByte a
      = (s.store (wordBytes (s.slotAddr h.slot) (orderHead kindRestart .done .ok))).dramByte a := by
    rw [State.dramByte, dram, ← State.dramByte]
  refine ⟨t, run, k.values, k.cause, k.owed, k.installed, ?_, fun a first second => ?_⟩
  · rw [State.dramWord_congr (byte _) (byte _), State.dramWord_store_word wf]
  · rw [byte, State.dramByte_store_word_other wf _ first second]

end Sys2Proof.Machine
end

section
/-! The pointer N (R35), the channels' outputs (R72 to R76), the ramp rule (R79, R84) and the steps of a MOVE (R82, R84 to
R88). -/

namespace Sys2Proof.Machine

open Sys2Proof

/-! ### The pointer N -/

section Pointer
variable {i : Intake}

theorem Intake.passMarked_unmarked (h : (i.slot i.next).early = false) (fuel : Nat) : i.passMarked fuel = i := by
  cases fuel with
  | zero => rfl
  | succ fuel => simp [Intake.passMarked, h]

/-- One slot with the early mark is passed: the mark is cleared and N moves on. -/
def Intake.passOne (i : Intake) : Intake := (i.withSlot i.next { i.slot i.next with early := false }).bumpN

theorem Intake.passMarked_marked (h : (i.slot i.next).early = true) (fuel : Nat) :
    i.passMarked (fuel + 1) = i.passOne.passMarked fuel := by
  simp [Intake.passMarked, h, Intake.passOne]

theorem Intake.passOne_slots : i.passOne.slots.length = i.slots.length := List.length_set

theorem Intake.passOne_next : i.passOne.next = (i.next + 1) % i.slots.length :=
  congrArg ((i.next + 1) % ·) Intake.passOne_slots

theorem Intake.passOne_slot (h : i.next < i.slots.length) (m : Nat) :
    i.passOne.slot m = if i.next = m then { i.slot m with early := false } else i.slot m := by
  have same := i.slot_withSlot i.next m { i.slot i.next with early := false }
  refine (same : i.passOne.slot m = _).trans ?_
  by_cases at' : i.next = m
  · rw [if_pos ⟨at', h⟩, if_pos at', at']
  · rw [if_neg fun x => at' x.1, if_neg at']

/-- A place less than a full round behind another is another place. -/
theorem ring_place_ne {a j n : Nat} (ha : a < n) (hj : j + 1 < n) : (a + 1 + j) % n ≠ a := by
  by_cases wrap : a + 1 + j < n
  · rw [Nat.mod_eq_of_lt wrap]; omega
  · rw [Nat.mod_eq_sub_mod (by omega), Nat.mod_eq_of_lt (by omega)]; omega

/-- N passes the run of `k` slots with the early mark on which it stands. -/
theorem Intake.passMarked_run {k fuel : Nat} (next : i.next < i.slots.length) (hk : k < i.slots.length) (fits : k ≤ fuel)
    (marked : ∀ j, j < k → (i.slot ((i.next + j) % i.slots.length)).early = true)
    (last : (i.slot ((i.next + k) % i.slots.length)).early = false) :
    (i.passMarked fuel).next = (i.next + k) % i.slots.length
      ∧ ∀ m, (i.passMarked fuel).slot m = if ∃ j, j < k ∧ m = (i.next + j) % i.slots.length
        then { i.slot m with early := false } else i.slot m := by
  induction k generalizing i fuel with
  | zero =>
    rw [Nat.add_zero, Nat.mod_eq_of_lt next] at last ⊢
    rw [Intake.passMarked_unmarked last]
    exact ⟨rfl, fun m => (if_neg (by simp)).symm⟩
  | succ k ih =>
    obtain ⟨fuel, rfl⟩ := Nat.exists_eq_add_of_le' (Nat.one_le_of_lt fits)
    have first : (i.slot i.next).early = true := by
      have := marked 0 (Nat.succ_pos k)
      rwa [Nat.add_zero, Nat.mod_eq_of_lt next] at this
    have size := i.passOne_slots
    have place (j : Nat) : (i.passOne.next + j) % i.slots.length = (i.next + (j + 1)) % i.slots.length := by
      rw [Intake.passOne_next, Nat.mod_add_mod, Nat.add_right_comm, ← Nat.add_assoc]
    have away {j : Nat} (hj : j ≤ k) : i.passOne.slot ((i.next + (j + 1)) % i.slots.length)
        = i.slot ((i.next + (j + 1)) % i.slots.length) := by
      rw [Intake.passOne_slot next, if_neg]
      rw [Nat.add_comm j 1, ← Nat.add_assoc]
      exact (ring_place_ne next (by omega)).symm
    obtain ⟨at', slots⟩ := ih (i := i.passOne) (fuel := fuel)
      (by rw [size, Intake.passOne_next]; exact Nat.mod_lt _ (by omega)) (by omega) (by omega)
      (fun j hj => by rw [size, place, away (by omega)]; exact marked (j + 1) (by omega))
      (by rw [size, place, away (Nat.le_refl k)]; exact last)
    rw [Intake.passMarked_marked first]
    refine ⟨at'.trans (by rw [size, place]), fun m => ?_⟩
    simp only [slots m, size, place, Intake.passOne_slot next]
    by_cases here : i.next = m
    · have run : ∃ j, j < k + 1 ∧ m = (i.next + j) % i.slots.length :=
        ⟨0, Nat.succ_pos k, by rw [Nat.add_zero, Nat.mod_eq_of_lt next, here]⟩
      rw [if_pos run, if_pos here, ite_self]
    · have shift : (∃ j, j < k ∧ m = (i.next + (j + 1)) % i.slots.length)
          ↔ ∃ j, j < k + 1 ∧ m = (i.next + j) % i.slots.length := by
        constructor
        · rintro ⟨j, hj, e⟩
          exact ⟨j + 1, by omega, e⟩
        · rintro ⟨j, hj, e⟩
          cases j with
          | zero => exact absurd (by rw [e, Nat.add_zero, Nat.mod_eq_of_lt next]) here
          | succ j => exact ⟨j, by omega, e⟩
      simp only [shift, if_neg here]

end Pointer

/-- Settles O34. -/
theorem pointerPassesMarkedSlots : Obligations.PointerPassesMarkedSlots := by
  intro i k n next hk marked last
  have place (j : Nat) : (i.bumpN.next + j) % n = (i.next + 1 + j) % n := Nat.mod_add_mod _ _ _
  obtain ⟨at', slots⟩ := Intake.passMarked_run (i := i.bumpN) (k := k) (fuel := n) (Nat.mod_lt _ (by omega)) hk (by omega)
    (fun j hj => (congrArg (fun x => (i.slot x).early) (place j)).trans (marked j hj))
    ((congrArg (fun x => (i.slot x).early) (place k)).trans last)
  refine ⟨at'.trans (place k), fun m => (slots m).trans ?_⟩
  have run : (∃ j, j < k ∧ m = (i.bumpN.next + j) % i.bumpN.slots.length) ↔ ∃ j, j < k ∧ m = (i.next + 1 + j) % n :=
    exists_congr fun j => and_congr_right fun _ => by rw [← place j]; rfl
  rw [if_congr run rfl rfl]
  rfl

/-! ### The ramp rule -/

theorem descentLength_eq (p : List Level) (k : Nat) : descentLength p k = ((p.take k).map (·.dwell)).sum := by
  induction k with
  | zero => rfl
  | succ k ih =>
    rw [descentLength, ih, List.take_add_one, List.map_append, List.sum_append, dwellAt, List.getD_eq_getElem?_getD]
    cases p[k]? with
    | none => simp
    | some level => simp

theorem highestWithin_eq {p : List Level} {steps ceiling n : Nat} (bound : ceiling ≤ n)
    (within : descentLength p ceiling ≤ steps) (above : ∀ j, ceiling < j → j ≤ n → steps < descentLength p j) :
    highestWithin p steps n = ceiling := by
  induction n with
  | zero => exact (Nat.le_zero.mp bound).symm
  | succ n ih =>
    rw [highestWithin]
    rcases Nat.eq_or_lt_of_le bound with rfl | below
    · exact if_pos within
    · rw [if_neg (Nat.not_le.mpr (above _ below (Nat.le_refl _)))]
      exact ih (by omega) fun j h1 h2 => above j h1 (by omega)

/-- Settles O48. -/
theorem rampRuleChoosesTheLevel : Obligations.RampRuleChoosesTheLevel := by
  intro p k atLevel r ceiling _ hk bound within above candidate
  have ceiling_eq : rampCeiling p r = ceiling :=
    highestWithin_eq bound (descentLength_eq p ceiling ▸ within) fun j h1 h2 => descentLength_eq p j ▸ above j h1 h2
  have rule : rampLevel p k atLevel r = max (min candidate ceiling) (k - 1) := by
    rw [rampLevel, ceiling_eq]
    rfl
  exact ⟨rule, by omega⟩

/-! ### Chopping and holding -/

theorem phaseTable_eq (i : BitVec 3) : phaseTable i = ([(true, false, false, false), (true, false, true, false),
    (false, false, true, false), (false, true, true, false), (false, true, false, false), (false, true, false, true),
    (false, false, false, true), (true, false, false, true)] : List (Bool × Bool × Bool × Bool)).getD i.toNat
      (false, false, false, false) := by
  revert i
  decide

/-- Table 4-1: winding A is energised but at two of the eight indices, and winding B but at two others. -/
theorem phaseTable_energised (i : BitVec 3) :
    ((phaseTable i).1 || (phaseTable i).2.1) = decide (i.toNat % 4 ≠ 2)
      ∧ ((phaseTable i).2.2.1 || (phaseTable i).2.2.2) = decide (i.toNat % 4 ≠ 0) := by
  revert i
  decide

section Channel
variable {c : Channel}

theorem Channel.phaseOutputs_driven {i : BitVec 3} (h : c.driven = some i) : c.phaseOutputs = phaseTable i := by
  rw [Channel.phaseOutputs, h]

theorem Channel.phaseOutputs_low (h : c.driven = none) : c.phaseOutputs = (false, false, false, false) := by
  rw [Channel.phaseOutputs, h]

theorem Channel.chopOutputs_low (h : c.driven = none) (part : Nat) : c.chopOutputs part = (false, false) := by
  simp [Channel.chopOutputs, Channel.energisedA, Channel.energisedB, Channel.phaseOutputs_low h]

theorem Channel.chopOutputs_driven {i : BitVec 3} (h : c.driven = some i) (part : Nat) : c.chopOutputs part
    = (decide (i.toNat % 4 ≠ 2 ∧ part < c.inEffect), decide (i.toNat % 4 ≠ 0 ∧ part < c.inEffect)) := by
  rw [Channel.chopOutputs, Channel.energisedA, Channel.energisedB, Channel.phaseOutputs_driven h,
    (phaseTable_energised i).1, (phaseTable_energised i).2]
  simp only [Bool.decide_and]

end Channel

/-- Settles O47. -/
theorem channelsChopAndHold : Obligations.ChannelsChopAndHold := by
  intro s chopped
  refine ⟨rfl, fun c part => ⟨fun off => ?off, fun on => ?on⟩, fun c => ⟨fun holding timer => if_pos ⟨holding, timer⟩, fun no => ?_⟩⟩
  case off =>
    have low : (chopped (s.chan c)).driven = none := if_pos off
    exact ⟨Channel.phaseOutputs_low low, Channel.chopOutputs_low low part⟩
  case on =>
    have shown : (chopped (s.chan c)).driven = some (s.chan c).phase := if_neg on
    exact ⟨(Channel.phaseOutputs_driven shown).trans (phaseTable_eq _), Channel.chopOutputs_driven shown part⟩
  refine if_neg fun ⟨holding, timer⟩ => ?_
  rcases no with no | no
  · exact no holding
  · rw [no] at timer
    cases timer

end Sys2Proof.Machine
end

section
/-! A MOVE (R82, R84 to R88): the expiry of its step timer, one equation per case, and the ends of the channel. -/

namespace Sys2Proof.Machine

open Sys2Proof

variable {s : State}

/-! ### One channel of the two -/

@[simp] theorem State.chan_withChan (c : Chan) (x : Channel) : (s.withChan c x).chan c = x := by cases c <;> rfl

@[simp] theorem State.withChan_withChan (c : Chan) (x y : Channel) : (s.withChan c x).withChan c y = s.withChan c y := by
  cases c <;> rfl

theorem State.activeWork_of {q : QueueId} {ro : Running} (running : s.running q = some ro) (active : ro.stage = .active) :
    s.activeWork q = some ro.order.work := by
  simp only [State.activeWork, running, active, if_true]

/-! ### The end of a MOVE -/

/-- The channel that `Channel.enterHolding` gives, with the hold time's three cases written out (R76, R87). -/
theorem Channel.enterHolding_eq (x : Channel) : x.enterHolding =
    if x.holdTime = 0 then { x with state := .off, asked := 0, holdTimer := none, stepTimer := none, pauseTimer := none,
                                    paced := none }
    else { x with state := .holding, asked := x.holdLevel, stepTimer := none, pauseTimer := none, paced := none,
                  holdTimer := if x.holdTime = 255 then none else some x.holdTime } := by
  simp only [Channel.enterHolding, Channel.startHold, Channel.enterOff]

theorem Channel.hardStop_moving {x : Channel} (h : x.state = .moving) : x.hardStop = x.enterHolding := by
  simp only [Channel.hardStop, Channel.inMotion, h, if_true]

theorem State.endMove_moving {c : Chan} (h : (s.chan c).state = .moving) (r : Result) : s.endMove c r
    = (s.withChan c (s.chan c).enterHolding).endOrder (chanQueue c) .motor r (s.chan c).moveFigures := by
  rw [State.endMove, Channel.hardStop_moving h]

theorem Channel.moveFigures_before {x : Channel} (h : x.edge = false) :
    x.moveFigures = [wordNat x.made, 0, wordNat (x.phase.toNat * 256)] := by
  simp [Channel.moveFigures, h]
  rfl

theorem Channel.moveFigures_after {x : Channel} (h : x.edge = true) :
    x.moveFigures = [wordNat x.before, wordNat (x.made - x.before), wordNat (1 + x.phase.toNat * 256)] := by
  simp [Channel.moveFigures, h]

/-! ### The expiry of the step timer in a MOVE -/

section Step
variable {c : Chan} {p : MoveParams}

theorem State.stepExpired_move (work : s.activeWork (chanQueue c) = some (.move p)) : s.stepExpired c = s.stepMove c p := by
  cases c <;> simp only [State.stepExpired, work]

theorem exec_stepTimerExpiry_move (work : s.activeWork (chanQueue c) = some (.move p)) (moving : (s.chan c).state = .moving)
    (timer : (s.chan c).stepTimer.isSome) : exec (.stepTimerExpiry c) s = finish (s.stepMove c p) :=
  (if_pos ⟨moving, timer⟩).trans (congrArg finish (State.stepExpired_move work))

/-- The channel after the step with the count it goes on by, which takes its next level from the profile. -/
def State.moveOn (s : State) (c : Chan) (p : MoveParams) : State :=
  s.withChan c (((s.chan c).moveStep p.edge).ramp s.profiles[p.profile])

/-- A COUNT move (R84). -/
theorem State.stepMove_count (h : p.edge = none) : s.stepMove c p =
    if (s.chan c).made + 1 = p.count then (s.withChan c ((s.chan c).moveStep none)).endMove c .ok else s.moveOn c p := by
  simp only [State.stepMove, State.moveOn, h]
  rfl

/-- An EDGE move before its edge jams at the jam distance (R86). -/
theorem State.stepMove_jam {e : EdgeParams} (h : p.edge = some e) (before : (s.chan c).edge = false)
    (jam : e.jam ≤ (s.chan c).made) : s.stepMove c p = s.endMove c .jam := by
  simp only [State.stepMove, h, before]
  exact if_pos (by simpa using jam)

theorem State.stepMove_before {e : EdgeParams} (h : p.edge = some e) (before : (s.chan c).edge = false)
    (room : (s.chan c).made < e.jam) : s.stepMove c p = s.moveOn c p := by
  simp only [State.stepMove, State.moveOn, h]
  rw [if_neg (by simpa using fun _ => room), if_neg]
  simp [Channel.moveStep, Channel.step, before]

theorem State.stepMove_after {e : EdgeParams} (h : p.edge = some e) (after : (s.chan c).edge = true) : s.stepMove c p =
    if (s.chan c).made + 1 = (s.chan c).before + e.extra then (s.withChan c ((s.chan c).moveStep (some e))).endMove c .ok
    else s.moveOn c p := by
  simp only [State.stepMove, State.moveOn, h]
  rw [if_neg (by simp [after])]
  simp only [Channel.moveStep, Channel.step, after, Bool.true_and, decide_eq_true_eq]

end Step

/-- Settles O49: each case of `State.stepMove`, the channel written out. -/
theorem movesStepAndEnd : Obligations.MovesStepAndEnd := by
  intro s c ro p running active work moving timer ch size phase stepped profile goesOn held ends
  have run {u : State} (h : s.stepMove c p = u) : Leads (.stepTimerExpiry c) s u :=
    leads_of_finish ((exec_stepTimerExpiry_move ((State.activeWork_of running active).trans (congrArg some work)) moving
      timer).trans (congrArg finish h))
  have on {r : Nat} (h : ch.moveStep p.edge = stepped r) : s.moveOn c p = goesOn (stepped r) := by
    rw [State.moveOn, h]
    rfl
  have done {x : Channel} (h : x.state = .moving) (r : Result) : (s.withChan c x).endMove c r = ends x r x.moveFigures := by
    rw [State.endMove_moving (by simpa using h), State.chan_withChan, State.withChan_withChan, Channel.enterHolding_eq]
  refine ⟨fun count => ⟨fun more => ?_, fun last before => ?_⟩, fun e edge =>
    ⟨fun before jam => ?_, fun before room => ?_, fun after more => ?_, fun after last => ?_⟩⟩
  · exact run ((State.stepMove_count count).trans ((if_neg more).trans (on (by rw [count]; rfl))))
  · have ended := done (x := stepped (ch.r - 1)) moving .ok
    rw [Channel.moveFigures_before (x := stepped (ch.r - 1)) before, show (stepped (ch.r - 1)).made = p.count from last] at ended
    exact run ((State.stepMove_count count).trans ((if_pos last).trans ended))
  · have jams : s.endMove c .jam = ends ch .jam ch.moveFigures := by
      rw [State.endMove_moving moving, Channel.enterHolding_eq]
    rw [Channel.moveFigures_before before] at jams
    exact run ((State.stepMove_jam edge before jam).trans jams)
  · refine run ((State.stepMove_before edge before room).trans (on ?_))
    simp only [Channel.moveStep, edge, ch, before]
    rfl
  · refine run ((State.stepMove_after edge after).trans ((if_neg more).trans (on ?_)))
    simp only [Channel.moveStep, edge, ch, after]
    rfl
  · have counted : ch.moveStep (some e) = stepped (ch.r - 1) := by
      simp only [Channel.moveStep, ch, after]
      rfl
    have ended := done (x := stepped (ch.r - 1)) moving .ok
    have extra : (stepped (ch.r - 1)).made - ch.before = e.extra := by
      rw [show (stepped (ch.r - 1)).made = ch.before + e.extra from last, Nat.add_sub_cancel_left]
    rw [Channel.moveFigures_after (x := stepped (ch.r - 1)) after, extra] at ended
    exact run ((State.stepMove_after edge after).trans ((if_pos last).trans
      ((congrArg (fun x => (s.withChan c x).endMove c .ok) counted).trans ended)))

end Sys2Proof.Machine
end

section
/-! The ringing qualifier (R154, R155): when a burst qualifies, and what its judgement does. -/

namespace Sys2Proof.Machine

open Sys2Proof

variable {s : State}

/-! ### POWER reports -/

/-- A POWER report of a code of which none waits enters the pending queue with room. -/
theorem State.offerPower_enters {r : Report} (area : s.hasReports = true) (room : s.reports.pending.length < 8)
    (none : s.powerWaits r.code = false) :
    s.offerPower r = s.withReports { s.reports with pending := s.reports.pending ++ [r] } := by
  rw [State.offerPower, if_neg (by simp [none]), State.offer_enters room]
  exact State.enter_of_area area r

theorem wakeReport_early (word : Word) : wakeReport word .early = ⟨.power, 1, [word, 2, 0, 0, 0, 0, 0]⟩ := rfl

/-! ### Wake causes by the power state -/

theorem State.takeCause_sleeping {w : WakeSettings} (c : WakeCause) (state : s.power.state = .sleeping)
    (settings : s.power.settings = some w) : s.takeCause c = s.startWake w c := by
  simp only [State.takeCause, state, settings]

theorem State.takeCause_pending {w : WakeSettings} (c : WakeCause) (state : s.power.state = .sleepPending)
    (settings : s.power.settings = some w) : s.takeCause c = s.wakeEarly w c := by
  simp only [State.takeCause, state, settings]

/-- A sleep that ends WOKEN_EARLY offers its report into a pending queue with room. -/
theorem State.wakeEarly_enters (w : WakeSettings) (c : WakeCause) (area : s.hasReports = true)
    (room : s.reports.pending.length < 8) (none : s.powerWaits 1 = false) : s.wakeEarly w c
    = ((((s.withPower { Power.reset with
          wakeWrites := s.power.wakeWrites ++ [(w.rest, wakeWord c.code s.power.lapse s.ring.muted)] }).withPort
        { s.port with selfAsked := false }).withIntake { s.intake with
          finalWrites := s.intake.finalWrites ++ [⟨.sleep, w.slot, kindSleep, .wokenEarly⟩] }).withReports
            { s.reports with pending := s.reports.pending
                ++ [⟨.power, 1, [wakeWord c.code s.power.lapse s.ring.muted, 2, 0, 0, 0, 0, 0]⟩] }) := by
  rw [State.wakeEarly, ← wakeReport_early]
  exact State.offerPower_enters area room none

theorem State.ringingEnabled_of {w : WakeSettings} (state : s.power.state = .sleepPending ∨ s.power.state = .sleeping)
    (settings : s.power.settings = some w) (ringing : w.ringing = true) : s.ringingEnabled = true := by
  rcases state with state | state <;> simp [State.ringingEnabled, state, settings, ringing]

/-! ### The judgement of a burst -/

/-- A burst with a period, whose periods and whose length lie within the settings (R154). -/
theorem RingSettings.qualifies_iff (r : RingSettings) (periods : List Nat) : r.qualifies periods = true ↔
    periods ≠ [] ∧ (∀ p ∈ periods, r.periodMin * 1000 ≤ p ∧ p ≤ r.periodMax * 1000)
      ∧ r.lengthMin * 100000 ≤ periods.sum ∧ periods.sum ≤ r.lengthMax * 100000 := by
  simp [RingSettings.qualifies, and_assoc]

section Judge
variable {periods : List Nat}

theorem State.judgeBurst_muted (muted : s.ring.muted = true) :
    s.judgeBurst periods = s.withRing { s.ring with burst := none } := if_pos muted

theorem State.judgeBurst_good (unmuted : s.ring.muted = false) (good : s.ring.settings.qualifies periods = true) :
    s.judgeBurst periods = (s.withRing { s.ring with burst := none }).burstQualified := by
  simp [State.judgeBurst, unmuted, good]

theorem State.judgeBurst_bad (unmuted : s.ring.muted = false) (bad : ¬ s.ring.settings.qualifies periods = true) :
    s.judgeBurst periods = (s.withRing { s.ring with burst := none }).burstDisqualified := by
  simp [State.judgeBurst, unmuted, bad]

theorem exec_burstEnd (burst : s.ring.burst = some periods) : exec .burstEnd s = finish (s.judgeBurst periods) := by
  simp only [exec, execBurstEnd, burst]

theorem exec_ringingPulse_first (boot : s.boot.state = .done) (burst : s.ring.burst = none) (gap : Nat) :
    exec (.ringingPulse gap) s = finish (s.withRing { s.ring with burst := some [] }) := by
  simp only [exec, execRingingPulse, boot, burst, if_true]

theorem exec_ringingPulse_within (boot : s.boot.state = .done) (burst : s.ring.burst = some periods) {gap : Nat}
    (within : gap ≤ 100000) :
    exec (.ringingPulse gap) s = finish (s.withRing { s.ring with burst := some (periods ++ [gap]) }) := by
  simp only [exec, execRingingPulse, boot, burst, if_true]
  exact if_pos within

/-- An edge after the burst's end judges the burst and begins another. -/
theorem exec_ringingPulse_late (boot : s.boot.state = .done) (burst : s.ring.burst = some periods) {gap : Nat}
    (late : 100000 < gap) : exec (.ringingPulse gap) s
      = finish ((s.judgeBurst periods).withRing { (s.judgeBurst periods).ring with burst := some [] }) := by
  simp only [exec, execRingingPulse, boot, burst, if_true]
  exact if_neg (Nat.not_le.mpr late)

end Judge

/-- The ring state of a call taken: the noise falls and the count begins anew (R155). -/
theorem State.burstQualified_call (enough : s.ring.settings.needed ≤ s.ring.qualified + 1) : s.burstQualified
    = (s.withRing { s.ring with noise := s.ring.noise - 1, qualified := 0, window := false }).call := if_pos enough

theorem State.burstQualified_counts (fewer : s.ring.qualified + 1 < s.ring.settings.needed) : s.burstQualified
    = s.withRing { s.ring with
        noise := s.ring.noise - 1, qualified := s.ring.qualified + 1
        window := if s.ring.qualified = 0 then true else s.ring.window } := by
  refine (if_neg (Nat.not_le.mpr fewer)).trans ?_
  by_cases first : s.ring.qualified = 0 <;> simp [first]

/-- Settles O60. -/
theorem burstsAreJudged : Obligations.BurstsAreJudged := by
  refine ⟨fun s => ⟨fun boot burst gap => leads_of_finish (exec_ringingPulse_first boot burst gap), fun burst => ?_,
    fun window => if_pos window, fun window => if_neg (by simp [window])⟩, fun s periods burst => ?_⟩
  · simp only [exec, execBurstEnd, burst]
  intro g good noise room entered judged called
  have judged_of {v : State} (h : s.judgeBurst periods = v) : judged v :=
    ⟨leads_of_finish (h ▸ exec_burstEnd burst), fun boot gap late => leads_of_finish (h ▸ exec_ringingPulse_late boot burst late)⟩
  have calls (enough : g.needed ≤ s.ring.qualified + 1) :
      (s.withRing { s.ring with burst := none }).burstQualified = called.call := State.burstQualified_call enough
  have qualified {v : State} (unmuted : s.ring.muted = false) (good' : good)
      (h : (s.withRing { s.ring with burst := none }).burstQualified = v) : judged v :=
    judged_of ((State.judgeBurst_good unmuted ((g.qualifies_iff periods).mpr good')).trans h)
  have disqualified {v : State} (unmuted : s.ring.muted = false) (bad : ¬ good)
      (h : (s.withRing { s.ring with burst := none }).burstDisqualified = v) : judged v :=
    judged_of ((State.judgeBurst_bad unmuted (mt (g.qualifies_iff periods).mp bad)).trans h)
  refine ⟨fun boot gap within => leads_of_finish (exec_ringingPulse_within boot burst within),
    fun muted => judged_of (State.judgeBurst_muted muted),
    fun unmuted good' fewer => qualified unmuted good' (State.burstQualified_counts fewer),
    fun unmuted good' enough off ⟨area, free⟩ none => qualified unmuted good' ?call,
    fun w unmuted good' enough settings ringing => ⟨fun sleeping => qualified unmuted good' ?wake,
      fun pending ⟨area, free⟩ none => qualified unmuted good' ?early⟩,
    fun unmuted bad within => disqualified unmuted bad (if_neg (Nat.not_lt.mpr within)),
    fun unmuted bad above awake ⟨area, free⟩ none => disqualified unmuted bad ?muted,
    fun unmuted bad above sleeping => disqualified unmuted bad ((if_pos above).trans (if_pos sleeping))⟩
  case call =>
    refine (calls enough).trans ((if_neg (ne_true_of_eq_false off)).trans ?_)
    exact State.offerPower_enters area free none
  case wake =>
    have enabled : called.ringingEnabled = true := State.ringingEnabled_of (.inr sleeping) settings ringing
    have word : wakeWord 0 s.power.lapse s.ring.muted = wordNat (s.power.lapse * 16) := by simp [wakeWord, unmuted]
    rw [← word]
    exact (calls enough).trans <| (if_pos enabled).trans (State.takeCause_sleeping (s := called) _ sleeping settings)
  case early =>
    have enabled : called.ringingEnabled = true := State.ringingEnabled_of (.inl pending) settings ringing
    have word : wakeWord WakeCause.ringing.code called.power.lapse called.ring.muted = wordNat (s.power.lapse * 16) := by
      simp [wakeWord, WakeCause.code, called, unmuted]
    have ends := State.wakeEarly_enters (s := called) w .ringing area free none
    rw [word] at ends
    exact (calls enough).trans ((if_pos enabled).trans ((State.takeCause_pending (s := called) .ringing pending settings).trans ends))
  case muted =>
    refine (if_pos above).trans ((if_neg awake).trans ?_)
    exact State.offerPower_enters area free none

end Sys2Proof.Machine
end

section
/-! Wake causes (R147 to R150): the wake that a cause starts, the sleep that it ends early, and the request for the wake
word's write (R21). -/

namespace Sys2Proof.Machine

open Sys2Proof

variable {s t : State}

/-! ### What the observations of an access leave to the Power Unit and the Memory Port -/

/-- The part of the state that no observation of an access writes: the Memory Port but for the mover's request, the Power
Unit, the pins and the ringing qualifier. -/
def State.powerSide (s : State) : Port × Power × Pins × Ringing := (s.port.besideMover, s.power, s.pins, s.ring)

theorem State.powerSide_of_besideReports (h : t.besideReports = s.besideReports) : t.powerSide = s.powerSide :=
  (congrArg State.powerSide h :)

@[simp] theorem State.withLines_powerSide (b : Fin 4) (y : Band) : (s.withLines b y).powerSide = s.powerSide := rfl

@[simp] theorem State.withCount_powerSide (b : Fin 4) (y : Band) (up : Bool) : (s.withCount b y up).powerSide = s.powerSide :=
  (State.powerSide_of_besideReports (State.withCount_beside b y up)).trans (State.withLines_powerSide ..)

@[simp] theorem State.observeHead_powerSide (a : Nat) (w : Word) : (s.observeHead a w).powerSide = s.powerSide := by
  unfold State.observeHead
  (repeat' split) <;> first
    | rfl
    | exact State.powerSide_of_besideReports (State.raiseFault_besideReports ..)

@[simp] theorem State.observeCpu_powerSide (x : CpuAccess) : (s.observeCpu x).powerSide = s.powerSide := by
  unfold State.observeCpu
  (repeat' split) <;> first
    | rfl
    | exact State.observeHead_powerSide ..

@[simp] theorem State.resumeP_powerSide (b : Fin 4) : (s.resumeP b).powerSide = s.powerSide := by
  unfold State.resumeP State.emitProceed State.tryLatch
  (repeat' split) <;> rfl

@[simp] theorem State.beginLine_powerSide (p : CaptureParams) (q : CaptureRecord) :
    (s.beginLine p q).powerSide = s.powerSide := by
  unfold State.beginLine
  split
  · exact State.withLines_powerSide ..
  · rfl

@[simp] theorem State.resumeD_powerSide (b : Fin 4) : (s.resumeD b).powerSide = s.powerSide := by
  unfold State.resumeD State.captureProceed
  (repeat' split) <;> first
    | rfl
    | exact State.beginLine_powerSide ..

@[simp] theorem State.applyObs_powerSide (obs : Obs) (who : Requester) (op : AccessOp) (addr : Nat) :
    (s.applyObs obs who op addr).powerSide = s.powerSide := by
  unfold State.applyObs
  (repeat' split) <;> first
    | rfl
    | simp
    | exact State.powerSide_of_besideReports (State.raiseFault_besideReports ..)

/-- The end of the processor's grant leaves the Power Unit as it was, and of the port ends the grant alone. -/
theorem State.processorObserved_powerSide {x : CpuAccess} (obs : Obs) :
    (((s.accessDone x).observeCpu x).applyObs obs .processor x.acc.op x.acc.at).powerSide
      = s.freePort.powerSide := by
  rw [State.applyObs_powerSide, State.observeCpu_powerSide]
  rfl

/-! ### The wake word is asked -/

/-- With a wake word to be written and no request or grant under the processor-passage claim, its write is asked. -/
theorem State.settle_asks_wakeWord (wakes : s.power.wakeWrites ≠ []) (free : s.port.procReq = none)
    (access : ∀ obs, s.port.grant ≠ some (.processor obs)) (write : s.port.grant ≠ some .wakeWord) :
    s.settle.port.procReq = some .wakeWord := by
  rw [State.settle_procReq, State.processorAsk_wakeWord free (State.processorGranted_eq_false access write) wakes]

/-- A request under the processor-passage claim stays. -/
theorem State.settle_keeps_procReq (waits : s.port.procReq ≠ none) : s.settle.port.procReq = s.port.procReq := by
  rw [State.settle_procReq, State.processorAsk, if_neg]
  simp [waits]

@[simp] theorem Port.leaveSelfRefresh_procReq (p : Port) : p.leaveSelfRefresh.procReq = p.procReq := by
  unfold Port.leaveSelfRefresh; split <;> rfl

/-- A wake cause taken leaves the request and the grant at the port, and a wake word to be written. -/
theorem State.takeCause_asks {w : WakeSettings} (c : WakeCause) (settings : s.power.settings = some w)
    (state : s.power.state = .sleeping ∨ s.power.state = .sleepPending) :
    (s.takeCause c).power.wakeWrites ≠ [] ∧ (s.takeCause c).port.procReq = s.port.procReq
      ∧ (s.takeCause c).port.grant = s.port.grant := by
  rcases state with state | state
  · rw [State.takeCause_sleeping c state settings]
    refine ⟨?_, Port.leaveSelfRefresh_procReq _, Port.leaveSelfRefresh_grant _⟩
    exact List.append_ne_nil_of_right_ne_nil _ (List.cons_ne_nil _ _)
  · rw [State.takeCause_pending c state settings, State.wakeEarly]
    generalize wakeReport _ _ = report
    have beside := fun u : State => State.offerPower_besideReports (s := u) report
    refine ⟨?_, (congrArg Port.procReq (State.port_of_besideReports (beside _)) :),
      (congrArg Port.grant (State.port_of_besideReports (beside _)) :)⟩
    rw [State.power_of_besideReports (beside _)]
    exact List.append_ne_nil_of_right_ne_nil _ (List.cons_ne_nil _ _)

/-! ### The timers of a sleep -/

theorem exec_patternTimerExpiry {p : Fin 4} (timer : s.power.patternTimers[p] = true) :
    exec (.patternTimerExpiry p) s = finish (s.takeCause (.pattern p)) := if_pos timer

theorem exec_wakeTimerExpiry (sleeping : s.power.state = .sleeping) (timer : s.power.wakeTimer.isSome) :
    exec .wakeTimerExpiry s = finish (s.takeCause .timer) := if_pos ⟨sleeping, timer⟩

/-- Settles O58. -/
theorem wakeCausesAreTaken : Obligations.WakeCausesAreTaken := by
  intro s w settings word woken
  have wakes (c : WakeCause) (sleeping : s.power.state = .sleeping) : s.takeCause c = woken c.code :=
    State.takeCause_sleeping c sleeping settings
  refine ⟨fun p timer sleeping => leads_of_finish ((exec_patternTimerExpiry timer).trans (congrArg finish (wakes _ sleeping))),
    fun c run => ?asks, fun obs x grant access free wake => ?after,
    fun sleeping timer => leads_of_finish ((exec_wakeTimerExpiry sleeping timer).trans (congrArg finish (wakes .timer sleeping))),
    fun p timer pending area room none => ?early, fun p stopped => if_neg (by simp [stopped])⟩
  case asks =>
    obtain ⟨cause, run, state⟩ : ∃ cause, exec c s = finish (s.takeCause cause)
        ∧ (s.power.state = .sleeping ∨ s.power.state = .sleepPending) := by
      rcases run with ⟨p, rfl, timer, state⟩ | ⟨rfl, sleeping, timer⟩
      · exact ⟨.pattern p, exec_patternTimerExpiry timer, state⟩
      · exact ⟨.timer, exec_wakeTimerExpiry sleeping timer, .inl sleeping⟩
    obtain ⟨owed, request, grant⟩ := State.takeCause_asks cause settings state
    generalize s.takeCause cause = u at run owed request grant
    refine ⟨u.settle, run, fun free access write => ?_, fun waits => ?_⟩
    · exact State.settle_asks_wakeWord owed (request.trans free) (by rwa [grant]) (by rwa [grant])
    · rw [State.settle_keeps_procReq (by rwa [request]), request]
  case after =>
    have run := exec_processorGrantEnd grant access
    have side := State.processorObserved_powerSide (s := s) (x := x) obs
    generalize ((s.accessDone x).observeCpu x).applyObs obs .processor x.acc.op x.acc.at = u at run side
    have port : u.port.besideMover = s.freePort.port.besideMover := congrArg (·.1) side
    have grant : u.port.grant = none := (congrArg Port.grant port :)
    have request : u.port.procReq = s.port.procReq := (congrArg Port.procReq port :)
    have power : u.power = s.power := congrArg (·.2.1) side
    refine ⟨u.settle, run, State.settle_asks_wakeWord (by rwa [power]) (request.trans free) ?_ ?_⟩
    · simp [grant]
    · simp [grant]
  case early =>
    refine leads_of_finish ((exec_patternTimerExpiry timer).trans (congrArg finish ?_))
    exact (State.takeCause_pending _ pending settings).trans (State.wakeEarly_enters w _ area room none)

end Sys2Proof.Machine
end

section
/-! A released processor access, judged again (R16), the final write of a SLEEP slot that falls due, and the ends of
SLEEP_PENDING (R146, R147). -/

namespace Sys2Proof.Machine

open Sys2Proof

variable {s t u : State} {a : Access} {x y : CpuAccess} {why : HoldReason}

/-! ### What the judgement of a processor access leaves -/

/-- A state with the processor's access and answer, the unposted-fault count and the Report Unit left out: what the judgement
of a processor access does not write. -/
def State.besideCpu (s : State) : State :=
  { s with reports := Reports.reset, passage := { s.passage with cpu := none, reply := none, unposted := 0 } }

@[simp] theorem State.withCpu_besideCpu (x : Option CpuAccess) : (s.withCpu x).besideCpu = s.besideCpu := rfl
@[simp] theorem State.completeCpu_besideCpu (a : Access) (d : Option Word) :
    (s.completeCpu a d).besideCpu = s.besideCpu := rfl
@[simp] theorem State.raiseFault_besideCpu (f : PassageFault) : (s.raiseFault f).besideCpu = s.besideCpu := by
  unfold State.raiseFault State.enter
  (repeat' split) <;> rfl
@[simp] theorem State.expireHold_besideCpu (x : CpuAccess) (b : Fin 4) : (s.expireHold x b).besideCpu = s.besideCpu := by
  unfold State.expireHold State.endHold
  split <;> simp
@[simp] theorem State.presentCpu_besideCpu (a : Access) (t : HoldTimer) : (s.presentCpu a t).besideCpu = s.besideCpu := by
  unfold State.presentCpu State.holdCpu
  (repeat' split) <;> simp
@[simp] theorem State.releaseCpu_besideCpu (why : HoldReason) : (s.releaseCpu why).besideCpu = s.besideCpu := by
  unfold State.releaseCpu
  (repeat' split) <;> simp

section
variable (h : t.besideCpu = s.besideCpu)
include h

theorem State.port_of_besideCpu : t.port = s.port := (congrArg State.port h :)
theorem State.power_of_besideCpu : t.power = s.power := (congrArg State.power h :)
theorem State.intake_of_besideCpu : t.intake = s.intake := (congrArg State.intake h :)
theorem State.pins_of_besideCpu : t.pins = s.pins := (congrArg State.pins h :)
theorem State.ring_of_besideCpu : t.ring = s.ring := (congrArg State.ring h :)

end

/-! ### A released access -/

theorem State.releaseCpu_of_not_held (h : ∀ x, s.passage.cpu = some x → x.status ≠ .held why) : s.releaseCpu why = s := by
  unfold State.releaseCpu
  split
  · next x hx => exact if_neg (h x hx)
  · rfl

theorem State.releaseCpu_of_held (hx : s.passage.cpu = some x) (hs : x.status = .held why) :
    s.releaseCpu why = s.presentCpu x.acc x.timer.stop := by
  simp only [State.releaseCpu, hx, if_pos hs]

theorem HoldTimer.stop_stop (t : HoldTimer) : t.stop.stop = t.stop := by cases t <;> rfl

/-- A released access that the Passage lets pass. -/
theorem State.releaseCpu_passes {path : Path} (hx : s.passage.cpu = some x) (hs : x.status = .held why)
    (hc : s.classify .processor x.acc = .pass path) :
    s.releaseCpu why = s.withCpu (some ⟨x.acc, .passing path, x.timer.stop⟩) := by
  rw [State.releaseCpu_of_held hx hs, State.presentCpu]
  simp only [hc, HoldTimer.stop_stop]

/-! ### With no rest address nothing is held at it -/

/-- A hold that the Window Table gives is on a slot or on a band's line. -/
theorem State.windowTreatment_not_rest {who : Requester} (a : Access) : s.windowTreatment who a ≠ .hold .rest := by
  unfold State.windowTreatment State.ordersTreatment State.reportsTreatment State.bandTreatment
  (repeat' split) <;> simp

theorem State.classify_not_rest {who : Requester} (h : s.restAddress = none) (a : Access) : s.classify who a ≠ .hold .rest := by
  unfold State.classify
  (repeat' split) <;> first
    | exact s.windowTreatment_not_rest a
    | simp_all

theorem State.restAddress_none (h : s.power.state ≠ .sleepPending) : s.restAddress = none := by
  unfold State.restAddress
  split
  · next e _ => exact absurd e h
  · rfl

/-- The cpu's access after the end of its hold is none, or completes. -/
theorem State.endHold_not_held (hy : (s.endHold x).passage.cpu = some y) : y.status ≠ .held why := by
  unfold State.endHold at hy
  split at hy
  · cases hy
  · obtain rfl := Option.some.inj hy
    simp

theorem State.holdCpu_not_rest {t : HoldTimer} (h : why ≠ .rest) (hy : (s.holdCpu a why t).passage.cpu = some y) :
    y.status ≠ .held .rest := by
  unfold State.holdCpu at hy
  split at hy
  · split at hy
    · refine State.endHold_not_held ((State.cpu_of_besideReports (State.raiseFault_besideReports _)).symm.trans hy)
    · obtain rfl := Option.some.inj hy
      simp
  · obtain rfl := Option.some.inj hy
    simp
  · exact absurd rfl h

theorem State.presentCpu_not_rest {t : HoldTimer} (h : s.restAddress = none)
    (hy : (s.presentCpu a t).passage.cpu = some y) : y.status ≠ .held .rest := by
  unfold State.presentCpu at hy
  split at hy
  · have none := (State.cpu_of_besideReports (State.raiseFault_besideReports _)).symm.trans hy
    cases none
  · obtain rfl := Option.some.inj hy
    simp
  · next why hw => exact State.holdCpu_not_rest (fun e => State.classify_not_rest h a (e ▸ hw)) hy

/-- A rest read released while no address rests is held there no more (R147). -/
theorem State.releaseCpu_not_rest (h : s.restAddress = none) (hy : (s.releaseCpu .rest).passage.cpu = some y) :
    y.status ≠ .held .rest := by
  by_cases held : ∃ x, s.passage.cpu = some x ∧ x.status = .held .rest
  · obtain ⟨x, hx, hs⟩ := held
    rw [State.releaseCpu_of_held hx hs] at hy
    exact State.presentCpu_not_rest h hy
  · have away : ∀ x, s.passage.cpu = some x → x.status ≠ .held .rest := fun x hx hs => held ⟨x, hx, hs⟩
    rw [State.releaseCpu_of_not_held away] at hy
    exact away y hy

/-! ### A final write that falls due -/

/-- A final write owed right after an event waits, or is the one that the Intake asks for. -/
theorem Follows.owed (f : Follows u t) {w : FinalWrite} (h : w ∈ u.intake.finalWrites) :
    w ∈ t.intake.finalWrites ∨ t.port.intakeReq = some (.final w) := by
  rcases f.writes with ⟨more, e⟩ | ⟨-, more, v, e, asked⟩
  · exact .inl (e ▸ List.mem_append_left _ h)
  · rcases List.mem_cons.mp (e ▸ List.mem_append_left more h) with rfl | waits
    · exact .inr asked
    · exact .inl waits

/-! ### The ends of SLEEP_PENDING -/

/-- What the end of a sleep leaves: the Power Unit awake, self-refresh not asked, the slot's final write owed, no rest read
held (R147). -/
structure SleepEnded (s t : State) (slot : Nat) (r : Result) : Prop where
  power : t.power = { Power.reset with wakeWrites := s.power.wakeWrites }
  port : t.port = { s.port with selfAsked := false }
  intake : t.intake = { s.intake with finalWrites := s.intake.finalWrites ++ [⟨.sleep, slot, kindSleep, r⟩] }
  cpu : ∀ x, t.passage.cpu = some x → x.status ≠ .held .rest

theorem State.endSleep_ended {w : WakeSettings} (settings : s.power.settings = some w) (r : Result) :
    SleepEnded s (s.endSleep r) w.slot r := by
  unfold State.endSleep
  simp only [settings]
  have beside (u : State) := State.releaseCpu_besideCpu (s := u) .rest
  exact
    { power := (State.power_of_besideCpu (beside _)).trans rfl
      port := (State.port_of_besideCpu (beside _)).trans rfl
      intake := (State.intake_of_besideCpu (beside _)).trans rfl
      cpu := fun x hx => State.releaseCpu_not_rest rfl hx }

theorem not_returning_of_state (h : s.power.state ≠ .wakeConfirm) : ¬ s.Returning := fun r => h r.1

/-- Settles O57. -/
theorem sleepIsEnteredOrAbandoned : Obligations.SleepIsEnteredOrAbandoned := by
  intro s w settings off
  refine ⟨fun x state idle access rest pending waiting wakes => leads_of_finish (if_pos ?_),
    fun asked free notDue active => ?refresh, fun state limit => ?abandoned, fun no => if_neg ?_⟩
  · have held : s.restHeld = true := by simp only [State.restHeld, access, rest, decide_true]
    simp [State.mayEnterSleep, state, idle, held, pending, waiting, wakes]
  case refresh =>
    have may : s.maySelfRefresh = true := by simp [State.maySelfRefresh, asked, free, notDue, active]
    have run : execSelfRefreshEntry s = finish ((s.withPort
        { s.port with dram := .selfRefresh, refreshTimer := false, selfAsked := false }).enterSleeping w) := by
      simp only [execSelfRefreshEntry, settings, may, if_true]
    exact leads_of_finish run
  case abandoned =>
    have run : exec .sleepLimitExpiry s = finish (s.endSleep .abandoned) := if_pos ⟨state, limit⟩
    obtain ⟨power, port, intake, cpu⟩ := State.endSleep_ended settings .abandoned
    obtain ⟨t, ht, f⟩ := leads_of_finish run
    have awake := f.awake (not_returning_of_state (by rw [power]; simp [Power.reset]))
    refine ⟨t, ht, awake.1.trans power, awake.2.2.2.2.trans (congrArg Port.selfAsked port), f.owed ?_,
      fun x hx => cpu x (f.cpu ▸ hx)⟩
    rw [intake]
    exact List.mem_append_right _ (List.mem_singleton_self _)
  · rintro ⟨state, limit⟩
    rcases no with no | no
    · exact no state
    · rw [no] at limit
      cases limit

end Sys2Proof.Machine
end

section
/-! The wake word's write, the wake steps after it, and the return to sleep at a lapse (R147, R149 to R152). -/

namespace Sys2Proof.Machine

open Sys2Proof

variable {s t u : State}

/-! ### The wake word's write (R149) -/

/-- The state in which the wake word stands in memory and its grant has ended. -/
def State.wakeWritten (s : State) (a : Nat) (word : Word) (rest : List (Nat × Word)) : State :=
  ((s.store (wordBytes a word)).withPort { s.port with grant := none }).withPower { s.power with wakeWrites := rest }

theorem exec_wakeWordWritten {a : Nat} {word : Word} {rest : List (Nat × Word)} (grant : s.port.grant = some .wakeWord)
    (wakes : s.power.wakeWrites = (a, word) :: rest) :
    exec .wakeWordWritten s = finish ((s.wakeWritten a word rest).wakeWordDone word) := by
  simp only [exec, execWakeWordWritten, grant, wakes, State.endGrant, State.grantTransfers]
  rfl

theorem State.wakeWordDone_awake (running : s.power.state = .running) (word : Word) :
    s.wakeWordDone word = s.releaseCpu .rest := by
  unfold State.wakeWordDone
  split
  · next e _ _ => rw [running] at e; cases e
  · rfl

theorem State.wakeWordDone_waking {w : WakeSettings} (confirm : s.power.state = .wakeConfirm) (stage : s.power.stage = .waking)
    (settings : s.power.settings = some w) (word : Word) :
    s.wakeWordDone word = (((s.withClock true).releaseCpu .rest).reportWake w word).startConfirm w.confirm := by
  simp only [State.wakeWordDone, confirm, stage, settings]

/-! ### The reports of a wake (R149, R150, R155) -/

/-- The kind of a wake's report, by the lapse count (R150). -/
def wakeKind (lapse : Nat) : WakeKind := if lapse = 0 then .first else .afterLapse

theorem wakeReport_kind (word : Word) (lapse : Nat) :
    wakeReport word (wakeKind lapse) = ⟨.power, 1, [word, if lapse = 0 then 0 else 1, 0, 0, 0, 0, 0]⟩ := by
  unfold wakeKind
  split <;> rfl

/-- Step 5 of a wake: the SLEEP slot's final write, if it is still owed. -/
def State.oweAtWake (s : State) (w : WakeSettings) : State :=
  if w.ended then s
  else (s.oweSleepWrite w.slot .ok).withPower { s.power with settings := some { w with ended := true } }

/-- A POWER MUTED report that was held through the sleep is offered. -/
def State.offerHeld (s : State) (held : Option Report) : State :=
  match held with
  | some r => (s.offerPower r).withRing { s.ring with heldMuted := none }
  | none => s

theorem State.reportWake_eq (w : WakeSettings) (word : Word) : s.reportWake w word
    = ((s.oweAtWake w).offerPower (wakeReport word (wakeKind s.power.lapse))).offerHeld s.ring.heldMuted := by
  cases held : s.ring.heldMuted <;> simp only [State.reportWake, held, State.offerHeld] <;> rfl

/-! #### What the reports of a wake leave -/

@[simp] theorem State.offerPower_intake (r : Report) : (s.offerPower r).intake = s.intake := by
  simp only [State.offerPower, State.offer, State.enterItem]
  (repeat' split) <;> simp

theorem State.enter_pending (r : Report) : s.reports.pending <+: (s.enter r).reports.pending := by
  unfold State.enter
  split
  · exact List.prefix_append _ _
  · exact List.prefix_rfl

theorem State.offerPower_pending (r : Report) : s.reports.pending <+: (s.offerPower r).reports.pending := by
  unfold State.offerPower State.offer
  (repeat' split) <;> first
    | exact List.prefix_rfl
    | exact State.enter_pending r

theorem State.offerHeld_pending (held : Option Report) :
    s.reports.pending <+: (s.offerHeld held).reports.pending := by
  cases held with
  | none => exact List.prefix_rfl
  | some r => exact State.offerPower_pending r

theorem State.offerHeld_intake (held : Option Report) : (s.offerHeld held).intake = s.intake := by
  cases held with
  | none => rfl
  | some r => exact State.offerPower_intake r

/-- What steps 5 and 6 of a wake leave (R149). -/
structure WakeReported (s t : State) (w : WakeSettings) : Prop where
  power : t.power = { s.power with settings := some { w with ended := true } }
  pins : t.pins = s.pins
  cpu : t.passage.cpu = s.passage.cpu
  muted : t.ring.heldMuted = none
  owed : w.ended = false → ⟨.sleep, w.slot, kindSleep, .ok⟩ ∈ t.intake.finalWrites

theorem State.oweAtWake_power {w : WakeSettings} (settings : s.power.settings = some w) :
    (s.oweAtWake w).power = { s.power with settings := some { w with ended := true } } := by
  unfold State.oweAtWake
  split
  · next ended =>
    have same : { w with ended := true } = w := by rw [← ended]
    rw [same, ← settings]
  · rfl

theorem State.offerHeld_leaves (held : Option Report) : (s.offerHeld held).power = s.power ∧ (s.offerHeld held).pins = s.pins
    ∧ (s.offerHeld held).passage.cpu = s.passage.cpu := by
  cases held with
  | none => exact ⟨rfl, rfl, rfl⟩
  | some r =>
    have beside := s.offerPower_besideReports r
    exact ⟨(State.power_of_besideReports beside :), (State.pins_of_besideReports beside :),
      (State.cpu_of_besideReports beside :)⟩

theorem State.reportWake_leaves {w : WakeSettings} (settings : s.power.settings = some w) (word : Word) :
    WakeReported s (s.reportWake w word) w := by
  rw [State.reportWake_eq]
  generalize wakeReport word (wakeKind s.power.lapse) = report
  have beside := (s.oweAtWake w).offerPower_besideReports report
  have owe : (s.oweAtWake w).pins = s.pins ∧ (s.oweAtWake w).passage = s.passage ∧ (s.oweAtWake w).ring = s.ring := by
    unfold State.oweAtWake
    split <;> exact ⟨rfl, rfl, rfl⟩
  obtain ⟨pins, passage, ring⟩ := owe
  obtain ⟨power', pins', cpu'⟩ := ((s.oweAtWake w).offerPower report).offerHeld_leaves s.ring.heldMuted
  exact
    { power := power'.trans ((State.power_of_besideReports beside).trans (State.oweAtWake_power settings))
      pins := pins'.trans ((State.pins_of_besideReports beside).trans pins)
      cpu := cpu'.trans ((State.cpu_of_besideReports beside).trans (congrArg Passage.cpu passage))
      muted := by
        cases held : s.ring.heldMuted with
        | none =>
          refine (congrArg Ringing.heldMuted ((State.ring_of_besideReports beside).trans ring)).trans held
        | some m => rfl
      owed := fun ended => by
        rw [State.offerHeld_intake, State.offerPower_intake, State.oweAtWake, if_neg (by simp [ended])]
        exact List.mem_append_right _ (List.mem_singleton_self _) }

/-- With an empty pending queue the POWER WAKE report enters it, and behind it the POWER MUTED report held. -/
theorem State.reportWake_enters (w : WakeSettings) (word : Word) (area : s.hasReports = true) (empty : s.reports.pending = [])
    (none : s.powerWaits 1 = false) :
    [wakeReport word (wakeKind s.power.lapse)] <+: (s.reportWake w word).reports.pending
      ∧ ∀ m, s.ring.heldMuted = some m → s.powerWaits m.code = false →
        [wakeReport word (wakeKind s.power.lapse), m] <+: (s.reportWake w word).reports.pending := by
  rw [State.reportWake_eq]
  have owe : (s.oweAtWake w).reports = s.reports ∧ (s.oweAtWake w).hasReports = s.hasReports := by
    unfold State.oweAtWake
    split <;> exact ⟨rfl, rfl⟩
  obtain ⟨reports, area'⟩ := owe
  generalize s.oweAtWake w = u at reports area'
  have waits (code : Nat) : u.powerWaits code = s.powerWaits code := by rw [State.powerWaits, reports, State.powerWaits]
  have wake := State.offerPower_enters (s := u) (r := wakeReport word (wakeKind s.power.lapse)) (area'.trans area)
    (by simp [reports, empty]) ((waits 1).trans none)
  rw [reports, empty] at wake
  refine ⟨?_, fun m held free => ?_⟩
  · have first := State.offerHeld_pending (s := u.offerPower (wakeReport word (wakeKind s.power.lapse))) s.ring.heldMuted
    refine List.IsPrefix.trans ?_ first
    rw [wake]
    exact List.prefix_rfl
  · rw [held, wake]
    have muted := State.offerPower_enters (s := u.withReports { s.reports with pending := [] ++ [wakeReport word
      (wakeKind s.power.lapse)] }) (r := m) (area'.trans area) (Nat.lt_of_sub_eq_succ rfl) free
    change _ <+: (State.offerPower _ m).reports.pending
    rw [muted]
    exact List.prefix_rfl

end Sys2Proof.Machine
end

section
/-! A return to sleep (R152) as far as it goes on of itself, and the commands of the wake and the lapse. -/

namespace Sys2Proof.Machine

open Sys2Proof

variable {s t u : State}

/-! ### What follows of itself before the return to sleep goes on -/

/-- What the return to sleep rests on and writes: the Power Unit, the processor's access, the Report Unit, the channels, the
pins and the request for self-refresh. -/
def State.lapseSide (s : State) : Power × Option CpuAccess × Reports × Channel × Channel × Pins × Bool :=
  (s.power, s.passage.cpu, s.reports, s.chanD, s.chanP, s.pins, s.port.selfAsked)

@[simp] theorem State.settleCapture_lapseSide (s : State) : s.settleCapture.lapseSide = s.lapseSide := by
  obtain ⟨r, h⟩ := s.settleCapture_eq
  rw [h]; rfl

@[simp] theorem State.settleEmit_lapseSide (s : State) : s.settleEmit.lapseSide = s.lapseSide := by
  obtain ⟨r, h⟩ := s.settleEmit_eq
  rw [h]; rfl

@[simp] theorem State.settleProcessor_lapseSide (s : State) : s.settleProcessor.lapseSide = s.lapseSide := by
  obtain ⟨r, h⟩ := s.settleProcessor_eq
  rw [h]; rfl

@[simp] theorem State.settleTake_lapseSide (s : State) : s.settleTake.lapseSide = s.lapseSide := by
  unfold State.settleTake
  (repeat' split) <;> rfl

@[simp] theorem State.settleIntake_lapseSide (s : State) : s.settleIntake.lapseSide = s.lapseSide := by
  unfold State.settleIntake State.requestFetch
  (repeat' split) <;> dsimp only <;> (repeat' split) <;> rfl

/-- The return to sleep goes on last, from a state in which the mover has come as far as it can. -/
theorem State.settle_lapse (s : State) :
    ∃ v : State, s.settle = v.settleLapse ∧ v.lapseSide = s.settleMover.lapseSide := ⟨_, rfl, by simp⟩

theorem State.settle_lapse_quiet (quiet : s.moverFree = false) :
    ∃ v : State, s.settle = v.settleLapse ∧ v.lapseSide = s.lapseSide := by
  have settled := s.settle_lapse
  rwa [State.settleMover_quiet quiet] at settled

/-! ### The return to sleep goes on -/

/-- A posting can be made: a report is pending and the report area is not full (R152). -/
def State.canPost (s : State) : Prop := s.reports.pending ≠ [] ∧ s.reports.unconsumed.length < s.reports.count

/-- Self-refresh asked, both channels de-energised (R152 step 3). -/
def State.lapseAsks (s : State) : State :=
  (s.deEnergiseBoth.askSelfRefresh true).withPower { s.power with stage := .awaitRefresh }

theorem State.settleLapse_posts (confirm : s.power.state = .wakeConfirm) (stage : s.power.stage = .postReports) :
    (s.canPost → s.settleLapse = s) ∧ (¬ s.canPost → s.settleLapse = s.lapseAsks) := by
  have step : s.settleLapse = if s.reports.pending = [] ∨ s.reports.count ≤ s.reports.unconsumed.length then s.lapseAsks else s := by
    simp [State.settleLapse, confirm, stage, State.lapseAsks]
  rw [step]
  refine ⟨fun ⟨some', room⟩ => if_neg (not_or.mpr ⟨some', Nat.not_le.mpr room⟩), fun no => if_pos ?_⟩
  by_contra h
  obtain ⟨some', room⟩ := not_or.mp h
  exact no ⟨some', Nat.not_le.mp room⟩

/-- The processor's access outstanding keeps the clock running. -/
theorem State.settleLapse_waits (stage : s.power.stage = .stopClock) (outstanding : s.passage.cpu ≠ none) :
    s.settleLapse = s := by
  simp [State.settleLapse, stage, outstanding]

/-- The clock is stopped. -/
def State.lapseStops (s : State) : State := (s.withClock false).withPower { s.power with stage := .postReports }

theorem State.settleLapse_stops (confirm : s.power.state = .wakeConfirm) (stage : s.power.stage = .stopClock)
    (idle : s.passage.cpu = none) : s.settleLapse = s.lapseStops.settleLapse := by
  have stopped : s.lapseStops.power.state = .wakeConfirm := confirm
  have posts : s.lapseStops.power.stage = .postReports := rfl
  have skip : ¬ (s.lapseStops.power.stage = .stopClock ∧ s.lapseStops.passage.cpu = none) := by simp [posts]
  simp only [State.settleLapse, if_pos confirm, if_pos (And.intro stage idle), if_pos stopped, if_neg skip]
  rfl

/-- How a return to sleep stands after it has stopped the clock, if it could. -/
theorem State.settleLapse_stopped (confirm : s.power.state = .wakeConfirm) (stage : s.power.stage = .stopClock)
    (idle : s.passage.cpu = none) : (s.canPost → s.settleLapse = s.lapseStops)
      ∧ (¬ s.canPost → s.settleLapse = s.lapseStops.lapseAsks) := by
  rw [State.settleLapse_stops confirm stage idle]
  exact State.settleLapse_posts (s := s.lapseStops) confirm rfl

/-! ### CONFIRM_TIMER_EXPIRY -/

/-- A lapse but the third begins a return to sleep (R152). -/
theorem exec_confirmTimerExpiry (confirm : s.power.state = .wakeConfirm) (timer : s.power.confirmTimer.isSome)
    (lapse : s.power.lapse ≤ 1) (words : Nat) : exec (.confirmTimerExpiry words) s = finish
      (s.withPower { s.power with lapse := s.power.lapse + 1, confirmTimer := none, stage := .stopClock }) :=
  (if_pos ⟨confirm, timer⟩).trans (if_neg (by omega))

theorem canPost_congr (h : t.reports = s.reports) : t.canPost ↔ s.canPost := by rw [State.canPost, h, State.canPost]

/-- Step 7 of a wake writes the Power Unit alone (R149). -/
theorem State.startConfirm_eq (confirm : Nat) : s.startConfirm confirm = s.withPower (if s.power.noticeKept
    then s.power.toRunning else { s.power with stage := .confirming, confirmTimer := some confirm }) := by
  unfold State.startConfirm
  split
  · rfl
  · rfl

/-- The state that the wake word's write leads to in a wake. -/
def State.wokenUp (s : State) (w : WakeSettings) (word : Word) : State :=
  (((s.withClock true).releaseCpu .rest).reportWake w word).startConfirm w.confirm

/-- What the wake steps leave: the clock, the Power Unit confirming or confirmed, the rest read released (R149). -/
structure WokenUp (s u : State) (w : WakeSettings) : Prop where
  clock : u.pins.clock = true
  wakes : u.power.wakeWrites = s.power.wakeWrites
  confirming : s.power.noticeKept = false → u.power.state = s.power.state ∧ u.power.stage = .confirming
    ∧ u.power.confirmTimer = some w.confirm
  confirmed : s.power.noticeKept = true → u.power.state = .running ∧ u.power.settings = none
  muted : u.ring.heldMuted = none
  owed : w.ended = false → ⟨.sleep, w.slot, kindSleep, .ok⟩ ∈ u.intake.finalWrites
  dram : u.dram = s.dram
  cpu : u.passage.cpu = ((s.withClock true).releaseCpu .rest).passage.cpu

theorem State.wokenUp_leaves {w : WakeSettings} (settings : s.power.settings = some w) (word : Word) :
    WokenUp s (s.wokenUp w word) w := by
  have beside := (s.withClock true).releaseCpu_besideCpu .rest
  have dram : ((s.withClock true).releaseCpu .rest).dram = s.dram := congrArg Outside.dram (State.releaseCpu_outside _ _)
  unfold State.wokenUp
  generalize released : (s.withClock true).releaseCpu .rest = r at beside dram
  have power : r.power = s.power := (State.power_of_besideCpu beside).trans rfl
  have leaves := State.reportWake_leaves (s := r) (by rw [power]; exact settings) word
  have stored : (r.reportWake w word).dram = r.dram := congrArg Outside.dram (State.reportWake_outside ..)
  rw [State.startConfirm_eq]
  generalize r.reportWake w word = q at leaves stored
  obtain ⟨power', pins', cpu', muted, owed⟩ := leaves
  rw [power] at power'
  refine ⟨?_, ?_, fun fresh => ?_, fun kept => ?_, muted, owed, stored.trans dram, released ▸ cpu'⟩
  · exact (congrArg Pins.clock pins').trans (congrArg Pins.clock (State.pins_of_besideCpu beside))
  · rw [power']
    dsimp only [State.withPower]
    split <;> rfl
  · rw [power', if_neg (by simp [fresh])]
    exact ⟨rfl, rfl, rfl⟩
  · rw [power', if_pos kept]
    exact ⟨rfl, rfl⟩

theorem WokenUp.not_returning {w : WakeSettings} (h : WokenUp s u w) : ¬ u.Returning := by
  rintro ⟨state, stage⟩
  cases kept : s.power.noticeKept with
  | true => rw [(h.confirmed kept).1] at state; cases state
  | false => rw [(h.confirming kept).2.1] at stage; simp at stage

theorem powerWaits_congr (h : t.reports = s.reports) (code : Nat) : t.powerWaits code = s.powerWaits code := by
  rw [State.powerWaits, h, State.powerWaits]

/-- A rest read that passes, or none, leaves the reports and the qualifier as they were when the wake releases it. -/
theorem State.wakeReleased_reports (passes : ∀ x, s.passage.cpu = some x → x.status = .held .rest →
      ∃ path, s.classify .processor x.acc = .pass path) :
    let r := (s.withClock true).releaseCpu .rest
    r.reports = s.reports ∧ r.hasReports = s.hasReports ∧ r.ring = s.ring ∧ r.power.lapse = s.power.lapse := by
  by_cases held : ∃ x, s.passage.cpu = some x ∧ x.status = .held .rest
  · obtain ⟨x, hx, hs⟩ := held
    obtain ⟨path, hc⟩ := passes x hx hs
    dsimp only
    rw [State.releaseCpu_passes (by exact hx) hs (by exact hc)]
    exact ⟨rfl, rfl, rfl, rfl⟩
  · dsimp only
    rw [State.releaseCpu_of_not_held (s := s.withClock true) fun x hx hs => held ⟨x, hx, hs⟩]
    exact ⟨rfl, rfl, rfl, rfl⟩

theorem State.canPost_iff : s.canPost ↔ s.reports.pending ≠ [] ∧ ¬ s.reports.count ≤ s.reports.unconsumed.length :=
  and_congr_right fun _ => Nat.not_le.symm

theorem State.moverFree_of_not_mover (h : t.mover = s.mover) (hr : t.port.moverReq = s.port.moverReq)
    (ht : t.moverGranted = s.moverGranted) : t.moverFree = s.moverFree := by
  rw [State.moverFree, h, hr, ht, State.moverFree]

/-- Settles O59: the wake word's write after an early end and in a wake, the lapse, and the three ways on from it. -/
theorem wakesAreWrittenAndConfirmed : Obligations.WakesAreWrittenAndConfirmed := by
  refine ⟨fun s a word rest grant wakes running => ?early, fun s w a word rest settings => ⟨fun grant wakes confirm stage => ?wake,
    fun confirm timer lapse words => leads_of_finish (exec_confirmTimerExpiry confirm timer lapse words), ?sleep,
    fun no words => if_neg ?_⟩⟩
  case early =>
    have run := exec_wakeWordWritten grant wakes
    rw [State.wakeWordDone_awake (by exact running)] at run
    refine ⟨fun away => ?_, fun x path hx hs hc => ?_⟩
    · rw [State.releaseCpu_of_not_held (by exact away)] at run
      exact leads_of_finish run
    · rw [State.releaseCpu_passes (by exact hx) hs (by exact hc)] at run
      exact leads_of_finish run
  case wake =>
    have run := exec_wakeWordWritten grant wakes
    rw [State.wakeWordDone_waking (by exact confirm) (by exact stage) (by exact settings)] at run
    have woken := State.wokenUp_leaves (s := s.wakeWritten a word rest) settings word
    obtain ⟨t, ht, f⟩ := leads_of_finish run
    obtain ⟨power, -, -, pins, -⟩ := f.awake woken.not_returning
    refine ⟨t, ht, f.dram.trans woken.dram, (congrArg Pins.clock pins).trans woken.clock,
      (congrArg Power.wakeWrites power).trans woken.wakes, fun x hx => ?released, fun ended => f.owed (woken.owed ended),
      fun x path hx hs hc => ?passes, fun area empty free passes => ?reports, ?muted, fun fresh => ?confirming,
      fun kept => ?confirmed⟩
    case released =>
      refine State.releaseCpu_not_rest (State.restAddress_none ?_) ((f.cpu.trans woken.cpu).symm.trans hx)
      exact (confirm ▸ by simp : s.power.state ≠ .sleepPending)
    case passes =>
      have released := State.releaseCpu_passes (s := (s.wakeWritten a word rest).withClock true) hx hs hc
      rw [f.cpu.trans woken.cpu, released]
      rfl
    case reports =>
      obtain ⟨reports, area', ring, power'⟩ := State.wakeReleased_reports (s := s.wakeWritten a word rest) passes
      generalize ((s.wakeWritten a word rest).withClock true).releaseCpu .rest = r at f reports area' ring power'
      obtain ⟨first, second⟩ := State.reportWake_enters (s := r) w word (area'.trans area)
        ((congrArg Reports.pending reports).trans empty) ((powerWaits_congr reports 1).trans free)
      rw [State.startConfirm_eq] at f
      rw [power'] at first second
      rw [ring] at second
      rw [← wakeReport_kind]
      exact ⟨first.trans f.pending, fun m held none =>
        (second m held ((powerWaits_congr reports m.code).trans none)).trans f.pending⟩
    case muted => exact (congrArg Ringing.heldMuted f.ring).trans woken.muted
    case confirming =>
      obtain ⟨state, stage', timer⟩ := woken.confirming fresh
      rw [power]
      exact ⟨state.trans confirm, stage', timer⟩
    case confirmed =>
      rw [power]
      exact woken.confirmed kept
  case sleep =>
    intro off stays asked full confirm quiet
    refine ⟨fun words timer lapse => ?lapses, fun obs x stage grant access => ?access, fun x rest stage grant pending waiting => ?post⟩
    case lapses =>
      have run := exec_confirmTimerExpiry confirm timer lapse words
      obtain ⟨v, settled, side⟩ := State.settle_lapse_quiet
        (s := s.withPower { s.power with lapse := s.power.lapse + 1, confirmTimer := none, stage := .stopClock }) quiet
      rw [finish, settled] at run
      simp only [State.lapseSide, Prod.mk.injEq] at side
      obtain ⟨power, cpu, reports, chanD, chanP, pins, request⟩ := side
      have confirm' : v.power.state = .wakeConfirm := by rw [power]; exact confirm
      have stage' : v.power.stage = .stopClock := by rw [power]; rfl
      refine ⟨_, run, fun outstanding => ?_, fun idle => ?_⟩
      · rw [State.settleLapse_waits stage' (by rw [cpu]; exact outstanding)]
        exact ⟨stage', congrArg Pins.clock pins, chanD, chanP, request⟩
      · obtain ⟨posts, asks⟩ := State.settleLapse_stopped confirm' stage' (cpu.trans idle)
        have can : v.canPost ↔ s.canPost := canPost_congr reports
        by_cases more : s.canPost
        · rw [posts (can.mpr more)]
          exact ⟨rfl, fun _ _ => ⟨rfl, chanD, chanP, request⟩, fun none => absurd none (by
            obtain ⟨some', room⟩ := State.canPost_iff.mp more
            exact not_or.mpr ⟨some', room⟩)⟩
        · rw [asks (mt can.mp more)]
          exact ⟨rfl, fun some' room => absurd (State.canPost_iff.mpr ⟨some', room⟩) more,
            fun _ => ⟨rfl, rfl, congrArg Channel.deEnergise chanD, congrArg Channel.deEnergise chanP⟩⟩
    case access =>
      have run := exec_processorGrantEnd grant access
      have side := State.processorObserved_powerSide (s := s) (x := x) obs
      have done : (s.accessDone x).Answered (some ⟨x.acc, s.cpuData x⟩) := ⟨rfl, rfl⟩
      obtain ⟨idle, -⟩ := (done.observeCpu x).applyObs obs .processor x.acc.op x.acc.at
      generalize ((s.accessDone x).observeCpu x).applyObs obs .processor x.acc.op x.acc.at = u at run side idle
      have went := u.settleMover_leaves
      obtain ⟨v, settled, same⟩ := u.settle_lapse
      rw [finish, settled] at run
      have power : v.power = s.power := (congrArg (·.1) same).trans (went.wakes.trans (congrArg (·.2.1) side))
      have cpu : v.passage.cpu = none := (congrArg (·.2.1) same).trans (went.cpu.trans idle)
      obtain ⟨posts, asks⟩ := State.settleLapse_stopped (s := v) (power ▸ confirm) (power ▸ stage) cpu
      refine ⟨_, run, ?_⟩
      by_cases more : v.canPost
      · rw [posts more]
        exact ⟨rfl, by simp [State.lapseStops]⟩
      · rw [asks more]
        exact ⟨rfl, by simp [State.lapseStops, State.lapseAsks]⟩
    case post =>
      have run := exec_reportPostEnd grant
      rw [Reports.posted_of_pending pending, State.admitOne_none (by exact waiting)] at run
      have still : (s.endGrant .report).moverFree = false := (State.moverFree_of_not_mover (s := s) (t := s.endGrant .report) rfl rfl
        (by simp only [State.moverGranted, grant]; rfl)).trans quiet
      generalize hu : (s.endGrant .report).withReports _ = u at run
      have stands : u.moverFree = false := by rw [← hu]; exact still
      obtain ⟨v, settled, side⟩ := u.settle_lapse_quiet stands
      rw [finish, settled] at run
      simp only [State.lapseSide, Prod.mk.injEq] at side
      obtain ⟨power, -, reports, chanD, chanP, -, request⟩ := side
      subst hu
      obtain ⟨posts, asks⟩ := State.settleLapse_posts (s := v) (by rw [power]; exact confirm) (by rw [power]; exact stage)
      have can : v.canPost ↔ rest ≠ [] ∧ ¬ s.reports.count ≤ s.reports.unconsumed.length + 1 := by
        rw [State.canPost_iff, reports]
        simp
      refine ⟨_, run, fun some' room => ?_, fun no => ?_⟩
      · rw [posts (can.mpr ⟨some', Nat.not_le.mpr room⟩)]
        exact ⟨(congrArg Power.stage power).trans stage, chanD, chanP, request⟩
      · rw [asks fun more => not_or.mpr (can.mp more) no]
        exact ⟨rfl, rfl, congrArg Channel.deEnergise chanD, congrArg Channel.deEnergise chanP⟩
  · rintro ⟨confirm, timer⟩
    rcases no with no | no
    · exact no confirm
    · rw [no] at timer
      cases timer

end Sys2Proof.Machine
end

section
/-! The order in hand at the Memory Port (R30): its body fetch, its taken write, and the notice that the taken write gives to
the Power Unit (R147, R149, R151, R152). -/

namespace Sys2Proof.Machine

open Sys2Proof

variable {s t u : State} {h : InHand}

/-! ### The grants of the order in hand -/

theorem exec_bodyFetchEnd (inHand : s.intake.inHand = some h) (grant : s.port.grant = some (.intake .fetch)) :
    exec .bodyFetchEnd s = finish ((s.withPort { s.port with grant := none }).withIntake { s.intake with
      inHand := some { h with body := s.dramWords (s.slotAddr h.slot + 2) 7, stage := .taken } }) := by
  simp only [exec, execBodyFetchEnd, grant, inHand]
  rfl

/-- The state in which the head reads TAKEN and the grant has ended. -/
def State.takenWritten (s : State) (h : InHand) : State :=
  (s.store (wordBytes (s.slotAddr h.slot) (orderHead h.kind .taken .ok))).withPort { s.port with grant := none }

/-- What an order taken awaits: its own checks, or its end for a kind that names no order (R30). -/
def takenStage (h : InHand) : Stage := if h.kind ∈ knownKinds then .validate else .ending .refusedKind

theorem exec_takenWriteEnd (inHand : s.intake.inHand = some h) (grant : s.port.grant = some (.intake .taken)) :
    exec .takenWriteEnd s = finish ((s.takenWritten h).notice.withStage h (takenStage h)) := by
  have write : s.endGrant (.intake .taken) = s.takenWritten h := by
    simp only [State.endGrant, State.grantTransfers, State.intakeTransfers, State.headTransfers, inHand]
    rfl
  simp only [exec, execTakenWriteEnd, grant, inHand, write, List.contains_iff_mem, takenStage]
  split <;> rfl

/-! ### The notice, by the power state -/

theorem State.notice_running (h : s.power.state = .running) : s.notice = s := by simp only [State.notice, h]

theorem State.notice_pending (h : s.power.state = .sleepPending) : s.notice = s.endSleep .cancelled := by
  simp only [State.notice, h]

theorem State.notice_confirming (h : s.power.state = .wakeConfirm) (stage : s.power.stage = .confirming) :
    s.notice = s.confirmWake := by
  simp only [State.notice, h, stage]

theorem State.notice_waking (h : s.power.state = .wakeConfirm) (stage : s.power.stage = .waking) :
    s.notice = s.withPower { s.power with noticeKept := true } := by
  simp only [State.notice, h, stage]

theorem State.notice_returning (h : s.power.state = .wakeConfirm)
    (stage : s.power.stage = .stopClock ∨ s.power.stage = .postReports ∨ s.power.stage = .awaitRefresh) :
    s.notice = s.giveUpLapse := by
  rcases stage with stage | stage | stage <;> simp only [State.notice, h, stage]

/-- Settles O32. -/
theorem takenOrdersAreInHand : Obligations.TakenOrdersAreInHand := by
  refine ⟨fun s h inHand => ⟨fun grant => leads_of_finish (exec_bodyFetchEnd inHand grant), fun grant running => ?running⟩,
    fun s h inHand grant => ?notice⟩
  case running =>
    have run := exec_takenWriteEnd inHand grant
    rw [State.notice_running (by exact running)] at run
    exact leads_of_finish run
  case notice =>
    intro awake
    have run := exec_takenWriteEnd inHand grant
    refine ⟨fun w state settings => ?pending, fun state stage => ?confirming, fun state stage => ?returning, fun state stage => ?waking⟩
    case pending =>
      rw [State.notice_pending (by exact state)] at run
      obtain ⟨power, port, intake, cpu⟩ := State.endSleep_ended (s := s.takenWritten h) settings .cancelled
      generalize (s.takenWritten h).endSleep .cancelled = u at run power port intake cpu
      obtain ⟨t, ht, f⟩ := leads_of_finish run
      have stands := f.awake (not_returning_of_state (by change u.power.state ≠ _; rw [power]; simp [Power.reset]))
      refine ⟨t, ht, stands.1.trans power, stands.2.2.2.2.trans (congrArg Port.selfAsked port), f.owed ?_,
        fun x hx => cpu x (f.cpu ▸ hx)⟩
      change _ ∈ u.intake.finalWrites
      rw [intake]
      exact List.mem_append_right _ (List.mem_singleton_self _)
    case confirming =>
      rw [State.notice_confirming (by exact state) (by exact stage)] at run
      obtain ⟨t, ht, f⟩ := leads_of_finish run
      exact ⟨t, ht, (f.awake fun r => by cases r.1).1⟩
    case returning =>
      rw [State.notice_returning (by exact state) (by exact stage)] at run
      obtain ⟨t, ht, f⟩ := leads_of_finish run
      obtain ⟨power, -, -, pins, asked⟩ := f.awake fun r => by cases r.1
      refine ⟨t, ht, power, congrArg Pins.clock pins, asked, fun asleep => ?_⟩
      have left : (s.takenWritten h).port.leaveSelfRefresh = { (s.takenWritten h).port with
          dram := .active, refreshTimer := true, refreshDue := true } := if_pos asleep
      refine ⟨f.dramState.trans ?_, f.refresh.2.trans ?_⟩
      · exact congrArg Port.dram left
      · exact congrArg Port.refreshDue left
    case waking =>
      rw [State.notice_waking (by exact state) (by exact stage)] at run
      obtain ⟨t, ht, f⟩ := leads_of_finish run
      refine ⟨t, ht, (f.awake fun r => ?_).1⟩
      rcases r.2 with other | other
      · exact absurd (stage.symm.trans other) (by simp)
      · exact absurd (stage.symm.trans other) (by simp)

end Sys2Proof.Machine
end

section
/-! The Boot Unit's bursts (R159, R162, R163) and the release of the processor (R4, R164). -/

namespace Sys2Proof.Machine

open Sys2Proof

variable {s t u : State}

/-! ### The burst that the Boot Unit asks -/

theorem State.bootJob_copyRead {h : Header} (state : s.boot.state = .copy) (header : s.boot.header = some h)
    (empty : s.boot.buffer = []) : s.bootJob
      = some (.copyRead (h.imageOffset + s.boot.pos) (min 16 ((h.imageLength - s.boot.pos) / 2))) := by
  simp only [State.bootJob, state, header, empty, Config.burstWords]

theorem State.bootJob_copyWrite {h : Header} (state : s.boot.state = .copy) (header : s.boot.header = some h)
    (full : s.boot.buffer ≠ []) : s.bootJob = some (.copyWrite s.boot.pos s.boot.buffer) := by
  simp only [State.bootJob, state, header]

/-! ### Ends of bursts -/

/-- The state in which a burst's words stand in memory and its grant has ended. -/
def State.bootWritten (s : State) (a : Nat) (ws : List Word) : State :=
  (s.store (wordTransfers a ws).flatten).withPort { s.port with grant := none }

section
variable (a : Nat) (ws : List Word)

theorem State.bootWritten_boot : (s.bootWritten a ws).boot = s.boot := rfl
theorem State.bootWritten_passage : (s.bootWritten a ws).passage = s.passage := rfl
theorem State.bootWritten_reports : (s.bootWritten a ws).reports = s.reports := rfl
theorem State.bootWritten_hasReports : (s.bootWritten a ws).hasReports = s.hasReports := rfl
theorem State.bootWritten_dram : (s.bootWritten a ws).dram = Memory.writeAll s.dram (wordTransfers a ws).flatten := rfl

end

section
variable {m : Misread}

theorem exec_bootBurstEnd_header {offset : Nat} (grant : s.port.grant = some (.boot (.header offset)))
    (more : s.boot.headerWords.length < 48) : exec (.bootBurstEnd m) s = finish ((s.withPort { s.port with
      grant := none }).withBoot { s.boot with
        headerWords := s.boot.headerWords ++ misreadWords m (s.romWords offset 16) }) := by
  have open' : s.lastHeaderBurst = false := decide_eq_false (Nat.not_le.mpr more)
  simp only [exec, execBootBurstEnd, State.bootGrant, grant, open']
  rfl

theorem exec_bootBurstEnd_fill {a : Nat} (grant : s.port.grant = some (.boot (.fill a)))
    (more : s.boot.pos + 32 < s.installed) : exec (.bootBurstEnd m) s
      = finish ((s.bootWritten a (List.replicate 16 0)).withBoot { s.boot with pos := s.boot.pos + 32 }) := by
  have open' : s.lastFillBurst = false := decide_eq_false (Nat.not_le.mpr more)
  simp only [exec, execBootBurstEnd, State.bootGrant, grant, open']
  rfl

theorem exec_bootBurstEnd_copyRead {offset n : Nat} (grant : s.port.grant = some (.boot (.copyRead offset n))) :
    exec (.bootBurstEnd m) s = finish ((s.withPort { s.port with grant := none }).withBoot { s.boot with
      buffer := misreadWords m (s.romWords offset n)
      crc := crcWords s.boot.crc (misreadWords m (s.romWords offset n)) }) := by
  simp only [exec, execBootBurstEnd, State.bootGrant, grant]
  rfl

theorem exec_bootBurstEnd_copyWrite {a : Nat} {ws : List Word} {h : Header}
    (grant : s.port.grant = some (.boot (.copyWrite a ws))) (header : s.boot.header = some h)
    (more : s.boot.pos + 2 * s.boot.buffer.length < h.imageLength) : exec (.bootBurstEnd m) s
      = finish ((s.bootWritten a ws).withBoot { s.boot with pos := s.boot.pos + 2 * ws.length, buffer := [] }) := by
  have open' : s.lastCopyBurst = false := by
    simp only [State.lastCopyBurst, header]
    exact decide_eq_false (Nat.not_le.mpr more)
  simp only [exec, execBootBurstEnd, State.bootGrant, grant, open']
  rfl

end

/-- What follows FILL (R162). -/
theorem Boot.afterFill_eq (b : Boot) : b.afterFill = if b.outcome = some .noHeader
    then { b with state := .release, pos := 0, buffer := [] }
    else { b with state := .copy, pos := 0, buffer := [], crc := 0xFFFF } := by
  unfold Boot.afterFill
  split
  · next none => rw [if_pos none]
  · next other => rw [if_neg other]; rfl

theorem exec_fillEnd {a : Nat} (grant : s.port.grant = some (.boot (.fill a))) (last : s.installed ≤ s.boot.pos + 32) :
    exec .fillEnd s = finish ((s.bootWritten a (List.replicate 16 0)).withBoot { s.boot with fillOwed := false }.afterFill) := by
  have last' : s.lastFillBurst = true := decide_eq_true last
  simp only [exec, execFillEnd, State.bootGrant, grant, last', if_true]
  rfl

theorem exec_copyAttemptEnd {a : Nat} {ws : List Word} {h : Header} (grant : s.port.grant = some (.boot (.copyWrite a ws)))
    (header : s.boot.header = some h) (last : h.imageLength ≤ s.boot.pos + 2 * s.boot.buffer.length) :
    exec .copyAttemptEnd s = finish ((s.bootWritten a ws).withBoot (s.boot.endAttempt h.imageCrc)) := by
  have last' : s.lastCopyBurst = true := by
    simp only [State.lastCopyBurst, header]
    exact decide_eq_true last
  simp only [exec, execCopyAttemptEnd, State.bootGrant, grant, header, last', if_true]
  rfl

section
variable {b : Boot} {crc : Word}

theorem Boot.endAttempt_good (h : b.crc = crc) : b.endAttempt crc = { b with
    copyAttempts := b.copyAttempts + 1, pos := 0, buffer := [], outcome := some .shadow, state := .release } := if_pos h

theorem Boot.endAttempt_again (h : b.crc ≠ crc) (more : b.copyAttempts + 1 < 8) : b.endAttempt crc = { b with
    copyAttempts := b.copyAttempts + 1, pos := 0, buffer := [], state := .copy, crc := 0xFFFF } :=
  (if_neg h).trans (if_pos more)

theorem Boot.endAttempt_eighth (h : b.crc ≠ crc) (last : 8 ≤ b.copyAttempts + 1) : b.endAttempt crc = { b with
    copyAttempts := b.copyAttempts + 1, pos := 0, buffer := [], outcome := some .checkFailed, state := .release } :=
  (if_neg h).trans (if_neg (Nat.not_lt.mpr last))

end

/-- Settles O30. -/
theorem bootBurstsReadAndWrite : Obligations.BootBurstsReadAndWrite := by
  refine ⟨fun s => ⟨fun state => ?_, fun state => ?_, fun h state header =>
      ⟨State.bootJob_copyRead state header, State.bootJob_copyWrite state header⟩, fun state => ?_, fun state => ?_⟩,
    fun s m => ⟨fun offset grant more => leads_of_finish (exec_bootBurstEnd_header grant more),
      fun a grant more => leads_of_finish (exec_bootBurstEnd_fill grant more),
      fun offset n grant => leads_of_finish (exec_bootBurstEnd_copyRead grant),
      fun a ws h grant header more => leads_of_finish (exec_bootBurstEnd_copyWrite grant header more)⟩,
    fun s => ⟨fun a grant last => ?fill, fun a ws h grant header last => ?copy⟩⟩
  · simp only [State.bootJob, state]; rfl
  · simp only [State.bootJob, state]
  · simp only [State.bootJob, state]
  · rcases state with state | state | state <;> simp only [State.bootJob, state]
  case fill =>
    have run := exec_fillEnd grant last
    rw [Boot.afterFill_eq] at run
    exact leads_of_finish run
  case copy =>
    have run := exec_copyAttemptEnd grant header last
    refine ⟨fun good => ?_, fun bad more => ?_, fun bad last => ?_⟩
    · rw [Boot.endAttempt_good good] at run
      exact leads_of_finish run
    · rw [Boot.endAttempt_again bad more] at run
      exact leads_of_finish run
    · rw [Boot.endAttempt_eighth bad last] at run
      exact leads_of_finish run

/-! ### The release of the processor (R4, R164) -/

/-- The outcomes in which an image length stands in the boot record, and that length (R164). -/
def Boot.records (b : Boot) (length : Nat) : Prop :=
  (b.outcome = some .shadow ∨ b.outcome = some .checkFailed) ∧ b.header.map (·.imageLength) = some length
    ∨ b.outcome = some .noHeader ∧ length = 0x10000

theorem Boot.imageLengthUsed_of {b : Boot} {length : Nat} (h : b.records length) : b.imageLengthUsed = length := by
  rcases h with ⟨outcome, image⟩ | ⟨outcome, rfl⟩
  · cases hh : b.header with
    | none => rw [hh] at image; cases image
    | some h =>
      rw [hh] at image
      rcases outcome with outcome | outcome <;> simpa [Boot.imageLengthUsed, outcome, hh] using image
  · simp only [Boot.imageLengthUsed, outcome]
    rfl

/-- The boot record, written out (Table 11-9). -/
theorem Boot.recordWords_eq {b : Boot} {length : Nat} (h : b.records length) : b.recordWords =
    [wordNat (b.cause.code + (b.outcome.map BootOutcome.code).getD 0 * 256),
     wordNat (b.headerAttempts + b.copyAttempts * 256), wordNat b.entriesOff, wordNat (length / 65536 % 32),
     wordNat length, 0, 0, 0] := by
  have code : (b.outcome.getD .noHeader).code = (b.outcome.map BootOutcome.code).getD 0 := by
    rcases h with ⟨outcome | outcome, -⟩ | ⟨outcome, -⟩ <;> rw [outcome] <;> rfl
  rw [Boot.recordWords, bootRecordWords, Boot.imageLengthUsed_of h, code]
  rfl

section
variable {p : Passage} {b : Boot} {h : Header}

theorem Passage.setOverlay_shadow (outcome : b.outcome = some .shadow) (header : b.header = some h) :
    p.setOverlay b = { p with mode := .shadow, imageLength := h.imageLength, guard := h.guard } := by
  simp only [Passage.setOverlay, outcome, header]

theorem Passage.setOverlay_checkFailed (outcome : b.outcome = some .checkFailed) (header : b.header = some h) :
    p.setOverlay b = { p with
      mode := .romDirect, overlayLength := h.imageLength, overlayBase := h.imageOffset, guard := false } := by
  simp only [Passage.setOverlay, outcome, header]

theorem Passage.setOverlay_noHeader (outcome : b.outcome = some .noHeader) : p.setOverlay b = { p with
    mode := .romDirect, overlayLength := 0x10000, overlayBase := 0, guard := false } := by
  simp only [Passage.setOverlay, outcome]
  rfl

end

theorem exec_bootRelease (grant : s.port.grant = some (.boot .record)) :
    exec .bootRelease s = finish (s.bootWritten (s.installed - 16) s.boot.recordWords).releaseProcessor := by
  simp only [exec, execBootRelease, State.bootGrant, grant]
  rfl

/-- What the release of the processor leaves (R4, R164). -/
structure ProcessorReleased (s t : State) : Prop where
  procReset : t.pins.procReset = false
  boot : t.boot = { s.boot with state := .done }
  mode : t.passage.mode = (s.passage.setOverlay s.boot).mode
  image : t.passage.imageLength = (s.passage.setOverlay s.boot).imageLength
  overlay : t.passage.overlayLength = (s.passage.setOverlay s.boot).overlayLength
    ∧ t.passage.overlayBase = (s.passage.setOverlay s.boot).overlayBase
  guard : t.passage.guard = (s.passage.setOverlay s.boot).guard
  dram : t.dram = s.dram
  report : s.hasReports = true → s.reports.pending = [] → t.reports.pending = [bootReport s.boot]

theorem State.releaseProcessor_leaves : ProcessorReleased s s.releaseProcessor := by
  unfold State.releaseProcessor
  have beside := (s.withPassage (s.passage.setOverlay s.boot)).offer_besideReports .boot (.report (bootReport s.boot))
  have enters (area : s.hasReports = true) (empty : s.reports.pending = []) :
      ((s.withPassage (s.passage.setOverlay s.boot)).offer .boot (.report (bootReport s.boot))).reports.pending
        = [bootReport s.boot] := by
    rw [State.offer_enters (by simp [State.withPassage, empty])]
    change ((s.withPassage (s.passage.setOverlay s.boot)).enter (bootReport s.boot)).reports.pending = _
    rw [State.enter_of_area (by exact area)]
    exact congrArg (· ++ [bootReport s.boot]) empty
  generalize (s.withPassage (s.passage.setOverlay s.boot)).offer .boot (.report (bootReport s.boot)) = v at beside enters
  exact
    { procReset := rfl
      boot := congrArg ({ · with state := .done }) (congrArg State.boot beside :)
      mode := (congrArg (·.passage.mode) beside :)
      image := (congrArg (·.passage.imageLength) beside :)
      overlay := ⟨(congrArg (·.passage.overlayLength) beside :), (congrArg (·.passage.overlayBase) beside :)⟩
      guard := (congrArg (·.passage.guard) beside :)
      dram := (congrArg State.dram beside :)
      report := enters }

/-- Settles O31. -/
theorem releaseSetsTheOverlay : Obligations.ReleaseSetsTheOverlay := by
  intro s length grant used b record
  have words : b.recordWords = record := Boot.recordWords_eq used
  have report : bootReport b = ⟨.boot, 1, record.take 5 ++ [0, 0]⟩ := by
    rw [bootReport, words]
    rfl
  clear_value record
  have run := exec_bootRelease grant
  have written := s.bootWritten_dram (s.installed - 16) s.boot.recordWords
  have passage := s.bootWritten_passage (s.installed - 16) s.boot.recordWords
  have boot := s.bootWritten_boot (s.installed - 16) s.boot.recordWords
  have area' := s.bootWritten_hasReports (s.installed - 16) s.boot.recordWords
  have reports := s.bootWritten_reports (s.installed - 16) s.boot.recordWords
  generalize s.bootWritten (s.installed - 16) s.boot.recordWords = v at run written passage boot area' reports
  obtain ⟨procReset, done, mode, image, ⟨length', base⟩, guard, dram, entered⟩ := v.releaseProcessor_leaves
  generalize v.releaseProcessor = u at run procReset done mode image length' base guard dram entered
  rw [passage, boot] at mode image length' base guard
  rw [boot] at done entered
  rw [reports, area', show bootReport s.boot = _ from report] at entered
  rw [show s.boot.recordWords = _ from words] at written
  obtain ⟨t, ht, f⟩ := leads_of_finish run
  have same : t.passage = { u.passage with unposted := t.passage.unposted } := f.passage
  refine ⟨t, ht, (congrArg Pins.procReset f.pins).trans procReset, f.boot.trans done, fun h outcome header => ?shadow,
    fun h outcome header => ?failed, fun outcome => ?none, (f.dram.trans dram).trans written, fun area empty => ?report⟩
  case shadow =>
    rw [same, mode, image, guard, Passage.setOverlay_shadow outcome header]
    exact ⟨rfl, rfl, rfl⟩
  case failed =>
    rw [same, mode, length', base, guard, Passage.setOverlay_checkFailed outcome header]
    exact ⟨rfl, rfl, rfl, rfl⟩
  case none =>
    rw [same, mode, length', base, guard, Passage.setOverlay_noHeader outcome]
    exact ⟨rfl, rfl, rfl, rfl⟩
  case report =>
    rw [← entered area empty]
    exact f.pending

end Sys2Proof.Machine
end

section
/-! A header read that is not good, or not usable (R159 to R161): it is read again, or the defaults of NO_HEADER are applied. -/

namespace Sys2Proof.Machine

open Sys2Proof

variable {s t u : State}

/-! ### The CRC of the header (R160) and its limits (R161) -/

theorem crcShift_eq (c : Word) : crcShift c = if c.getLsbD 15 then (c <<< 1) ^^^ 0x1021 else c <<< 1 := rfl

/-- A byte above eight bits of zero. -/
theorem byte_above (b : Byte) : (b ++ (0 : Byte) : Word) = b.setWidth 16 <<< 8 := by
  apply BitVec.eq_of_getLsbD_eq
  intro i hi
  simp only [BitVec.getLsbD_append, BitVec.getLsbD_shiftLeft, BitVec.getLsbD_setWidth]
  by_cases low : i < 8
  · simp [low]
  · have inside : i - 8 < 16 := by omega
    simp [low, inside, hi]

theorem crcByte_eq (c : Word) (b : Byte) : crcByte c b = (List.range 8).foldl
    (fun r _ => if r.getLsbD 15 then (r <<< 1) ^^^ 0x1021 else r <<< 1) (c ^^^ (b.setWidth 16 <<< 8)) := by
  rw [crcByte, byte_above]
  rfl

theorem headerGood_iff (ws : List Word) :
    headerGood ws = true ↔ ws.getD 0 0 = 0x3140 ∧ crcWords 0xFFFF (ws.take 62) = ws.getD 62 0 := by
  rw [headerGood, Bool.and_eq_true, decide_eq_true_eq, decide_eq_true_eq]
  rfl

theorem Header.usable_iff (h : Header) : h.usable = true ↔ (1 ≤ h.dramMb ∧ h.dramMb ≤ 8)
    ∧ (h.imageLength % 2 = 0 ∧ h.imageLength ≠ 0 ∧ h.imageLength + 16 ≤ h.dramMb * 0x100000) ∧ h.imageOffset % 2 = 0
      ∧ h.imageOffset + h.imageLength ≤ 0x200000 := by
  simp only [Header.usable, Bool.and_eq_true, decide_eq_true_eq, and_assoc]
  rfl

/-! ### The judgement of a header read -/

/-- The state in which a header read is judged: its attempt counted, the port free. -/
def State.headerRead (s : State) : State :=
  s.freePort.withBoot { s.boot with headerAttempts := s.boot.headerAttempts + 1, headerWords := [] }

section
variable {offset : Nat} {m : Misread} {ws : List Word}

theorem exec_headerReadEnd (grant : s.port.grant = some (.boot (.header offset))) (last : 48 ≤ s.boot.headerWords.length) :
    exec (.headerReadEnd m) s
      = finish (s.freePort.judgeHeader (s.boot.headerWords ++ misreadWords m (s.romWords offset 16))) := by
  have last' : s.lastHeaderBurst = true := decide_eq_true last
  simp only [exec, execHeaderReadEnd, State.bootGrant, grant, last', if_true]
  rfl

theorem State.judgeHeader_again (bad : headerGood ws = false) (more : s.boot.headerAttempts + 1 < 8) :
    s.freePort.judgeHeader ws = s.headerRead :=
  (if_neg (ne_true_of_eq_false bad)).trans (if_pos more)

theorem State.judgeHeader_defaults (h : headerGood ws = false ∧ 8 ≤ s.boot.headerAttempts + 1
    ∨ headerGood ws = true ∧ (headerOf ws).usable = false) : s.freePort.judgeHeader ws = s.headerRead.applyDefaults := by
  rcases h with ⟨bad, eighth⟩ | ⟨good, unusable⟩
  · exact (if_neg (ne_true_of_eq_false bad)).trans (if_neg (Nat.not_lt.mpr eighth))
  · exact (if_pos good).trans (if_neg (ne_true_of_eq_false unusable))

theorem State.judgeHeader_applies (good : headerGood ws = true) (usable : (headerOf ws).usable = true) :
    s.freePort.judgeHeader ws = s.headerRead.applyHeader (headerOf ws) :=
  (if_pos good).trans (if_pos usable)

end

/-! ### The defaults of NO_HEADER (R161) -/

theorem Port.sized_unsized {p : Port} (h : p.dram = .unsized) :
    p.sized = { p with dram := .active, refreshTimer := true, refreshDue := true } := if_pos h

/-- What follows CONFIG with the outcome NO_HEADER (R161). -/
theorem Boot.afterConfig_noHeader {b : Boot} (h : b.outcome = some .noHeader) :
    b.afterConfig = { b with state := if b.fillOwed then .fill else .release, pos := 0
                             buffer := if b.fillOwed then b.buffer else [] } := by
  rw [Boot.afterConfig, Boot.afterFill_eq, if_pos h]
  split <;> rfl

/-- Settles O29. -/
theorem badHeadersGiveTheDefaults : Obligations.BadHeadersGiveTheDefaults := by
  refine ⟨fun s offset m => ?read, fun ws => ⟨headerGood_iff ws, (headerOf ws).usable_iff⟩,
    fun c w b rest => ⟨rfl, crcWords_cons c w rest, crcByte_eq c b⟩⟩
  intro ws grant last
  have run := exec_headerReadEnd (m := m) grant last
  refine ⟨fun bad more => ?again, fun bad => ?defaults⟩
  case again =>
    rw [State.judgeHeader_again bad more] at run
    exact leads_of_finish run
  case defaults =>
    rw [State.judgeHeader_defaults bad] at run
    obtain ⟨t, ht, f⟩ := leads_of_finish run
    have boot : t.boot = _ := f.boot.trans (Boot.afterConfig_noHeader rfl)
    refine ⟨t, ht, ?_, ?_, ?_, ?_, f.installedMb, fun e => ?_, f.line.1, fun unsized => ?_, ?_⟩
    · rw [boot]
    · rw [boot]
    · rw [boot]; rfl
    · rw [boot]
    · rw [show t.windows = Vector.replicate 8 Window.none from f.windows]
      simp [Window.none]
    · have sized := Port.sized_unsized (p := s.headerRead.port) unsized
      exact ⟨f.dramState.trans (congrArg Port.dram sized), f.refresh.2.trans (congrArg Port.refreshDue sized),
        f.refresh.1.trans (congrArg Port.refreshTimer sized)⟩
    · rw [boot]
      rfl

end Sys2Proof.Machine
end

section
/-! A good and usable header (R7, R161): which of its entries are loaded, and the machine that it sets up. -/

namespace Sys2Proof.Machine

open Sys2Proof

variable {s t u v : State} {h : Header} {e : Fin 8}

/-! ### What the header asks for an entry -/

/-- The kind of an entry is one that its number may have, and its slots fit (R7, R161). -/
def Header.suits (h : Header) (e : Fin 8) : Prop :=
  let x := h.entries[e]
  if e = 0 then x.kind = 3 ∧ 4 ≤ h.orderSlots ∧ h.orderSlots ≤ 64 ∧ 16 * h.orderSlots ≤ x.length
  else if e = 1 then x.kind = 4 ∧ 4 ≤ h.reportSlots ∧ h.reportSlots ≤ 128 ∧ 16 * h.reportSlots ≤ x.length
  else x.kind = 1 ∨ x.kind = 2

/-- The range of an entry keeps the limits of R7 against the image and the entries before it. -/
def Header.fits (h : Header) (ws : Vector Window 8) (e : Fin 8) : Prop :=
  let x := h.entries[e]
  x.base % 256 = 0 ∧ x.length % 256 = 0 ∧ 256 ≤ x.length ∧ x.length ≤ 0x800000
    ∧ x.base + x.length ≤ h.dramMb * 0x100000 ∧ h.imageLength ≤ x.base
    ∧ ∀ j : Fin 8, j < e → ws[j].kind ≠ .off →
      x.base + x.length ≤ ws[j].base ∨ ws[j].base + ws[j].length ≤ x.base

/-- The window kind of a kind code of the header. -/
def windowKindOf (kind : Nat) : WindowKind :=
  if kind = 1 then .guard else if kind = 2 then .band else if kind = 3 then .orders else .reports

/-- The window that an entry becomes when it is loaded. -/
def Header.loaded (h : Header) (e : Fin 8) : Window :=
  let x := h.entries[e]
  { kind := windowKindOf x.kind, base := x.base, length := x.length, band := if x.kind = 2 then x.band else 0 }

theorem windowKindOf_ne_off (kind : Nat) : windowKindOf kind ≠ .off := by
  unfold windowKindOf
  (repeat' split) <;> simp

theorem windowKindOf_band (kind : Nat) : windowKindOf kind = .band ↔ kind = 2 := by
  unfold windowKindOf
  (repeat' split) <;> simp_all

theorem Header.loaded_kind : (h.loaded e).kind ≠ .off := windowKindOf_ne_off _

theorem Header.window_eq : h.entries[e].window (windowKindOf h.entries[e].kind) = h.loaded e := by
  simp only [HeaderEntry.window, Header.loaded, windowKindOf_band]

theorem slotsFit_iff {count most length : Nat} :
    slotsFit count most length = true ↔ 4 ≤ count ∧ count ≤ most ∧ 16 * count ≤ length := by
  simp [slotsFit, and_assoc]

theorem Header.suits_kind (suits : h.suits e) : h.entries[e].kind ≠ 0 := by
  unfold Header.suits at suits
  dsimp only at suits
  (repeat' split at suits) <;> omega

theorem Header.entryKind_of_suits (suits : h.suits e) : h.entryKind e = some (windowKindOf h.entries[e].kind) := by
  unfold Header.suits at suits
  unfold Header.entryKind
  dsimp only at suits ⊢
  split at suits
  · next zero => rw [if_pos zero, if_pos ⟨suits.1, slotsFit_iff.mpr suits.2⟩, suits.1]; rfl
  · next zero =>
    split at suits
    · next one => rw [if_neg zero, if_pos one, if_pos ⟨suits.1, slotsFit_iff.mpr suits.2⟩, suits.1]; rfl
    · next one =>
      rw [if_neg zero, if_neg one]
      rcases suits with guard | band
      · rw [if_pos guard, guard]; rfl
      · rw [if_neg (by omega), if_pos band, band]; rfl

theorem Header.entryKind_of_not_suits (no : ¬ h.suits e) : h.entryKind e = none := by
  unfold Header.suits at no
  unfold Header.entryKind
  dsimp only at no ⊢
  split at no
  · next zero => rw [if_pos zero, if_neg fun k => no ⟨k.1, slotsFit_iff.mp k.2⟩]
  · next zero =>
    split at no
    · next one => rw [if_neg zero, if_pos one, if_neg fun k => no ⟨k.1, slotsFit_iff.mp k.2⟩]
    · next one =>
      obtain ⟨guard, band⟩ := not_or.mp no
      rw [if_neg zero, if_neg one, if_neg guard, if_neg band]

/-! ### The loading of one entry -/

/-- The limits depend on the entries before the one that is loaded alone. -/
theorem Header.fits_congr {ws ws' : Vector Window 8} (same : ∀ j : Fin 8, j < e → ws[j] = ws'[j]) :
    h.fits ws e ↔ h.fits ws' e := by
  have places : (∀ j : Fin 8, j < e → ws[j].kind ≠ .off →
      h.entries[e].base + h.entries[e].length ≤ ws[j].base ∨ ws[j].base + ws[j].length ≤ h.entries[e].base)
      ↔ ∀ j : Fin 8, j < e → ws'[j].kind ≠ .off →
      h.entries[e].base + h.entries[e].length ≤ ws'[j].base ∨ ws'[j].base + ws'[j].length ≤ h.entries[e].base :=
    forall_congr' fun j => forall_congr' fun hj => by rw [same j hj]
  simp only [Header.fits, places]

/-- While the entries are loaded in turn, the limits of R7 are those against the image and the entries before. -/
theorem State.rangeOk_loading (installed : s.installed = h.dramMb * 0x100000) (image : s.imageRange = h.imageLength)
    (rest : ∀ j : Fin 8, e ≤ j → s.windows[j].kind = .off) :
    s.rangeOk e h.entries[e].base h.entries[e].length = true ↔ h.fits s.windows e := by
  have before : (∀ j : Fin 8, j ≠ e → s.windows[j].kind ≠ .off →
      h.entries[e].base + h.entries[e].length ≤ s.windows[j].base
        ∨ s.windows[j].base + s.windows[j].length ≤ h.entries[e].base)
      ↔ ∀ j : Fin 8, j < e → s.windows[j].kind ≠ .off →
        h.entries[e].base + h.entries[e].length ≤ s.windows[j].base
          ∨ s.windows[j].base + s.windows[j].length ≤ h.entries[e].base :=
    ⟨fun all j hj => all j (Fin.ne_of_lt hj), fun all j hj on =>
      all j (lt_of_le_of_ne (Fin.not_lt.mp fun after => on (rest j (Fin.le_of_lt after))) hj) on⟩
  rw [State.rangeOk_iff, installed, image, before]
  simp only [Header.fits]
  tauto

theorem State.loadEntry_taken (suits : h.suits e) (ok : s.rangeOk e h.entries[e].base h.entries[e].length = true) :
    State.loadEntry h s e = s.withWindows (s.windows.set e (h.loaded e)) := by
  simp only [State.loadEntry, if_neg (Header.suits_kind suits), Header.entryKind_of_suits suits, if_pos ok, Header.window_eq]

theorem State.loadEntry_off (off : h.entries[e].kind = 0) : State.loadEntry h s e = s := if_pos off

theorem State.loadEntry_counted (on : h.entries[e].kind ≠ 0)
    (no : ¬ (h.suits e ∧ s.rangeOk e h.entries[e].base h.entries[e].length = true)) :
    State.loadEntry h s e = s.withBoot { s.boot with entriesOff := s.boot.entriesOff + 1 } := by
  unfold State.loadEntry
  rw [if_neg on]
  by_cases suits : h.suits e
  · simp only [Header.entryKind_of_suits suits, if_neg fun ok => no ⟨suits, ok⟩]
  · simp only [Header.entryKind_of_not_suits suits]

/-! ### The loading of the entries in turn -/

/-- A state with the Window Table and the count of entries OFF left out: what the loading of entries does not write. -/
def State.besideTable (s : State) : State :=
  { s with windows := Vector.replicate 8 Window.none, boot := { s.boot with entriesOff := 0 } }

/-- Entry `e` of the header, loaded if it may be, else OFF. -/
structure Header.Loaded (h : Header) (ws : Vector Window 8) (e : Fin 8) : Prop where
  taken : h.suits e → h.fits ws e → ws[e] = h.loaded e
  off : ¬ (h.suits e ∧ h.fits ws e) → ws[e].kind = .off

/-- The entries that the header gives and that are OFF, among the first `n` (R161). -/
def Header.offAmong (h : Header) (ws : Vector Window 8) (n : Nat) : List (Fin 8) :=
  ((List.finRange 8).take n).filter fun e => h.entries[e].kind ≠ 0 && ws[e].kind = .off

/-- The state `v` is `s` with the entries below `n` loaded. -/
structure Header.Loads (h : Header) (n : Nat) (s v : State) : Prop where
  beside : v.besideTable = s.besideTable
  table : ∀ e : Fin 8, e.val < n → h.Loaded v.windows e
  rest : ∀ e : Fin 8, n ≤ e.val → v.windows[e].kind = .off
  count : v.boot.entriesOff = (h.offAmong v.windows n).length

theorem Header.Loaded.congr {ws ws' : Vector Window 8} (l : h.Loaded ws e) (same : ∀ j : Fin 8, j ≤ e → ws'[j] = ws[j]) :
    h.Loaded ws' e := by
  have fits : h.fits ws' e ↔ h.fits ws e := Header.fits_congr fun j hj => same j (Fin.le_of_lt hj)
  exact ⟨fun suits k => (same e (Fin.le_refl e)).trans (l.taken suits (fits.mp k)), fun no => by
    rw [same e (Fin.le_refl e)]
    exact l.off fun k => no ⟨k.1, fits.mpr k.2⟩⟩

theorem Header.offAmong_succ (h : Header) (ws : Vector Window 8) {n : Nat} (hn : n < 8) :
    h.offAmong ws (n + 1) = h.offAmong ws n
      ++ if h.entries[(⟨n, hn⟩ : Fin 8)].kind ≠ 0 ∧ ws[(⟨n, hn⟩ : Fin 8)].kind = .off then [⟨n, hn⟩] else [] := by
  have next : (List.finRange 8).take (n + 1) = (List.finRange 8).take n ++ [⟨n, hn⟩] := by
    rw [List.take_succ_eq_append_getElem (by simpa using hn)]
    simp
  rw [Header.offAmong, next, List.filter_append, ← Header.offAmong]
  congr 1
  simp [List.filter_singleton]

theorem Header.offAmong_congr {ws ws' : Vector Window 8} {n : Nat} (same : ∀ j : Fin 8, j.val < n → ws'[j] = ws[j]) :
    h.offAmong ws' n = h.offAmong ws n := by
  refine List.filter_congr fun j hj => ?_
  obtain ⟨i, hi, rfl⟩ := List.mem_iff_getElem.mp hj
  have below : i < n := by
    simp only [List.length_take] at hi
    omega
  rw [List.getElem_take, List.getElem_finRange] at *
  rw [same _ (by simpa using below)]

section
variable {n : Nat} (hn : n < 8)

/-- The entries below `n + 1` are loaded if those below `n` stay and entry `n` is loaded. -/
theorem Header.loaded_below_succ {ws ws' : Vector Window 8} (table : ∀ e : Fin 8, e.val < n → h.Loaded ws e)
    (same : ∀ j : Fin 8, j ≠ ⟨n, hn⟩ → ws'[j] = ws[j]) (entry : h.Loaded ws' ⟨n, hn⟩) (e : Fin 8) (he : e.val < n + 1) :
    h.Loaded ws' e := by
  by_cases here : e = ⟨n, hn⟩
  · rw [here]
    exact entry
  · have below : e.val < n := Nat.lt_of_le_of_ne (Nat.le_of_lt_succ he) fun k => here (Fin.ext k)
    refine (table e below).congr fun j hj => same j fun k => ?_
    have : j.val ≤ e.val := hj
    rw [k] at this
    exact absurd below (Nat.not_lt.mpr this)

/-- The next entry may be loaded. -/
theorem Header.Loads.next_taken (l : h.Loads n s v) (suits : h.suits ⟨n, hn⟩) (fits : h.fits v.windows ⟨n, hn⟩) :
    h.Loads (n + 1) s (v.withWindows (v.windows.set (⟨n, hn⟩ : Fin 8) (h.loaded ⟨n, hn⟩))) := by
  obtain ⟨beside, table, rest, count⟩ := l
  have same (j : Fin 8) (ne : j ≠ ⟨n, hn⟩) :
      (v.windows.set (⟨n, hn⟩ : Fin 8) (h.loaded ⟨n, hn⟩))[j] = v.windows[j] := by rw [windows_set_get, if_neg ne]
  have here : (v.windows.set (⟨n, hn⟩ : Fin 8) (h.loaded ⟨n, hn⟩))[(⟨n, hn⟩ : Fin 8)] = h.loaded ⟨n, hn⟩ := by
    rw [windows_set_get, if_pos rfl]
  generalize v.windows.set (⟨n, hn⟩ : Fin 8) (h.loaded ⟨n, hn⟩) = ws at same here
  have fits' : h.fits ws ⟨n, hn⟩ := (Header.fits_congr fun j hj => same j (Fin.ne_of_lt hj)).mpr fits
  refine ⟨beside, Header.loaded_below_succ hn table same ⟨fun _ _ => here, fun no => absurd ⟨suits, fits'⟩ no⟩,
    fun e he => ?_, count.trans (congrArg List.length ?_)⟩
  · change ws[e].kind = .off
    rw [same e fun k => absurd (congrArg Fin.val k) (by simpa using Nat.ne_of_gt he)]
    exact rest e (Nat.le_of_succ_le he)
  · change _ = h.offAmong ws (n + 1)
    rw [Header.offAmong_succ h ws hn, if_neg fun k => Header.loaded_kind (here ▸ k.2), List.append_nil]
    exact (Header.offAmong_congr fun j hj => same j fun k => absurd (congrArg Fin.val k) (Nat.ne_of_lt hj)).symm

/-- The next entry is not loaded; it is counted where the header gives it. -/
theorem Header.Loads.next_off (l : h.Loads n s v) (no : ¬ (h.suits ⟨n, hn⟩ ∧ h.fits v.windows ⟨n, hn⟩)) {b : Boot}
    (boot : b = { v.boot with entriesOff :=
      v.boot.entriesOff + if h.entries[(⟨n, hn⟩ : Fin 8)].kind ≠ 0 then 1 else 0 }) :
    h.Loads (n + 1) s (v.withBoot b) := by
  obtain ⟨beside, table, rest, count⟩ := l
  have off := rest ⟨n, hn⟩ (Nat.le_refl n)
  have entry : h.Loaded v.windows ⟨n, hn⟩ := ⟨fun suits fits => absurd ⟨suits, fits⟩ no, fun _ => off⟩
  refine ⟨?_, Header.loaded_below_succ hn table (fun _ _ => rfl) entry, fun e he => rest e (Nat.le_of_succ_le he), ?_⟩
  · rw [← beside, boot]
    rfl
  · change b.entriesOff = (h.offAmong v.windows (n + 1)).length
    rw [Header.offAmong_succ h v.windows hn, List.length_append, ← count, boot]
    by_cases on : h.entries[(⟨n, hn⟩ : Fin 8)].kind ≠ 0
    · rw [if_pos on, if_pos ⟨on, off⟩]
      rfl
    · rw [if_neg on, if_neg fun k => on k.1]
      rfl

end

section
variable (installed : s.installed = h.dramMb * 0x100000) (image : s.imageRange = h.imageLength)
include installed image

/-- The next entry is loaded, or stays OFF. -/
theorem Header.Loads.next {n : Nat} (hn : n < 8) (l : h.Loads n s v) : h.Loads (n + 1) s (State.loadEntry h v ⟨n, hn⟩) := by
  have ok : v.rangeOk ⟨n, hn⟩ h.entries[(⟨n, hn⟩ : Fin 8)].base h.entries[(⟨n, hn⟩ : Fin 8)].length = true
      ↔ h.fits v.windows ⟨n, hn⟩ :=
    State.rangeOk_loading (((congrArg State.installed l.beside :) : v.installed = s.installed).trans installed)
      (((congrArg State.imageRange l.beside :) : v.imageRange = s.imageRange).trans image) fun j hj => l.rest j hj
  by_cases loads : h.suits ⟨n, hn⟩ ∧ h.fits v.windows ⟨n, hn⟩
  · rw [State.loadEntry_taken loads.1 (ok.mpr loads.2)]
    exact l.next_taken hn loads.1 loads.2
  · by_cases on : h.entries[(⟨n, hn⟩ : Fin 8)].kind ≠ 0
    · rw [State.loadEntry_counted on fun k => loads ⟨k.1, ok.mp k.2⟩]
      exact l.next_off hn loads (by rw [if_pos on])
    · rw [State.loadEntry_off (not_not.mp on)]
      exact l.next_off hn loads (b := v.boot) (by rw [if_neg on]; rfl)

theorem Header.loads_all (off : ∀ e : Fin 8, s.windows[e].kind = .off) (none : s.boot.entriesOff = 0) :
    h.Loads 8 s ((List.finRange 8).foldl (State.loadEntry h) s) := by
  have first {n : Nat} (hn : n ≤ 8) : h.Loads n s (((List.finRange 8).take n).foldl (State.loadEntry h) s) := by
    induction n with
    | zero => exact ⟨rfl, fun e he => absurd he (Nat.not_lt_zero _), fun e _ => off e, none⟩
    | succ n ih =>
      have next : (List.finRange 8).take (n + 1) = (List.finRange 8).take n ++ [⟨n, hn⟩] := by
        rw [List.take_succ_eq_append_getElem (by simpa using hn)]
        simp
      rw [next, List.foldl_append]
      exact (ih (Nat.le_of_succ_le hn)).next installed image hn
  have all := first (Nat.le_refl 8)
  rwa [List.take_of_length_le (by simp)] at all

end

/-! ### The Window Table that is loaded -/

theorem Header.Loaded.on {ws : Vector Window 8} (l : h.Loaded ws e) (on : ws[e].kind ≠ .off) :
    h.suits e ∧ h.fits ws e ∧ ws[e] = h.loaded e := by
  by_cases loads : h.suits e ∧ h.fits ws e
  · exact ⟨loads.1, loads.2, l.taken loads.1 loads.2⟩
  · exact absurd (l.off loads) on

/-- A table whose entries are all loaded or OFF is legal (R7). -/
theorem windowsLegal_of_loaded (installed : s.installed = h.dramMb * 0x100000) (image : s.imageRange = h.imageLength)
    (loaded : ∀ e : Fin 8, h.Loaded s.windows e) : WindowsLegal s := by
  have range (e : Fin 8) (on : s.windows[e].kind ≠ .off) : h.fits s.windows e
      ∧ s.windows[e].base = h.entries[e].base ∧ s.windows[e].length = h.entries[e].length := by
    obtain ⟨-, fits, eq⟩ := (loaded e).on on
    rw [eq]
    exact ⟨fits, rfl, rfl⟩
  have kind (e : Fin 8) (on : s.windows[e].kind ≠ .off) : h.suits e ∧ s.windows[e].kind = windowKindOf h.entries[e].kind := by
    obtain ⟨suits, -, eq⟩ := (loaded e).on on
    rw [eq]
    exact ⟨suits, rfl⟩
  have apart (e j : Fin 8) (hj : j < e) (on : s.windows[e].kind ≠ .off) (on' : s.windows[j].kind ≠ .off) :
      s.windows[e].base + s.windows[e].length ≤ s.windows[j].base
        ∨ s.windows[j].base + s.windows[j].length ≤ s.windows[e].base := by
    obtain ⟨⟨-, -, -, -, -, -, before⟩, base, length⟩ := range e on
    rw [base, length]
    exact before j hj on'
  refine { zero := ?_, one := ?_, others := fun e he => ?_, multiples := fun e on => ?_, length := fun e on => ?_,
           inside := fun e on => ?_, image := fun e on => ?_, apart := fun e j ne on on' => ?_ }
  · by_cases on : s.windows[(0 : Fin 8)].kind = .off
    · exact .inl on
    · obtain ⟨⟨three, -⟩, eq⟩ := kind 0 on
      exact .inr (eq.trans (by rw [three]; rfl))
  · by_cases on : s.windows[(1 : Fin 8)].kind = .off
    · exact .inl on
    · obtain ⟨⟨four, -⟩, eq⟩ := kind 1 on
      exact .inr (eq.trans (by rw [four]; rfl))
  · by_cases on : s.windows[e].kind = .off
    · rw [on]
      exact ⟨nofun, nofun⟩
    · obtain ⟨suits, eq⟩ := kind e on
      have zero : e ≠ 0 := fun k => by rw [k] at he; simp at he
      have one : e ≠ 1 := fun k => by rw [k] at he; simp at he
      rw [Header.suits, if_neg zero, if_neg one] at suits
      rw [eq]
      rcases suits with guard | band
      · rw [guard]; exact ⟨nofun, nofun⟩
      · rw [band]; exact ⟨nofun, nofun⟩
  · obtain ⟨⟨multiple, multiple', -⟩, base, length⟩ := range e on
    rw [base, length]
    exact ⟨multiple, multiple'⟩
  · obtain ⟨⟨-, -, least, most, -⟩, base, length⟩ := range e on
    rw [length]
    exact ⟨least, most⟩
  · obtain ⟨⟨-, -, -, -, inside, -⟩, base, length⟩ := range e on
    rw [base, length, installed]
    exact inside
  · obtain ⟨⟨-, -, -, -, -, above, -⟩, base, length⟩ := range e on
    rw [base, image]
    exact above
  · rcases lt_or_gt_of_ne ne with before | after
    · exact (apart j e before on' on).symm
    · exact apart e j after on on'

end Sys2Proof.Machine
end

section
/-! HEADER_READ_END with a good and usable header: the machine that it sets up (R161). -/

namespace Sys2Proof.Machine

open Sys2Proof

variable {s t u v : State} {h : Header}

/-- The values of a usable header taken, its entries not yet loaded (R161 steps 1 to 3). -/
def State.headerTaken (s : State) (h : Header) : State :=
  (((((s.withPassage { s.passage with installedMb := h.dramMb, imageLength := h.imageLength }).withPort
    s.port.sized).withIntake
      { s.intake with slots := List.replicate (takenCount h.orderSlots 64) SlotRecord.reset }).withReports
        ({ s.reports with count := takenCount h.reportSlots 128, mask := h.mask }.recompute)).withBoot
          { s.boot with header := some h, entriesOff := 0 })

/-- The header's entries loaded in turn. -/
def State.entriesLoaded (s : State) (h : Header) : State := (List.finRange 8).foldl (State.loadEntry h) (s.headerTaken h)

theorem State.applyHeader_eq : s.applyHeader h
    = (s.entriesLoaded h).withBoot (s.entriesLoaded h).boot.afterConfig := rfl

/-- What follows CONFIG with a header applied (R161). -/
theorem Boot.afterConfig_header {b : Boot} (h : b.outcome = none) : b.afterConfig = { b with
    state := if b.fillOwed then .fill else .copy, pos := 0
    buffer := if b.fillOwed then b.buffer else [], crc := if b.fillOwed then b.crc else 0xFFFF } := by
  by_cases owed : b.fillOwed = true
  · rw [Boot.afterConfig, if_pos owed]
    simp only [owed, if_true]
  · rw [Boot.afterConfig, if_neg owed, Boot.afterFill_eq, if_neg (by simp [h])]
    simp only [owed]
    rfl

/-- A slot count in its range is taken as it is. -/
theorem takenCount_of {count most : Nat} (low : 4 ≤ count) (high : count ≤ most) : takenCount count most = count :=
  if_pos ⟨low, high⟩

/-- The slots after reset stand through what follows of itself: none of them is POSTED. -/
theorem Follows.slots_reset (f : Follows u t) {n : Nat} (slots : u.intake.slots = List.replicate n SlotRecord.reset) :
    t.intake.slots = List.replicate n SlotRecord.reset := by
  have size : t.intake.slots.length = n := by rw [f.slotCount, slots, List.length_replicate]
  have slot (i : Nat) : u.intake.slot i = SlotRecord.reset := by
    rw [Intake.slot, slots, List.getD_eq_getElem?_getD, List.getElem?_replicate]
    split <;> rfl
  refine List.ext_getElem (by rw [size, List.length_replicate]) fun i hi _ => ?_
  rw [List.getElem_replicate]
  have read : t.intake.slots[i] = t.intake.slot i := by
    rw [Intake.slot, List.getD_eq_getElem?_getD, List.getElem?_eq_getElem hi]
    rfl
  rw [read]
  rcases f.slots i with same | ⟨posted, -⟩
  · rw [same, slot]
  · rw [slot] at posted
    cases posted

/-- The blocks that a header applied sets up, before what follows of itself. -/
structure HeaderApplied (s u : State) (h : Header) : Prop where
  table : ∀ e : Fin 8, h.Loaded u.windows e
  passage : u.passage = { s.passage with installedMb := h.dramMb, imageLength := h.imageLength }
  port : u.port = s.port.sized
  slots : u.intake.slots = List.replicate (takenCount h.orderSlots 64) SlotRecord.reset
  count : u.reports.count = takenCount h.reportSlots 128
  mask : u.reports.mask = h.mask
  boot : u.boot = { s.boot with
    header := some h, entriesOff := (h.offAmong u.windows 8).length, pos := 0
    state := if s.boot.fillOwed then .fill else .copy
    buffer := if s.boot.fillOwed then s.boot.buffer else [], crc := if s.boot.fillOwed then s.boot.crc else 0xFFFF }

theorem State.applyHeader_sets (mode : s.passage.mode = .noOverlay) (off : ∀ e : Fin 8, s.windows[e].kind = .off)
    (outcome : s.boot.outcome = none) : HeaderApplied s (s.applyHeader h) h := by
  have image : (s.headerTaken h).imageRange = h.imageLength := by
    simp only [State.imageRange, State.headerTaken, State.withPassage, State.withBoot, State.withReports, State.withIntake,
      State.withPort, mode]
  obtain ⟨beside, table, -, count⟩ := Header.loads_all (h := h) (s := s.headerTaken h) rfl image off rfl
  rw [State.applyHeader_eq]
  change (s.entriesLoaded h).besideTable = _ at beside
  change ∀ e : Fin 8, _ → h.Loaded (s.entriesLoaded h).windows e at table
  change (s.entriesLoaded h).boot.entriesOff = (h.offAmong (s.entriesLoaded h).windows 8).length at count
  generalize s.entriesLoaded h = v at beside table count
  have boot : v.boot = { s.boot with header := some h, entriesOff := (h.offAmong v.windows 8).length } := by
    have rest : { v.boot with entriesOff := 0 } = { s.boot with header := some h, entriesOff := 0 } :=
      (congrArg State.boot beside :)
    rw [← count]
    exact (congrArg ({ · with entriesOff := v.boot.entriesOff } : Boot → Boot) rest :)
  exact
    { table := fun e => table e e.isLt
      passage := (congrArg State.passage beside :)
      port := (congrArg State.port beside :)
      slots := (congrArg (·.intake.slots) beside :)
      count := (congrArg (·.reports.count) beside :)
      mask := (congrArg (·.reports.mask) beside :)
      boot := (congrArg Boot.afterConfig boot).trans (Boot.afterConfig_header outcome) }

/-- Settles O28. -/
theorem goodHeadersSetUpTheMachine : Obligations.GoodHeadersSetUpTheMachine := by
  intro s offset m ws h grant words good usable mode off outcome
  have run := exec_headerReadEnd (m := m) grant (Nat.le_of_eq words.symm)
  rw [State.judgeHeader_applies good usable] at run
  have sets : HeaderApplied s.headerRead (s.headerRead.applyHeader h) h := State.applyHeader_sets mode off outcome
  change exec _ s = finish (s.headerRead.applyHeader h) at run
  clear_value h
  generalize s.headerRead.applyHeader h = u at run sets
  obtain ⟨t, ht, f⟩ := leads_of_finish run
  obtain ⟨table, passage, port, slots, count, mask, boot⟩ := sets
  have loaded (e : Fin 8) : h.Loaded t.windows e := by
    rw [f.windows]
    exact table e
  have on (e : Fin 8) (he : t.windows[e].kind ≠ .off) := (loaded e).on he
  have passage' : t.passage = { u.passage with unposted := t.passage.unposted } := f.passage
  have dramMb : t.passage.installedMb = h.dramMb := by rw [passage', passage]
  have image : t.passage.imageLength = h.imageLength := by rw [passage', passage]
  have noOverlay : t.passage.mode = .noOverlay := by
    rw [passage', passage]
    exact mode
  have boot' : t.boot = _ := f.boot.trans boot
  have legal : WindowsLegal t := by
    refine windowsLegal_of_loaded (h := h) (congrArg (· * 0x100000) dramMb) ?_ loaded
    simp only [State.imageRange, noOverlay, image]
  refine ⟨t, ht, legal, dramMb, image, f.line.1.trans mask, ?_, ?_, fun e he => ?entry, fun e => ?loaded, ?count,
    fun orders => ?orders, fun reports => ?reports, fun unsized => ?sized, fun owed => ?fill, fun owed => ?copy⟩
  · rw [boot']
  · rw [boot']
    rfl
  case entry =>
    obtain ⟨suits, -, eq⟩ := on e he
    rw [eq]
    exact ⟨rfl, rfl, Header.suits_kind suits⟩
  case loaded => exact ⟨fun suits fits => (loaded e).taken suits fits, (loaded e).off⟩
  case count =>
    rw [boot', f.windows]
    exact congrArg (fun l => (List.filter _ l).length) (List.take_of_length_le (by simp))
  case orders =>
    have kind : t.windows[(0 : Fin 8)].kind = .orders := of_decide_eq_true orders
    obtain ⟨⟨-, low, high, fit⟩, -, eq⟩ := on 0 (by rw [kind]; nofun)
    refine ⟨?_, low, high, ?_⟩
    · rw [← takenCount_of low high]
      exact f.slots_reset slots
    · exact fit.trans_eq (congrArg Window.length eq).symm
  case reports =>
    have kind : t.windows[(1 : Fin 8)].kind = .reports := of_decide_eq_true reports
    obtain ⟨⟨-, low, high, fit⟩, -, eq⟩ := on 1 (by rw [kind]; nofun)
    exact ⟨(f.area.1.trans count).trans (takenCount_of low high), low, high, fit.trans_eq (congrArg Window.length eq).symm⟩
  case sized =>
    have sized := port.trans (Port.sized_unsized unsized)
    exact ⟨f.dramState.trans (congrArg Port.dram sized), f.refresh.2.trans (congrArg Port.refreshDue sized),
      f.refresh.1.trans (congrArg Port.refreshTimer sized)⟩
  case fill =>
    rw [boot']
    exact ⟨if_pos owed, rfl⟩
  case copy =>
    have owed' : ¬ s.boot.fillOwed = true := ne_true_of_eq_false owed
    rw [boot']
    exact ⟨if_neg owed', rfl, if_neg owed'⟩

end Sys2Proof.Machine
end

section
/-! SET_CHANNEL and SET_ATTENTION (R47, R48, R78): the checks of an immediate order, and what it replaces. -/

namespace Sys2Proof.Machine

open Sys2Proof

variable {s : State} {h : InHand} {body : List Word}

/-! ### The checks of an order -/

theorem check_fails {α : Type} {b : Bool} {r : Result} (hb : b = false) (f : Unit → Except Result α) :
    (check b r >>= f) = .error r := by
  rw [hb]; rfl

theorem check_holds {α : Type} {b : Bool} {r : Result} (hb : b = true) (f : Unit → Except Result α) :
    (check b r >>= f) = f () := by
  rw [hb]; rfl

/-- What an order that is refused, and one whose effect is complete, leave of the Intake (R31, R32). -/
theorem State.settleOrder_error (h : InHand) (r : Result) : s.settleOrder h (.error r)
    = s.withIntake { s.intake with inHand := some { h with stage := .ending r } } := rfl

theorem State.settleOrder_ok (h : InHand) (v : State) : s.settleOrder h (.ok v)
    = v.withIntake { v.intake with inHand := some { h with stage := .ending .ok }, state := .executing } := rfl

theorem leads_setChannel {e : Except Result State} (hs : s.orderInHand kindSetChannel = some h)
    (he : s.setChannel h.body = e) : Leads .setChannel s (s.settleOrder h e) :=
  leads_of_finish (he ▸ onOrder_eq hs fun h s => s.settleOrder h (s.setChannel h.body))

theorem leads_setAttention {e : Except Result State} (hs : s.orderInHand kindSetAttention = some h)
    (he : s.setAttention h.body = e) : Leads .setAttention s (s.settleOrder h e) :=
  leads_of_finish (he ▸ onOrder_eq hs fun h s => s.settleOrder h (s.setAttention h.body))

/-! ### SET_CHANNEL -/

/-- The number of a channel in an order (Table 11-3). -/
def chanNumber : Chan → Nat
  | .d => 0
  | .p => 1

theorem chan?_number (c : Chan) : chan? (chanNumber c) = some c := by cases c <;> rfl

theorem chan?_eq_none {n : Nat} (h : 1 < n) : chan? n = none := by
  obtain ⟨m, rfl⟩ := Nat.exists_eq_add_of_le' h
  rfl

theorem chan?_of_le {n : Nat} (h : n ≤ 1) : ∃ c, chan? n = some c := by
  interval_cases n
  · exact ⟨.d, rfl⟩
  · exact ⟨.p, rfl⟩

theorem stepMode?_eq_none {n : Nat} (h : 1 < n) : stepMode? n = none := by
  obtain ⟨m, rfl⟩ := Nat.exists_eq_add_of_le' h
  rfl

theorem stepMode?_of_le {n : Nat} (h : n ≤ 1) : stepMode? n = some (if n = 0 then .full else .half) := by
  interval_cases n <;> rfl

section
variable {c : Chan} {mode : StepMode}

theorem State.setChannel_refusedParam (bad : 1 < bits (bodyWord body 1) 7 0 ∨ 1 < bits (bodyWord body 1) 15 8
    ∨ 16 < bits (bodyWord body 2) 7 0 ∨ 16 < bits (bodyWord body 2) 15 8) : s.setChannel body = .error .refusedParam := by
  unfold State.setChannel
  by_cases hc : 1 < bits (bodyWord body 1) 7 0
  · simp only [chan?_eq_none hc]
  · obtain ⟨c, hc⟩ := chan?_of_le (Nat.not_lt.mp hc)
    by_cases hm : 1 < bits (bodyWord body 1) 15 8
    · simp only [hc, stepMode?_eq_none hm]
    · simp only [hc, stepMode?_of_le (Nat.not_lt.mp hm)]
      exact check_fails (by simp; omega) _

theorem State.setChannel_judged (hc : bits (bodyWord body 1) 7 0 = (chanNumber c)) (hm : bits (bodyWord body 1) 15 8 ≤ 1)
    (run : bits (bodyWord body 2) 7 0 ≤ 16) (hold : bits (bodyWord body 2) 15 8 ≤ 16) : s.setChannel body
      = (check (s.running (chanQueue c)).isNone .refusedState >>= fun _ => .ok (s.withChan c ((s.chan c).set
          (if bits (bodyWord body 1) 15 8 = 0 then .full else .half) (bits (bodyWord body 2) 7 0)
          (bits (bodyWord body 2) 15 8) (bits (bodyWord body 3) 7 0)))) := by
  unfold State.setChannel
  simp only [hc, chan?_number, stepMode?_of_le hm]
  exact check_holds (by simp [run, hold]) _

end

/-- The settings of a channel that is not HOLDING are replaced, and nothing else of it (R78). -/
theorem Channel.set_not_holding {c : Channel} (h : c.state ≠ .holding) (mode : StepMode) (run hold time : Nat) :
    c.set mode run hold time = { c with mode := mode, runLevel := run, holdLevel := hold, holdTime := time } := by
  unfold Channel.set
  cases hs : c.state
  case holding => exact absurd hs h
  all_goals rfl

theorem Channel.set_holding {c : Channel} (h : c.state = .holding) (mode : StepMode) (run hold time : Nat) :
    c.set mode run hold time = { c with mode := mode, runLevel := run, holdLevel := hold, holdTime := time,
                                        asked := hold }.startHold := by
  simp only [Channel.set, h]

/-! ### SET_ATTENTION -/

theorem classBit_lt (c : ReportClass) : classBit c < 6 := by cases c <;> decide

/-- The attention line looks at the bits of a mask word that stand for a class. -/
theorem attentionLine_setWidth (unconsumed : List ReportClass) (w : Word) :
    attentionLine unconsumed (w.setWidth 6) = unconsumed.any fun c => w.getLsbD (classBit c) := by
  unfold attentionLine
  congr 1
  funext c
  simp [classBit_lt]

theorem State.setAttention_refusedParam (bad : 64 ≤ (bodyWord body 1).toNat ∨ 64 ≤ (bodyWord body 2).toNat) :
    s.setAttention body = .error .refusedParam := by
  unfold State.setAttention
  exact check_fails (by simp; omega) _

theorem State.setAttention_replaces (mask : (bodyWord body 1).toNat < 64) (sensors : (bodyWord body 2).toNat < 64) :
    s.setAttention body = .ok (s.withReports { s.reports with
      mask := (bodyWord body 1).setWidth 6, sensorMask := (bodyWord body 2).setWidth 6
      attention := s.reports.unconsumed.any fun c => (bodyWord body 1).getLsbD (classBit c) }) := by
  unfold State.setAttention
  refine (check_holds (by simp [mask, sensors]) _).trans ?_
  rw [← attentionLine_setWidth]
  rfl

/-- Settles O40. -/
theorem settingsAreReplaced : Obligations.SettingsAreReplaced := by
  intro s h w ended done run hold time
  refine ⟨fun hs => ⟨fun bad => leads_setChannel hs (State.setChannel_refusedParam bad), fun c hc hm hr hh => ?channel⟩,
    fun hs => ⟨fun bad => leads_setAttention hs (State.setAttention_refusedParam bad),
      fun mask sensors => leads_setAttention hs (State.setAttention_replaces mask sensors)⟩⟩
  have number : bits (w 1) 7 0 = (chanNumber c) := hc.trans (by cases c <;> rfl)
  have judged := State.setChannel_judged (s := s) number hm hr hh
  refine ⟨fun runs => ?_, fun idle => ?_⟩
  · rw [check_fails (Option.isNone_eq_false_iff.mpr (Option.isSome_iff_ne_none.mpr runs))] at judged
    exact leads_setChannel hs judged
  · intro mode set
    rw [check_holds (by simpa using idle)] at judged
    refine ⟨fun state => ?_, fun state zero => ?_, fun state timed => ?_⟩
    · rw [Channel.set_not_holding state] at judged
      exact leads_setChannel hs judged
    · rw [Channel.set_holding state, Channel.startHold, if_pos zero] at judged
      exact leads_setChannel hs judged
    · rw [Channel.set_holding state, Channel.startHold, if_neg timed] at judged
      exact leads_setChannel hs judged

end Sys2Proof.Machine
end

section
/-! The ends of holds on a band (R16, R18, R65, R66, R139): the cancellation and the release of the processor's access and of the
mover's word. -/

namespace Sys2Proof.Machine

open Sys2Proof

variable {s : State} {b : Fin 4} {x : CpuAccess} {line : Nat}

/-! ### The processor's access -/

theorem State.cancelCpu_held (hx : s.passage.cpu = some x) (hs : x.status = .held (.line b line)) : s.cancelCpu b
    = (s.withPassage (if opIsWrite x.acc.op then { s.passage with cpu := none, reply := some ⟨x.acc, none⟩ }
        else { s.passage with cpu := some ⟨x.acc, .completing, .unused⟩ })).raiseFault
          ⟨.holdCancelled, .noReason, .processor, x.acc.op, x.acc.at, b.val⟩ := by
  simp only [State.cancelCpu, hx, hs, if_true]
  congr 1
  cases write : opIsWrite x.acc.op with
  | true => rw [State.endHold_write write]; rfl
  | false => rw [State.endHold_read write]; rfl

theorem State.cancelCpu_not_held (h : ¬ s.HeldOn b) : s.cancelCpu b = s := by
  unfold State.cancelCpu
  split
  · next x hx =>
    split
    · next b' line hs => exact if_neg (by rintro rfl; exact h ⟨x, line, hx, hs⟩)
    all_goals rfl
  · rfl

/-! ### The mover's word -/

/-- The mover's word is held on band `b`. -/
def State.MoverHeldOn (s : State) (b : Fin 4) (line : Nat) : Prop := s.mover.state = .held ∧ s.mover.heldOn = some (b, line)

theorem Mover.work_held {m : Mover} (h : m.state = .held) :
    m.work = if m.heldWrite then .writing else .reading := by
  simp only [Mover.work, h]

theorem State.moverGranted_eq_false (h : ∀ n obs, s.port.grant ≠ some (.mover n obs)) : s.moverGranted = false := by
  unfold State.moverGranted
  split
  · next n obs hg => exact absurd hg (h n obs)
  · rfl

theorem State.moverWords_eq_zero (h : ∀ n obs, s.port.grant ≠ some (.mover n obs)) : s.moverWords = 0 := by
  unfold State.moverWords
  split
  · next n obs hg => exact absurd hg (h n obs)
  · rfl

theorem State.cancelMover_held (held : s.MoverHeldOn b line) : s.cancelMover b
    = (s.withMover (if s.moverGranted
        then { s.mover with state := s.mover.work, heldOn := none, passOver := true }
        else { s.mover with state := s.mover.work, heldOn := none }.skip)).raiseFault
      (if s.mover.heldWrite
        then ⟨.holdCancelled, .noReason, .mover, .writeWord 0, s.mover.destAddr (s.mover.next + s.moverWords), b.val⟩
        else ⟨.holdCancelled, .noReason, .mover, .readWord, s.mover.sourceAddr (s.mover.next + s.moverWords), b.val⟩) := by
  obtain ⟨state, on⟩ := held
  simp only [State.cancelMover, state, on, if_true]

/-- No grant of its own in progress: the held word is passed over at once. -/
theorem State.cancelMover_idle (held : s.MoverHeldOn b line) (idle : ∀ n obs, s.port.grant ≠ some (.mover n obs)) :
    s.cancelMover b = if s.mover.heldWrite
      then (s.withMover { s.mover with state := .writing, heldOn := none, next := s.mover.next + 1 }).raiseFault
        ⟨.holdCancelled, .noReason, .mover, .writeWord 0, s.mover.destAddr s.mover.next, b.val⟩
      else (s.withMover { s.mover with state := .reading, heldOn := none, next := s.mover.next + 1,
                                       buffer := s.mover.buffer ++ [none] }).raiseFault
        ⟨.holdCancelled, .noReason, .mover, .readWord, s.mover.sourceAddr s.mover.next, b.val⟩ := by
  rw [State.cancelMover_held held, State.moverGranted_eq_false idle, State.moverWords_eq_zero idle, Mover.work_held held.1,
    Nat.add_zero]
  cases write : s.mover.heldWrite <;> simp [Mover.skip]

/-- A grant of its own in progress: the held word is passed over at the grant's end. -/
theorem State.cancelMover_granted {n : Nat} {obs : Obs} (held : s.MoverHeldOn b line)
    (grant : s.port.grant = some (.mover n obs)) : s.cancelMover b
    = (s.withMover { s.mover with
        state := if s.mover.heldWrite then .writing else .reading, heldOn := none, passOver := true }).raiseFault
      (if s.mover.heldWrite
        then ⟨.holdCancelled, .noReason, .mover, .writeWord 0, s.mover.destAddr (s.mover.next + n), b.val⟩
        else ⟨.holdCancelled, .noReason, .mover, .readWord, s.mover.sourceAddr (s.mover.next + n), b.val⟩) := by
  have granted : s.moverGranted = true := by simp only [State.moverGranted, grant]
  have words : s.moverWords = n := by simp only [State.moverWords, grant]
  rw [State.cancelMover_held held, granted, words, Mover.work_held held.1]
  rfl

theorem State.cancelMover_not_held (h : s.mover.state = .held → ∀ line, s.mover.heldOn ≠ some (b, line)) :
    s.cancelMover b = s := by
  unfold State.cancelMover
  split
  · next b' line hs on => exact if_neg (by rintro rfl; exact h hs line on)
  · rfl

/-! ### The release of both (R66) -/

theorem State.releaseMover_held (held : s.MoverHeldOn b line) : s.releaseMover b line
    = s.withMover { s.mover with state := if s.mover.heldWrite then .writing else .reading, heldOn := none } := by
  rw [State.releaseMover, if_pos (by exact held), Mover.work_held held.1]

theorem State.releaseMover_not_held (h : s.mover.state = .held → s.mover.heldOn ≠ some (b, line)) :
    s.releaseMover b line = s := if_neg fun k => h k.1 k.2

/-- The release of the mover's word writes the mover alone. -/
theorem State.releaseMover_eq (b : Fin 4) (line : Nat) : ∃ m, s.releaseMover b line = s.withMover m := by
  unfold State.releaseMover
  split
  · exact ⟨_, rfl⟩
  · exact ⟨s.mover, rfl⟩

theorem State.releaseLine_mover (b : Fin 4) (line : Nat) : (s.releaseLine b line).mover = (s.releaseMover b line).mover :=
  (congrArg State.mover (State.releaseCpu_besideCpu (s := s.releaseMover b line) (.line b line)) :)

section
variable (hx : s.passage.cpu = some x) (hs : x.status = .held (.line b line))
include hx hs

/-- The access held on the line is judged again, its timer stopped. -/
theorem State.releaseLine_held : ∃ m, s.releaseLine b line = (s.withMover m).presentCpu x.acc x.timer.stop := by
  obtain ⟨m, hm⟩ := s.releaseMover_eq b line
  exact ⟨m, by rw [State.releaseLine, hm, State.releaseCpu_of_held (by exact hx) hs]⟩

theorem State.releaseLine_passes {path : Path} {limit : Nat} (timer : x.timer = .running limit)
    (hc : s.classify .processor x.acc = .pass path) :
    (s.releaseLine b line).passage.cpu = some ⟨x.acc, .passing path, .stopped limit⟩ := by
  obtain ⟨m, eq⟩ := State.releaseLine_held hx hs
  have judged : (s.withMover m).classify .processor x.acc = .pass path := hc
  rw [eq, State.presentCpu, timer]
  simp only [judged]
  rfl

theorem State.releaseLine_held_anew {limit line' : Nat} {b' : Fin 4} (timer : x.timer = .running limit)
    (hc : s.classify .processor x.acc = .hold (.line b' line')) (long : limit ≠ 0) :
    (s.releaseLine b line).passage.cpu = some ⟨x.acc, .held (.line b' line'), .running limit⟩ := by
  obtain ⟨m, eq⟩ := State.releaseLine_held hx hs
  have judged : (s.withMover m).classify .processor x.acc = .hold (.line b' line') := hc
  rw [eq, State.presentCpu, timer]
  simp only [judged]
  rw [State.holdCpu_line_timed (by exact long)]
  rfl

end

/-- Settles O36. -/
theorem cancellationsEndHolds : Obligations.CancellationsEndHolds := by
  intro s b fault m
  refine ⟨fun x line hx hs => State.cancelCpu_held hx hs, State.cancelCpu_not_held,
    fun line state on idle => State.cancelMover_idle ⟨state, on⟩ idle,
    fun line n obs state on grant => State.cancelMover_granted ⟨state, on⟩ grant, State.cancelMover_not_held, rfl,
    fun line state on => ?_, fun line away => ?_,
    fun x line limit hx hs timer => ⟨fun path hc => State.releaseLine_passes hx hs timer hc,
      fun b' line' hc long => State.releaseLine_held_anew hx hs timer hc long⟩, fun line away => ?_⟩
  · rw [State.releaseLine_mover, State.releaseMover_held ⟨state, on⟩]
    rfl
  · rw [State.releaseLine_mover, State.releaseMover_not_held away]
  · obtain ⟨m, hm⟩ := s.releaseMover_eq b line
    rw [State.releaseLine, hm, State.releaseCpu_of_not_held (by exact away)]
    rfl

end Sys2Proof.Machine
end

section
/-! SET_BAND and RESET_BAND (R69, R70): the accesses held on the band are cancelled, its waiting notice is discarded, and the
record is replaced. -/

namespace Sys2Proof.Machine

open Sys2Proof

variable {s t : State} {b : Fin 4} {h : InHand} {body : List Word}

/-! ### Nothing is held on a band after its cancellation -/

theorem State.HeldOn.congr (hc : t.passage.cpu = s.passage.cpu) : t.HeldOn b ↔ s.HeldOn b := by
  unfold State.HeldOn
  rw [hc]

theorem State.raiseFault_cpu (f : PassageFault) : (s.raiseFault f).passage.cpu = s.passage.cpu :=
  State.cpu_of_besideReports (s.raiseFault_besideReports f)

theorem State.raiseFault_mover (f : PassageFault) : (s.raiseFault f).mover = s.mover :=
  State.mover_of_besideReports (s.raiseFault_besideReports f)

theorem State.cancelCpu_ends (b : Fin 4) : ¬ (s.cancelCpu b).HeldOn b := by
  by_cases held : s.HeldOn b
  · obtain ⟨x, line, hx, hs⟩ := held
    rw [State.cancelCpu_held hx hs, State.HeldOn.congr (State.raiseFault_cpu _)]
    rintro ⟨y, line', hy, status⟩
    cases write : opIsWrite x.acc.op <;> simp only [write] at hy <;> cases hy
    cases status
  · rwa [State.cancelCpu_not_held held]

theorem State.cancelMover_cpu (b : Fin 4) : (s.cancelMover b).passage.cpu = s.passage.cpu := by
  unfold State.cancelMover
  (repeat' split) <;> first
    | rfl
    | exact State.raiseFault_cpu _

theorem State.cancelMover_ends (b : Fin 4) (line : Nat) : ¬ (s.cancelMover b).MoverHeldOn b line := by
  by_cases held : ∃ line, s.MoverHeldOn b line
  · obtain ⟨line', state, on⟩ := held
    rw [State.cancelMover_held ⟨state, on⟩]
    rintro ⟨-, on'⟩
    rw [State.raiseFault_mover] at on'
    split at on' <;> cases on'
  · rw [State.cancelMover_not_held fun state line on => held ⟨line, state, on⟩]
    exact fun k => held ⟨line, k⟩

theorem State.cancelHolds_ends (b : Fin 4) :
    ¬ (s.cancelHolds b).HeldOn b ∧ ∀ line, ¬ (s.cancelHolds b).MoverHeldOn b line :=
  ⟨mt (State.HeldOn.congr (State.cancelMover_cpu b)).mp (State.cancelCpu_ends b), State.cancelMover_ends b⟩

theorem State.dropNotice_waits (b : Fin 4) : (s.dropNotice b).noticeWaits b = false := by
  rw [← Bool.not_eq_true, State.noticeWaits_iff]
  rintro ⟨w, hw, r, hi⟩
  simp [State.dropNotice, State.withReports, List.mem_filter, hi] at hw

/-- A band that takes another record: an access held on a band stays held. -/
theorem State.withNewBand_heldOn (b b' : Fin 4) (y : Band) : (s.withNewBand b y).HeldOn b' ↔ s.HeldOn b' := by
  have cpu : (s.withNewBand b y).passage.cpu = s.passage.cpu.map (·.anew b fun _ => true) := rfl
  unfold State.HeldOn
  rw [cpu]
  constructor
  · rintro ⟨x, line, hx, hs⟩
    obtain ⟨z, hz, rfl⟩ := Option.map_eq_some_iff.mp hx
    unfold CpuAccess.anew at hs
    split at hs
    · next path hp =>
      rw [if_pos rfl] at hs
      cases hs
    · exact ⟨z, line, hz, hs⟩
    · exact ⟨z, line, hz, hs⟩
  · rintro ⟨x, line, hx, hs⟩
    refine ⟨x, line, ?_, hs⟩
    rw [hx, Option.map_some, CpuAccess.anew]
    simp only [hs]

/-- What the replacement of a band record ends (R69, R70). -/
theorem State.replaceBand_ends (b : Fin 4) (y : Band) : (s.replaceBand b y).noticeWaits b = false
    ∧ ¬ (s.replaceBand b y).HeldOn b
    ∧ ∀ line, (s.replaceBand b y).mover.state = .held → (s.replaceBand b y).mover.heldOn ≠ some (b, line) := by
  obtain ⟨cpu, mover⟩ := s.cancelHolds_ends b
  refine ⟨State.dropNotice_waits (s := s.cancelHolds b) b, ?_, fun line state on => mover line ⟨state, on⟩⟩
  rw [State.replaceBand, State.withNewBand_heldOn]
  exact cpu

/-! ### RESET_BAND (R70) -/

theorem fin4?_eq_none {n : Nat} (hn : 3 < n) : fin4? n = none := dif_neg (by omega)

theorem fin4?_val (b : Fin 4) : fin4? b.val = some b := dif_pos b.isLt

theorem leads_resetBand {e : Except Result State} (hs : s.orderInHand kindResetBand = some h)
    (he : s.resetBand h.body = e) : Leads .resetBand s (s.settleOrder h e) :=
  leads_of_finish (he ▸ onOrder_eq hs fun h s => s.settleOrder h (s.resetBand h.body))

theorem State.resetBand_none (hn : 3 < bits (bodyWord body 1) 7 0) : s.resetBand body = .error .refusedParam := by
  simp only [State.resetBand, fin4?_eq_none hn]

theorem State.resetBand_of (hn : bits (bodyWord body 1) 7 0 = b.val) : s.resetBand body
    = (check (!s.bandInUse b) .refusedState >>= fun _ => .ok (s.replaceBand b s.bands[b].clearMarks)) := by
  simp only [State.resetBand, hn, fin4?_val]
  rfl

/-- Settles O38. -/
theorem resetBandBeginsAPage : Obligations.ResetBandBeginsAPage := by
  intro s h hs n ended
  refine ⟨fun high => leads_resetBand hs (State.resetBand_none high), fun b hn => ⟨fun used => ?_, fun free => ?_⟩⟩
  · have judged := State.resetBand_of (s := s) hn
    rw [check_fails (by simp [used])] at judged
    exact leads_resetBand hs judged
  · have judged := State.resetBand_of (s := s) hn
    rw [check_holds (by simp [free])] at judged
    exact ⟨leads_resetBand hs judged, fun i => by simp [Band.lineState], s.replaceBand_ends b _⟩

end Sys2Proof.Machine
end

section
/-! SET_BAND (R69): its checks, and the record that it makes. -/

namespace Sys2Proof.Machine

open Sys2Proof

variable {s : State} {b : Fin 4} {h : InHand} {body : List Word} {role : Nat}

theorem leads_setBand {e : Except Result State} (hs : s.orderInHand kindSetBand = some h)
    (he : s.setBand h.body = e) : Leads .setBand s (s.settleOrder h e) :=
  leads_of_finish (he ▸ onOrder_eq hs fun h s => s.settleOrder h (s.setBand h.body))

/-! ### The role (Table 11-3) -/

theorem role?_eq_none (h : 3 < role) : role? role = none := by
  obtain ⟨m, rfl⟩ := Nat.exists_eq_add_of_le' h
  rfl

/-- The role of a code that is not that of OFF. -/
def usedRole (role : Nat) : Role := if role = 1 then .capture else if role = 2 then .emit else .copy

theorem role?_of_le (low : role ≠ 0) (high : role ≤ 3) : role? role = some (usedRole role) := by
  interval_cases role
  · exact absurd rfl low
  all_goals rfl

theorem usedRole_ne_off (role : Nat) : usedRole role ≠ .off := by
  unfold usedRole
  (repeat' split) <;> nofun

/-! ### The record (R69) -/

/-- The record that the fields of a SET BAND make for a role that is used. -/
def bandMade (role : Nat) (entry : Option (Fin 8)) (body : List Word) : Band :=
  { Band.reset with
    role := usedRole role, entry := entry, pitch := (bodyWord body 2).toNat, width := (bodyWord body 3).toNat
    lines := (bodyWord body 4).toNat, holdLimit := bits (bodyWord body 5) 7 0, noticeLevel := (bodyWord body 6).toNat }

theorem bandOf_used (role : Nat) (body : List Word) :
    bandOf (usedRole role) body = bandMade role (fin8? (bits (bodyWord body 1) 15 12)) body := by
  unfold bandMade
  cases hr : usedRole role
  case off => exact absurd hr (usedRole_ne_off role)
  all_goals rfl

/-- The fields of a SET BAND are in range for the window entry that they name (R69 check 2). -/
def State.bandFieldsFit (s : State) (b : Fin 4) (body : List Word) : Prop :=
  let w := bodyWord body
  ∃ x : Fin 8, 2 ≤ x.val ∧ x.val = bits (w 1) 15 12 ∧ s.windows[x].kind = .band ∧ s.windows[x].band = b
    ∧ ((w 2).toNat % 2 = 0 ∧ 32 ≤ (w 2).toNat ∧ (w 2).toNat ≤ 512)
    ∧ ((w 3).toNat % 2 = 0 ∧ 16 ≤ (w 3).toNat ∧ (w 3).toNat ≤ 256 ∧ (w 3).toNat ≤ (w 2).toNat)
    ∧ (2 ≤ (w 4).toNat ∧ (w 4).toNat ≤ 1024 ∧ (w 4).toNat * (w 2).toNat ≤ s.windows[x].length)
    ∧ (w 6).toNat ≤ (w 4).toNat

theorem State.bandFits_some {y : Band} {x : Fin 8} (entry : y.entry = some x) : s.bandFits b y = true ↔
    2 ≤ x.val ∧ s.windows[x].kind = .band ∧ s.windows[x].band = b ∧ (y.pitch % 2 = 0 ∧ 32 ≤ y.pitch ∧ y.pitch ≤ 512)
      ∧ (y.width % 2 = 0 ∧ 16 ≤ y.width ∧ y.width ≤ 256 ∧ y.width ≤ y.pitch)
      ∧ (2 ≤ y.lines ∧ y.lines ≤ 1024 ∧ y.lines * y.pitch ≤ s.windows[x].length) ∧ y.noticeLevel ≤ y.lines := by
  simp only [State.bandFits, entry, Bool.and_eq_true, decide_eq_true_eq, and_assoc]

theorem State.bandFits_iff : s.bandFits b (bandOf (usedRole role) body) = true ↔ s.bandFieldsFit b body := by
  rw [bandOf_used]
  constructor
  · intro fits
    cases he : fin8? (bits (bodyWord body 1) 15 12) with
    | none => rw [he] at fits; cases fits
    | some x =>
      have number : x.val = bits (bodyWord body 1) 15 12 := by
        unfold fin8? at he
        split at he
        · cases he; rfl
        · cases he
      rw [he, State.bandFits_some rfl] at fits
      obtain ⟨two, fits⟩ := fits
      exact ⟨x, two, number, fits⟩
  · rintro ⟨x, two, number, fits⟩
    rw [← number, fin8?_val, State.bandFits_some rfl]
    exact ⟨two, fits⟩

/-- The window entry of a record whose fields fit. -/
theorem State.bandMade_of_fits (fits : s.bandFieldsFit b body) : bandOf (usedRole role) body
    = bandMade role (some (Fin.ofNat 8 (bits (bodyWord body 1) 15 12))) body := by
  obtain ⟨x, -, number, -⟩ := fits
  have entry : Fin.ofNat 8 x.val = x := Fin.ext (Nat.mod_eq_of_lt x.isLt)
  rw [bandOf_used, ← number, fin8?_val, entry]

/-! ### The checks -/

theorem State.setBand_none (h : 3 < bits (bodyWord body 1) 7 0 ∨ 3 < bits (bodyWord body 1) 11 8) :
    s.setBand body = .error .refusedParam := by
  unfold State.setBand
  by_cases hb : 3 < bits (bodyWord body 1) 7 0
  · simp only [fin4?_eq_none hb]
  · simp only [role?_eq_none (h.resolve_left hb)]
    cases fin4? (bits (bodyWord body 1) 7 0) <;> rfl

theorem State.setBand_off (hb : bits (bodyWord body 1) 7 0 = b.val) (hr : bits (bodyWord body 1) 11 8 = 0) : s.setBand body
    = (check (!s.bandInUse b) .refusedState >>= fun _ => .ok (s.replaceBand b Band.reset)) := by
  simp only [State.setBand, hb, hr, fin4?_val, role?]
  rfl

theorem State.setBand_used (hb : bits (bodyWord body 1) 7 0 = b.val) (low : bits (bodyWord body 1) 11 8 ≠ 0)
    (high : bits (bodyWord body 1) 11 8 ≤ 3) :
    s.setBand body = (check (s.bandFits b (bandOf (usedRole (bits (bodyWord body 1) 11 8)) body)) .refusedParam >>= fun _ =>
      check (!s.bandInUse b) .refusedState >>= fun _ =>
        .ok (s.replaceBand b (bandOf (usedRole (bits (bodyWord body 1) 11 8)) body))) := by
  simp only [State.setBand, hb, fin4?_val, role?_of_le low high, decide_eq_false (usedRole_ne_off _), Bool.false_or]
  rfl

/-- Settles O37. -/
theorem setBandMakesTheRecord : Obligations.SetBandMakesTheRecord := by
  intro s h hs w role e ended
  refine ⟨fun none => leads_setBand hs (State.setBand_none none), fun b hb high => ?_⟩
  intro fits done
  have off (hr : role = 0) := State.setBand_off (s := s) hb hr
  have used (hr : role ≠ 0) := State.setBand_used (s := s) hb hr high
  have judged : s.bandFits b (bandOf (usedRole role) h.body) = true ↔ fits := State.bandFits_iff
  refine ⟨fun hr misfit => ?_, fun able inUse => ?_, fun hr free => ?_, fun hr fit free => ?_⟩
  · have outcome := used hr
    rw [check_fails (Bool.eq_false_iff.mpr (mt judged.mp misfit))] at outcome
    exact leads_setBand hs outcome
  · by_cases hr : role = 0
    · have outcome := off hr
      rw [check_fails (by simp [inUse])] at outcome
      exact leads_setBand hs outcome
    · have outcome := used hr
      rw [check_holds (judged.mpr (able.resolve_left hr)), check_fails (by simp [inUse])] at outcome
      exact leads_setBand hs outcome
  · have outcome := off hr
    rw [check_holds (by simp [free])] at outcome
    exact leads_setBand hs outcome
  · have outcome := used hr
    rw [check_holds (judged.mpr fit), check_holds (by simp [free]), State.bandMade_of_fits fit] at outcome
    exact leads_setBand hs outcome

end Sys2Proof.Machine
end

section
/-! SET_WINDOW and CLEAR_WINDOW (R7, R11, R12): their checks, the entry that they replace, and the band that they unmap. -/

namespace Sys2Proof.Machine

open Sys2Proof

variable {s : State} {b : Fin 4} {e : Fin 8} {h : InHand} {body : List Word} {n kind base length band : Nat}

/-! ### Both orders as one -/

/-- The checks and the effect of an order that gives entry `n` a kind, a range and a band; CLEAR WINDOW gives it the kind
OFF. -/
def State.windowOrder (s : State) (n kind base length band : Nat) : Except Result State :=
  match changeableEntry? n, setWindowKind? kind with
  | some e, some k => do
    check (k = .off || s.rangeOk e base length) .refusedParam
    check (k ≠ .band || decide (band ≤ 3)) .refusedParam
    check (s.entryFree e) .refusedState
    return s.replaceEntry e (windowOf k base length (Fin.ofNat 4 band))
  | _, _ => .error .refusedParam

theorem State.setWindow_eq (body : List Word) : s.setWindow body = s.windowOrder (bits (bodyWord body 1) 7 0)
    (bits (bodyWord body 1) 11 8) ((bodyWord body 2).toNat * 256) ((bodyWord body 3).toNat * 256)
    (bits (bodyWord body 1) 15 12) := rfl

theorem State.clearWindow_eq (body : List Word) (base length band : Nat) :
    s.clearWindow body = s.windowOrder (bits (bodyWord body 1) 7 0) 0 base length band := by
  unfold State.clearWindow State.windowOrder
  cases changeableEntry? (bits (bodyWord body 1) 7 0) with
  | none => rfl
  | some e => rfl

theorem leads_windowOrder {c : Instr} {k : Byte} {x : Except Result State}
    (hc : c = .setWindow ∧ k = kindSetWindow ∨ c = .clearWindow ∧ k = kindClearWindow) (hs : s.orderInHand k = some h)
    (hx : s.windowOrder (bits (bodyWord h.body 1) 7 0) (if c = .setWindow then bits (bodyWord h.body 1) 11 8 else 0)
      ((bodyWord h.body 2).toNat * 256) ((bodyWord h.body 3).toNat * 256) (bits (bodyWord h.body 1) 15 12) = x) :
    Leads c s (s.settleOrder h x) := by
  rcases hc with ⟨rfl, rfl⟩ | ⟨rfl, rfl⟩
  · rw [if_pos rfl, ← State.setWindow_eq] at hx
    exact leads_of_finish (hx ▸ onOrder_eq hs fun h s => s.settleOrder h (s.setWindow h.body))
  · rw [if_neg nofun, ← State.clearWindow_eq] at hx
    exact leads_of_finish (hx ▸ onOrder_eq hs fun h s => s.settleOrder h (s.clearWindow h.body))

/-! ### The checks -/

theorem changeableEntry?_eq_none (hn : n < 2 ∨ 7 < n) : changeableEntry? n = none := by
  unfold changeableEntry?
  rcases hn with low | high
  · exact if_pos low
  · rw [if_neg (by omega), fin8?_eq_none high]

theorem changeableEntry?_val (two : 2 ≤ e.val) : changeableEntry? e.val = some e := by
  rw [changeableEntry?, if_neg (Nat.not_lt.mpr two), fin8?_val]

theorem setWindowKind?_eq_none (h : 2 < kind) : setWindowKind? kind = none := by
  obtain ⟨m, rfl⟩ := Nat.exists_eq_add_of_le' h
  rfl

/-- The kind of a code (Table 11-3). -/
def orderedKind (kind : Nat) : WindowKind := if kind = 0 then .off else if kind = 1 then .guard else .band

theorem setWindowKind?_of_le (h : kind ≤ 2) : setWindowKind? kind = some (orderedKind kind) := by
  interval_cases kind <;> rfl

/-- The window that an order makes of an entry. -/
def orderedWindow (kind base length band : Nat) : Window :=
  if kind = 0 then Window.none
  else if kind = 1 then { kind := .guard, base := base, length := length, band := 0 }
  else { kind := .band, base := base, length := length, band := Fin.ofNat 4 band }

theorem windowOf_ordered (kind base length band : Nat) :
    windowOf (orderedKind kind) base length (Fin.ofNat 4 band) = orderedWindow kind base length band := by
  unfold orderedKind orderedWindow
  (repeat' split) <;> rfl

theorem State.windowOrder_none (h : n < 2 ∨ 7 < n ∨ 2 < kind) :
    s.windowOrder n kind base length band = .error .refusedParam := by
  unfold State.windowOrder
  rcases or_assoc.mpr h with entry | code
  · simp only [changeableEntry?_eq_none entry]
  · simp only [setWindowKind?_eq_none code]
    cases changeableEntry? n <;> rfl

theorem State.windowOrder_judged (two : 2 ≤ e.val) (hk : kind ≤ 2) : s.windowOrder e.val kind base length band
    = (check (orderedKind kind = .off || s.rangeOk e base length) .refusedParam >>= fun _ =>
      check (orderedKind kind ≠ .band || decide (band ≤ 3)) .refusedParam >>= fun _ =>
        check (s.entryFree e) .refusedState >>= fun _ =>
          .ok (s.replaceEntry e (orderedWindow kind base length band))) := by
  simp only [State.windowOrder, changeableEntry?_val two, setWindowKind?_of_le hk, windowOf_ordered]
  rfl

/-- A range beyond the limits is refused (R7). -/
theorem State.windowOrder_range (two : 2 ≤ e.val) (hk : kind = 1 ∨ kind = 2) (bad : s.rangeOk e base length = false) :
    s.windowOrder e.val kind base length band = .error .refusedParam := by
  rw [State.windowOrder_judged two (by omega), check_fails]
  rcases hk with rfl | rfl <;> simp [orderedKind, bad]

theorem State.windowOrder_band (two : 2 ≤ e.val) (hk : kind = 2) (high : 3 < band) :
    s.windowOrder e.val kind base length band = .error .refusedParam := by
  rw [State.windowOrder_judged two (by omega)]
  cases ok : (decide (orderedKind kind = .off) || s.rangeOk e base length) with
  | false => exact check_fails rfl _
  | true =>
    refine (check_holds rfl _).trans (check_fails ?_ _)
    simp [orderedKind, hk, high]

/-- Kind, range and band number are as they may be. -/
def State.windowParams (s : State) (e : Fin 8) (kind base length band : Nat) : Prop :=
  kind = 0 ∨ (kind = 1 ∨ kind = 2 ∧ band ≤ 3) ∧ s.rangeOk e base length = true

theorem State.windowOrder_of_params (two : 2 ≤ e.val) (params : s.windowParams e kind base length band) :
    s.windowOrder e.val kind base length band = (check (s.entryFree e) .refusedState >>= fun _ =>
      .ok (s.replaceEntry e (orderedWindow kind base length band))) := by
  have code : kind ≤ 2 := by unfold State.windowParams at params; omega
  rw [State.windowOrder_judged two code, check_holds, check_holds]
  · rcases params with rfl | ⟨rfl | ⟨rfl, low⟩, -⟩
    · simp [orderedKind]
    · simp [orderedKind]
    · simp [low]
  · rcases params with rfl | ⟨-, ok⟩
    · simp [orderedKind]
    · simp [ok]

/-! ### The replacement -/

theorem State.entryFree_of_none (h : s.entryBand e = none) : s.entryFree e = true := by simp only [State.entryFree, h]

theorem State.entryFree_of_some (h : s.entryBand e = some b) : s.entryFree e = !s.bandInUse b := by
  simp only [State.entryFree, h]

theorem State.replaceEntry_of_none (h : s.entryBand e = none) (w : Window) :
    s.replaceEntry e w = s.withWindows (s.windows.set e w) := by simp only [State.replaceEntry, h]

theorem State.replaceEntry_of_some (h : s.entryBand e = some b) (w : Window) : s.replaceEntry e w
    = (((s.withWindows (s.windows.set e w)).withNewBand b { s.bands[b] with role := .off }).cancelHolds b).dropNotice b := by
  simp only [State.replaceEntry, h]
  rfl

theorem State.cancelHolds_bands (b : Fin 4) : (s.cancelHolds b).bands = s.bands := by
  have cpu : (s.cancelCpu b).bands = s.bands := by
    by_cases held : s.HeldOn b
    · obtain ⟨x, line, hx, hs⟩ := held
      rw [State.cancelCpu_held hx hs]
      exact (State.bands_of_besideReports (State.raiseFault_besideReports _)).trans rfl
    · rw [State.cancelCpu_not_held held]
  rw [State.cancelHolds, ← cpu]
  generalize s.cancelCpu b = v
  unfold State.cancelMover
  (repeat' split) <;> first
    | rfl
    | exact (State.bands_of_besideReports (State.raiseFault_besideReports _)).trans rfl

theorem State.cancelHolds_windows (b : Fin 4) : (s.cancelHolds b).windows = s.windows := by
  have outside : (s.cancelHolds b).outside = s.outside := by simp
  exact congrArg Outside.windows outside

/-- What the unmapping of a band leaves (R68). -/
theorem State.unmapped_leaves {v : State} {w : Vector Window 8} {y : Band}
    (hv : (((s.withWindows w).withNewBand b y).cancelHolds b).dropNotice b = v) :
    v.windows = w ∧ v.bands = s.bands.set b y ∧ v.noticeWaits b = false ∧ ¬ v.HeldOn b
      ∧ ∀ line, v.mover.state = .held → v.mover.heldOn ≠ some (b, line) := by
  subst hv
  obtain ⟨cpu, mover⟩ := State.cancelHolds_ends (s := (s.withWindows w).withNewBand b y) b
  exact ⟨State.cancelHolds_windows (s := (s.withWindows w).withNewBand b y) b,
    State.cancelHolds_bands (s := (s.withWindows w).withNewBand b y) b, State.dropNotice_waits b, cpu,
    fun line state on => mover line ⟨state, on⟩⟩

/-- Settles O35: the checks in their order, the replacement without and with a band unmapped, and the limits of R7. -/
theorem windowOrdersAreJudged : Obligations.WindowOrdersAreJudged := by
  refine ⟨fun s h c k hc hs => ?_, fun s e base length => State.rangeOk_iff⟩
  intro w1 kind base length ended
  have leads {x : Except Result State} (hx : s.windowOrder (bits w1 7 0) kind base length (bits w1 15 12) = x) :
      Leads c s (s.settleOrder h x) := leads_windowOrder hc hs hx
  refine ⟨fun none => leads (State.windowOrder_none none), fun e two number => ?_⟩
  rw [number] at leads
  refine ⟨fun code bad => leads (State.windowOrder_range two code bad),
    fun code high => leads (State.windowOrder_band two code high), fun params => ?_⟩
  intro new
  have outcome : s.windowOrder e.val kind base length (bits w1 15 12) = (check (s.entryFree e) .refusedState >>= fun _ =>
      .ok (s.replaceEntry e new)) := State.windowOrder_of_params two params
  refine ⟨fun b serves used => ?used, fun serves => ?free, fun b serves unused => ?unmapped, fun b serves unused => ?leads⟩
  case used =>
    rw [check_fails (by rw [State.entryFree_of_some serves, used]; rfl)] at outcome
    exact leads outcome
  case free =>
    rw [check_holds (State.entryFree_of_none serves), State.replaceEntry_of_none serves] at outcome
    exact leads outcome
  all_goals
    rw [check_holds (by rw [State.entryFree_of_some serves, unused]; rfl), State.replaceEntry_of_some serves] at outcome
  case unmapped =>
    generalize hv : State.dropNotice _ b = v at outcome
    obtain ⟨windows, bands, -, cpu, -⟩ := State.unmapped_leaves hv
    obtain ⟨t, ht, f⟩ := leads outcome
    refine ⟨t, ht, f.windows.trans windows, f.bands.trans bands, ?_, (f.hand _ rfl).1⟩
    rw [State.HeldOn.congr f.cpu]
    exact cpu
  case leads =>
    intro v
    obtain ⟨-, -, left⟩ := State.unmapped_leaves (v := v) rfl
    have outcome : s.windowOrder e.val kind base length (bits w1 15 12) = .ok v := outcome
    clear_value v
    exact ⟨leads outcome, left⟩

end Sys2Proof.Machine
end

section
/-! SLEEP (R144, R145): its checks in their order, the pattern table that it reads, and the sleep that it begins. -/

namespace Sys2Proof.Machine

open Sys2Proof

variable {s : State} {h : InHand} {w : WakeSettings} {table : Nat}

/-! ### The checks (R144) -/

theorem State.restOk_iff (a : Nat) : s.restOk a = true ↔
    a % 2 = 0 ∧ a + 16 < s.installed ∧ s.windowAt a = none ∧ s.imageRange ≤ a := by
  simp [State.restOk, and_assoc]

/-- Check 1 of SLEEP. -/
def State.SleepParams (s : State) (w : WakeSettings) (table : Nat) : Prop :=
  (w.rest % 2 = 0 ∧ w.rest + 16 < s.installed ∧ s.windowAt w.rest = none ∧ s.imageRange ≤ w.rest)
    ∧ w.confirm ≠ 0 ∧ (w.timerOn = true → w.timer ≠ 0) ∧ (w.patternOn ≠ 0 → table % 2 = 0 ∧ table + 16 ≤ s.installed)

/-- Check 2 of SLEEP: a wake cause is enabled. -/
def WakeSettings.HasSource (w : WakeSettings) : Prop := w.ringing = true ∨ w.timerOn = true ∨ w.patternOn ≠ 0

/-- Check 4 of SLEEP: no order is queued, and the machine is awake. -/
def State.Quiet (s : State) : Prop :=
  (∀ q, s.running q = none ∧ (s.intake.queue q).waiting = []) ∧ s.intake.dispatch = none ∧ s.power.state = .running

theorem State.sleepParams_iff : s.sleepParams w table = true ↔ s.SleepParams w table := by
  have timer : (!w.timerOn || decide (w.timer ≠ 0)) = true ↔ (w.timerOn = true → w.timer ≠ 0) := by
    cases w.timerOn <;> simp
  have pattern : (decide (w.patternOn = 0) || (decide (table % 2 = 0) && s.inDram table 16)) = true
      ↔ (w.patternOn ≠ 0 → table % 2 = 0 ∧ table + 16 ≤ s.installed) := by
    rw [Bool.or_eq_true, decide_eq_true_eq, Bool.and_eq_true, decide_eq_true_eq, State.inDram_iff]
    tauto
  rw [State.sleepParams, Bool.and_eq_true, Bool.and_eq_true, Bool.and_eq_true, State.restOk_iff, timer, pattern,
    decide_eq_true_eq, State.SleepParams]
  tauto

theorem WakeSettings.hasSource_iff : (w.ringing || w.timerOn || decide (w.patternOn ≠ 0)) = true ↔ w.HasSource := by
  simp [WakeSettings.HasSource, or_assoc]

/-- Check 3 of SLEEP: the qualifier that is to wake the machine is not muted. -/
theorem WakeSettings.unmuted_iff : (!(w.ringing && s.ring.muted)) = true ↔ ¬ (w.ringing = true ∧ s.ring.muted = true) := by
  rw [Bool.not_eq_true', ← Bool.not_eq_true, Bool.and_eq_true]

theorem Queue.holdsOrder_eq_false (q : Queue) : q.holdsOrder = false ↔ q.running = none ∧ q.waiting = [] := by
  simp [Queue.holdsOrder]

theorem State.quiet_iff : (!s.intake.dQueue.holdsOrder && !s.intake.pQueue.holdsOrder && !s.intake.mQueue.holdsOrder
    && s.intake.dispatch.isNone && decide (s.power.state = .running)) = true ↔ s.Quiet := by
  simp only [Bool.and_eq_true, Bool.not_eq_true', Queue.holdsOrder_eq_false, Option.isNone_iff_eq_none, decide_eq_true_eq]
  constructor
  · rintro ⟨⟨⟨⟨d, p⟩, m⟩, place⟩, awake⟩
    refine ⟨fun q => ?_, place, awake⟩
    cases q
    · exact d
    · exact p
    · exact m
  · rintro ⟨queues, place, awake⟩
    exact ⟨⟨⟨⟨queues .d, queues .p⟩, queues .mover⟩, place⟩, awake⟩

section
variable (params : s.SleepParams w table)

theorem State.sleepChecks_params (no : ¬ s.SleepParams w table) : s.sleepChecks w table = .error .refusedParam :=
  check_fails (Bool.eq_false_iff.mpr (mt State.sleepParams_iff.mp no)) _

include params

theorem State.sleepChecks_noWake (no : ¬ w.HasSource) : s.sleepChecks w table = .error .noWake :=
  (check_holds (State.sleepParams_iff.mpr params) _).trans
    (check_fails (Bool.eq_false_iff.mpr (mt WakeSettings.hasSource_iff.mp no)) _)

variable (source : w.HasSource)
include source

theorem State.sleepChecks_muted (muted : w.ringing = true ∧ s.ring.muted = true) :
    s.sleepChecks w table = .error .muted :=
  (check_holds (State.sleepParams_iff.mpr params) _).trans <| (check_holds (WakeSettings.hasSource_iff.mpr source) _).trans
    (check_fails (by simp [muted.1, muted.2]) _)

variable (unmuted : ¬ (w.ringing = true ∧ s.ring.muted = true))
include unmuted

theorem State.sleepChecks_busy (busy : ¬ s.Quiet) : s.sleepChecks w table = .error .refusedState :=
  (check_holds (State.sleepParams_iff.mpr params) _).trans <| (check_holds (WakeSettings.hasSource_iff.mpr source) _).trans <|
    (check_holds (WakeSettings.unmuted_iff.mpr unmuted) _).trans
      (congrArg (fun b => check b .refusedState) (Bool.eq_false_iff.mpr (mt State.quiet_iff.mp busy)))

theorem State.sleepChecks_pass (quiet : s.Quiet) : s.sleepChecks w table = .ok () :=
  (check_holds (State.sleepParams_iff.mpr params) _).trans <| (check_holds (WakeSettings.hasSource_iff.mpr source) _).trans <|
    (check_holds (WakeSettings.unmuted_iff.mpr unmuted) _).trans (congrArg (fun b => check b .refusedState) (State.quiet_iff.mpr quiet))

end

theorem leads_sleep {u : State} (hs : s.orderInHand kindSleep = some h) (hu : s.sleep h = u) : Leads .sleep s u :=
  leads_of_finish (hu ▸ onOrder_eq hs fun h s => s.sleep h)

theorem State.sleep_refused {r : Result}
    (checks : s.sleepChecks (wakeSettingsOf h.body h.slot) (patternTableOf h.body) = .error r) :
    s.sleep h = s.refuseOrder h r := by
  simp only [State.sleep, checks]

theorem State.sleep_passed (checks : s.sleepChecks (wakeSettingsOf h.body h.slot) (patternTableOf h.body) = .ok ()) :
    s.sleep h = if (wakeSettingsOf h.body h.slot).patternOn = 0 then s.acceptSleep h (wakeSettingsOf h.body h.slot)
      else s.withStage h (.reading (patternTableOf h.body) [] 8) := by
  simp only [State.sleep, checks]

/-! ### The sleep begins (R145) -/

/-- With no early mark N moves on by one. -/
theorem Intake.advanceN_unmarked {i : Intake} (h : ∀ n, (i.slot n).early = false) : i.advanceN = i.bumpN :=
  Intake.passMarked_unmarked (i := i.bumpN) (h _) _

/-- A slot record replaced by another without an early mark brings no mark. -/
theorem Intake.withSlot_unmarked {i : Intake} (h : ∀ n, (i.slot n).early = false) {x : SlotRecord} (hx : x.early = false)
    (m n : Nat) : ((i.withSlot m x).slot n).early = false := by
  rw [Intake.slot_withSlot]
  split
  · exact hx
  · exact h n

theorem State.leaveFetching_of_not_held {i : Nat} (x : SlotRecord)
    (h : ∀ y, s.passage.cpu = some y → y.status ≠ .held (.slot i)) : s.leaveFetching i x = s.withSlot i x :=
  State.releaseCpu_of_not_held (s := s.withSlot i x) h

theorem State.acceptSleep_eq (w : WakeSettings) (early : ∀ i, (s.intake.slot i).early = false)
    (free : ∀ x, s.passage.cpu = some x → x.status ≠ .held (.slot h.slot)) : s.acceptSleep h w
    = (s.withPower { Power.reset with
        state := .sleepPending, settings := some w, sleepLimit := true, patternTimers := s.watchPatterns w
        wakeWrites := s.power.wakeWrites }).withIntake { s.intake with
          slots := s.intake.slots.set h.slot { s.intake.slot h.slot with state := .handed }
          inHand := none, state := .waiting, next := (s.intake.next + 1) % s.intake.slots.length } := by
  have unmarked := Intake.withSlot_unmarked early (x := { s.intake.slot h.slot with state := .handed }) (early h.slot) h.slot
  unfold State.acceptSleep
  dsimp only
  rw [State.leaveFetching_of_not_held _ (by exact free), Intake.advanceN_unmarked (by exact unmarked), Intake.bumpN]
  simp only [State.withSlot, State.withPower, State.withIntake, Intake.withSlot, List.length_set]

/-! ### The pattern table (R144) -/

theorem Pattern.valid_iff (p : Pattern) :
    p.valid = true ↔ p.mask ≠ 0 ∧ p.mask.toNat < 64 ∧ p.levels.toNat < 64 ∧ p.hold ≠ 0 := by
  simp [Pattern.valid, and_assoc]

/-- The settings of a SLEEP with the patterns that its table gives. -/
def sleepSettings (h : InHand) (ws : List Word) : WakeSettings :=
  { wakeSettingsOf h.body h.slot with patterns := Vector.ofFn fun p : Fin 4 => patternAt ws p.val }

theorem patternsValid_iff (w : WakeSettings) :
    ((List.finRange 4).all fun p => !w.patternOn.getLsbD p.val || (w.patterns[p]).valid) = true
      ↔ ∀ p : Fin 4, w.patternOn.getLsbD p.val = true → w.patterns[p].mask ≠ 0 ∧ w.patterns[p].mask.toNat < 64
        ∧ w.patterns[p].levels.toNat < 64 ∧ w.patterns[p].hold ≠ 0 := by
  simp only [List.all_eq_true, List.mem_finRange, forall_const, Bool.or_eq_true, Bool.not_eq_true', Pattern.valid_iff]
  refine forall_congr' fun p => ?_
  cases w.patternOn.getLsbD p.val <;> simp

section
variable {a g k total : Nat} {ws : List Word}

theorem State.patternsRead_part (more : ws.length < total) :
    s.patternsRead h a ws total = s.withStage h (.reading a ws total) := if_pos more

theorem State.patternsRead_whole (whole : total ≤ ws.length) : s.patternsRead h a ws total =
    if ((List.finRange 4).all fun p => !(sleepSettings h ws).patternOn.getLsbD p.val
      || ((sleepSettings h ws).patterns[p]).valid) = true
    then s.acceptSleep h (sleepSettings h ws) else s.refuseOrder h .refusedParam := if_neg (Nat.not_lt.mpr whole)

theorem leads_patternTableReadEnd {u : State} (hh : s.intake.inHand = some h) (hk : h.kind = kindSleep)
    (hs : h.stage = .reading a ws total) (hg : s.port.grant = some (.intake (.read g k)))
    (hu : s.freePort.patternsRead h a (ws ++ s.dramWords g k) total = u) : Leads .patternTableReadEnd s u := by
  have hr : s.recordRead kindSleep = some (h, a, ws, total, g, k) := hk ▸ State.recordRead_eq hh hs hg
  have he : execPatternTableReadEnd s = finish u := by simp only [execPatternTableReadEnd, hr, hu]
  exact leads_of_finish he

end

/-- Settles O42. -/
theorem sleepIsJudgedAndAccepted : Obligations.SleepIsJudgedAndAccepted := by
  refine ⟨fun s h hs => ?_, fun s h => ⟨fun w early free => State.acceptSleep_eq w early free,
    fun a ws total g k hh hk hst hg => ?_⟩⟩
  · intro w table params source muted quiet at'
    refine ⟨fun no => ?_, fun p no => ?_, fun p o yes => ?_, fun p o no busy => ?_, fun p o no q on => ?_,
      fun p o no q off => ?_⟩
    · exact leads_sleep hs (State.sleep_refused (State.sleepChecks_params no))
    · exact leads_sleep hs (State.sleep_refused (State.sleepChecks_noWake p no))
    · exact leads_sleep hs (State.sleep_refused (State.sleepChecks_muted p o yes))
    · exact leads_sleep hs (State.sleep_refused (State.sleepChecks_busy p o no busy))
    · exact leads_sleep hs ((State.sleep_passed (State.sleepChecks_pass p o no q)).trans (if_neg on))
    · exact leads_sleep hs ((State.sleep_passed (State.sleepChecks_pass p o no q)).trans (if_pos off))
  · intro v got w valid
    have judged := patternsValid_iff w
    refine ⟨fun more => leads_patternTableReadEnd hh hk hst hg (State.patternsRead_part more), fun whole good => ?_,
      fun whole bad => ?_⟩
    · exact leads_patternTableReadEnd hh hk hst hg ((State.patternsRead_whole whole).trans (if_pos (judged.mpr good)))
    · exact leads_patternTableReadEnd hh hk hst hg ((State.patternsRead_whole whole).trans (if_neg (mt judged.mp bad)))

end Sys2Proof.Machine
end

section
/-! The checks of MOVE, CAPTURE and EMIT (R83, R98, R113): the fields that pass them and the order that they make. -/

namespace Sys2Proof.Machine

open Sys2Proof

variable {s : State} {body : List Word} {w : Work}

/-! ### What passes a check -/

theorem need_bind_eq_ok {α β : Type} {x : Option α} {r : Result} {f : α → Except Result β} {y : β} :
    (need x r >>= f) = .ok y ↔ ∃ v, x = some v ∧ f v = .ok y := by
  cases x with
  | none => exact ⟨nofun, nofun⟩
  | some v => exact ⟨fun e => ⟨v, rfl, e⟩, fun ⟨_, e, q⟩ => Option.some.inj e ▸ q⟩

theorem check_bind_eq_ok {β : Type} {b : Bool} {r : Result} {f : Unit → Except Result β} {y : β} :
    (check b r >>= f) = .ok y ↔ b = true ∧ f () = .ok y := by
  cases b with
  | false => exact ⟨nofun, nofun⟩
  | true => exact ⟨fun e => ⟨rfl, e⟩, fun e => e.2⟩

theorem pure_eq_ok {β : Type} {x y : β} : (pure x : Except Result β) = .ok y ↔ y = x :=
  ⟨fun e => (Except.ok.inj e).symm, fun e => e ▸ rfl⟩

/-! ### The fields (Table 11-3) -/

theorem chan?_eq_some {n : Nat} {c : Chan} : chan? n = some c ↔ n = (match c with | .d => 0 | .p => 1) := by
  constructor
  · intro e
    unfold chan? at e
    split at e <;> cases e <;> rfl
  · rintro rfl
    cases c <;> rfl

theorem direction?_eq_some {n : Nat} {d : Direction} :
    direction? n = some d ↔ n = (match d with | .forward => 0 | .reverse => 1) := by
  constructor
  · intro e
    unfold direction? at e
    split at e <;> cases e <;> rfl
  · rintro rfl
    cases d <;> rfl

theorem edgeSensor?_eq_some {n : Nat} {x : Sensor} :
    edgeSensor? n = some x ↔ n = (sensorNumber x).val ∧ x ≠ .coverClosed := by
  constructor
  · intro e
    unfold edgeSensor? at e
    split at e <;> cases e <;> exact ⟨rfl, nofun⟩
  · rintro ⟨rfl, edge⟩
    cases x
    case coverClosed => exact absurd rfl edge
    all_goals rfl

theorem fin4?_eq_some {n : Nat} {b : Fin 4} : fin4? n = some b ↔ n = b.val := by
  constructor
  · intro e
    unfold fin4? at e
    split at e <;> cases e
    rfl
  · rintro rfl
    exact fin4?_val b

theorem fin8?_eq_some {n : Nat} {p : Fin 8} : fin8? n = some p ↔ n = p.val := by
  constructor
  · intro e
    unfold fin8? at e
    split at e <;> cases e
    rfl
  · rintro rfl
    exact fin8?_val p

theorem usableProfile_eq_some {n : Nat} {p : Fin 8} :
    s.usableProfile n = some p ↔ n = p.val ∧ s.profiles[p] ≠ [] := by
  constructor
  · intro e
    unfold State.usableProfile at e
    split at e
    · rename_i q hq
      split at e <;> cases e
      rename_i used
      exact ⟨fin8?_eq_some.mp hq, fun none => used (by rw [none]; rfl)⟩
    · cases e
  · rintro ⟨rfl, used⟩
    simp only [State.usableProfile, fin8?_val]
    exact if_neg (mt List.isEmpty_iff.mp used)

theorem word_ne_zero (x : Word) : x ≠ 0 ↔ x.toNat ≠ 0 := by
  rw [ne_eq, ← BitVec.toNat_inj]; rfl

/-- The edge fields that a MOVE may give (R83). -/
def EdgeFields (body : List Word) (e : EdgeParams) : Prop :=
  bits (bodyWord body 4) 7 0 = (sensorNumber e.sensor).val ∧ e.sensor ≠ .coverClosed
    ∧ bits (bodyWord body 4) 15 8 = (if e.rising then 0 else 1) ∧ e.extra = (bodyWord body 5).toNat
    ∧ e.jam = (bodyWord body 6).toNat ∧ e.jam ≠ 0

theorem edgeParamsOf_eq_some {e : EdgeParams} : edgeParamsOf body = some e ↔ EdgeFields body e := by
  constructor
  · intro made
    unfold edgeParamsOf at made
    dsimp only at made
    split at made <;> cases made
    all_goals
      rename_i sensor edge jam
      obtain ⟨number, ne⟩ := edgeSensor?_eq_some.mp sensor
      exact ⟨number, ne, edge, rfl, jam.symm, Nat.succ_ne_zero _⟩
  · obtain ⟨x, rising, extra, jam⟩ := e
    rintro ⟨number, ne, edge, rfl, jam', nonzero⟩
    obtain ⟨n, rfl⟩ := Nat.exists_eq_succ_of_ne_zero nonzero
    have sensor := edgeSensor?_eq_some.mpr ⟨number, ne⟩
    cases rising
    · simp only [edgeParamsOf, sensor, ← jam', show bits (bodyWord body 4) 15 8 = 1 from edge]
    · simp only [edgeParamsOf, sensor, ← jam', show bits (bodyWord body 4) 15 8 = 0 from edge]

theorem endConditionOf_eq_some {e : Option EdgeParams} : endConditionOf body = some e ↔
    (match e with
      | none => bits (bodyWord body 2) 15 8 = 0
      | some e => bits (bodyWord body 2) 15 8 = 1 ∧ EdgeFields body e) := by
  unfold endConditionOf
  constructor
  · intro made
    split at made
    · cases made; assumption
    · obtain ⟨x, hx, rfl⟩ := Option.map_eq_some_iff.mp made
      exact ⟨by assumption, edgeParamsOf_eq_some.mp hx⟩
    · cases made
  · intro made
    cases e with
    | none => simp only [show bits (bodyWord body 2) 15 8 = 0 from made]
    | some e => simp only [made.1, edgeParamsOf_eq_some.mpr made.2, Option.map_some]

/-! ### The orders -/

theorem captureOf_eq_ok : s.captureOf body = .ok w ↔ ∃ (b : Fin 4) (p : Fin 8),
    bits (bodyWord body 1) 3 0 = b.val ∧ (s.bands[b].role = .capture ∨ s.bands[b].role = .copy)
      ∧ (bits (bodyWord body 1) 7 4 = p.val ∧ s.profiles[p] ≠ [])
      ∧ (1 ≤ bits (bodyWord body 1) 11 8 ∧ bits (bodyWord body 1) 11 8 ≤ 8) ∧ bits (bodyWord body 1) 15 12 ≤ 3
      ∧ (bodyWord body 4).toNat ≠ 0 ∧ (bodyWord body 5).toNat ≠ 0 ∧ w = .capture (captureParamsOf body b p) := by
  simp only [State.captureOf, need_bind_eq_ok, check_bind_eq_ok, pure_eq_ok, fin4?_eq_some, usableProfile_eq_some,
    within, Bool.and_eq_true, Bool.or_eq_true, decide_eq_true_eq, word_ne_zero]
  exact exists_congr fun b => ⟨fun ⟨e, role, p, rest⟩ => ⟨p, e, role, rest⟩, fun ⟨p, e, role, rest⟩ => ⟨e, role, p, rest⟩⟩

theorem emitOf_eq_ok : s.emitOf body = .ok w ↔ ∃ (b : Fin 4) (p : Fin 8),
    bits (bodyWord body 1) 3 0 = b.val ∧ (s.bands[b].role = .emit ∨ s.bands[b].role = .copy)
      ∧ (bits (bodyWord body 1) 7 4 = p.val ∧ s.profiles[p] ≠ [])
      ∧ (1 ≤ bits (bodyWord body 1) 11 8 ∧ bits (bodyWord body 1) 11 8 ≤ 8)
      ∧ ((bits (bodyWord body 1) 15 12 = 1 ∨ bits (bodyWord body 1) 15 12 = 2) ∨ bits (bodyWord body 1) 15 12 = 4)
      ∧ bits (bodyWord body 2) 7 0 ≠ 0 ∧ w = .emit (emitParamsOf body b p) := by
  simp only [State.emitOf, need_bind_eq_ok, check_bind_eq_ok, pure_eq_ok, fin4?_eq_some, usableProfile_eq_some,
    within, Bool.and_eq_true, Bool.or_eq_true, decide_eq_true_eq]
  exact exists_congr fun b => ⟨fun ⟨e, role, p, rest⟩ => ⟨p, e, role, rest⟩, fun ⟨p, e, role, rest⟩ => ⟨e, role, p, rest⟩⟩

theorem moveOf_eq_ok : s.moveOf body = .ok w ↔ ∃ (c : Chan) (p : Fin 8) (d : Direction) (e : Option EdgeParams),
    chan? (bits (bodyWord body 1) 7 0) = some c
      ∧ (bits (bodyWord body 1) 15 8 = p.val ∧ s.profiles[p] ≠ []) ∧ direction? (bits (bodyWord body 2) 7 0) = some d
      ∧ (bodyWord body 3).toNat ≠ 0 ∧ endConditionOf body = some e
      ∧ w = .move { chan := c, profile := p, dir := d, count := (bodyWord body 3).toNat, edge := e } := by
  simp only [State.moveOf, need_bind_eq_ok, check_bind_eq_ok, pure_eq_ok, usableProfile_eq_some, decide_eq_true_eq,
    word_ne_zero]
  exact ⟨fun ⟨c, hc, p, hp, d, hd, count, e, he, made⟩ => ⟨c, p, d, e, hc, hp, hd, count, he, made⟩,
    fun ⟨c, p, d, e, hc, hp, hd, count, he, made⟩ => ⟨c, hc, p, hp, d, hd, count, e, he, made⟩⟩

/-- Settles O45. -/
theorem queuedOrdersAreChecked : Obligations.QueuedOrdersAreChecked := by
  intro s body w f
  refine ⟨fun wk => moveOf_eq_ok.trans ⟨?_, ?_⟩, fun wk => captureOf_eq_ok.trans ⟨?_, ?_⟩,
    fun wk => emitOf_eq_ok.trans ⟨?_, ?_⟩⟩
  · rintro ⟨c, p, d, e, hc, ⟨hp, used⟩, hd, count, he, made⟩
    exact ⟨_, made, chan?_eq_some.mp hc, hp, used, direction?_eq_some.mp hd, rfl, count, endConditionOf_eq_some.mp he⟩
  · rintro ⟨⟨c, p, d, count, e⟩, made, hc, hp, used, hd, rfl, some, he⟩
    exact ⟨c, p, d, e, chan?_eq_some.mpr hc, ⟨hp, used⟩, direction?_eq_some.mpr hd, some,
      endConditionOf_eq_some.mpr he, made⟩
  · rintro ⟨b, p, hb, role, ⟨hp, used⟩, ⟨low, high⟩, rate, jam, long, made⟩
    exact ⟨_, made, hb, role, hp, used, rfl, low, high, rfl, rate, rfl, rfl, rfl, rfl, jam, rfl, long, rfl, rfl⟩
  · rintro ⟨⟨b, p, steps, rate, skip, tail, limit, jam, long, eject, pause⟩, made, hb, role, hp, used, rfl, low, high,
      rfl, fast, rfl, rfl, rfl, rfl, jams, rfl, longs, rfl, rfl⟩
    exact ⟨b, p, hb, role, ⟨hp, used⟩, ⟨low, high⟩, fast, jams, longs, made⟩
  · rintro ⟨b, p, hb, role, ⟨hp, used⟩, ⟨low, high⟩, groups, heat, made⟩
    exact ⟨_, made, hb, role, hp, used, rfl, low, high, rfl, or_assoc.mp groups, rfl, heat, rfl, rfl, rfl⟩
  · rintro ⟨⟨b, p, steps, groups, heat, count, feed, pause⟩, made, hb, role, hp, used, rfl, low, high, rfl, group, rfl,
      hot, rfl, rfl, rfl⟩
    exact ⟨b, p, hb, role, ⟨hp, used⟩, ⟨low, high⟩, or_assoc.mpr group, hot, made⟩

end Sys2Proof.Machine
end

section
/-! FRAME. What the engines leave of the Order Intake: the end of an order writes the outcome and the stage of the running
order of its queue, and the final writes that wait; all else stands (R33, R36, R37). -/

namespace Sys2Proof.Machine

open Sys2Proof

variable {s : State} {q : QueueId}

/-! ### The outcome left out -/

/-- A running order without its stage and its outcome. -/
def Running.bare (ro : Running) : Running := { order := ro.order, stage := .active, result := .ok, figures := [] }

/-- A queue without the stage and the outcome of its running order. -/
def Queue.bare (x : Queue) : Queue := { x with running := x.running.map Running.bare }

/-- The Intake without the stage and the outcome of the running order of a queue, and without the final writes. -/
def Intake.besideEnd (i : Intake) (q : QueueId) : Intake := { i with finalWrites := [] }.withQueue q (i.queue q).bare

/-- The Intake of a state, so read. -/
def State.besideEnd (s : State) (q : QueueId) : Intake := s.intake.besideEnd q

section
variable {i j : Intake} (h : i.besideEnd q = j.besideEnd q)
include h

theorem Intake.queue_bare_of_besideEnd : (i.queue q).bare = (j.queue q).bare := by
  have := congrArg (fun i => Intake.queue i q) h
  simpa only [Intake.besideEnd, Intake.queue_withQueue_same] using this

theorem Intake.waiting_of_besideEnd : (i.queue q).waiting = (j.queue q).waiting :=
  (congrArg Queue.waiting (Intake.queue_bare_of_besideEnd h) :)

theorem Intake.order_of_besideEnd : (i.queue q).running.map (·.order) = (j.queue q).running.map (·.order) := by
  have := congrArg (fun x : Queue => x.running.map (·.order)) (Intake.queue_bare_of_besideEnd h)
  simpa only [Queue.bare, Option.map_map, Function.comp_def, Running.bare] using this

theorem Intake.queue_of_besideEnd {r : QueueId} (other : r ≠ q) : i.queue r = j.queue r := by
  have := congrArg (fun i => Intake.queue i r) h
  cases q <;> cases r <;> first
    | exact absurd rfl other
    | exact this

theorem Intake.slots_of_besideEnd : i.slots = j.slots := by
  have := congrArg Intake.slots h
  cases q <;> exact this

theorem Intake.next_of_besideEnd : i.next = j.next := by
  have := congrArg Intake.next h
  cases q <;> exact this

theorem Intake.state_of_besideEnd : i.state = j.state := by
  have := congrArg Intake.state h
  cases q <;> exact this

theorem Intake.inHand_of_besideEnd : i.inHand = j.inHand := by
  have := congrArg Intake.inHand h
  cases q <;> exact this

theorem Intake.dispatch_of_besideEnd : i.dispatch = j.dispatch := by
  have := congrArg Intake.dispatch h
  cases q <;> exact this

end

/-! ### Operations that leave the Intake -/

@[simp] theorem State.withChan_intake (c : Chan) (x : Channel) : (s.withChan c x).intake = s.intake := by cases c <;> rfl
@[simp] theorem State.releaseCpu_intake (why : HoldReason) : (s.releaseCpu why).intake = s.intake :=
  State.intake_of_besideCpu (State.releaseCpu_besideCpu why)
@[simp] theorem State.releaseMover_intake (b : Fin 4) (line : Nat) : (s.releaseMover b line).intake = s.intake := by
  unfold State.releaseMover; (repeat' split) <;> simp
@[simp] theorem State.releaseLine_intake (b : Fin 4) (line : Nat) : (s.releaseLine b line).intake = s.intake := by
  simp [State.releaseLine]
@[simp] theorem State.withCaptureRecord_intake (r : CaptureRecord) : (s.withCaptureRecord r).intake = s.intake := rfl
@[simp] theorem State.withEmitRecord_intake (r : EmitRecord) : (s.withEmitRecord r).intake = s.intake := rfl
@[simp] theorem State.beginLine_intake (p : CaptureParams) (r : CaptureRecord) : (s.beginLine p r).intake = s.intake := by
  unfold State.beginLine; (repeat' split) <;> simp
@[simp] theorem State.withdrawClocking_intake (n : Fin 4) : (s.withdrawClocking n).intake = s.intake := by
  unfold State.withdrawClocking; dsimp only; (repeat' split) <;> simp
@[simp] theorem State.captureProceed_intake (p : CaptureParams) (r : CaptureRecord) (level : Nat) :
    (s.captureProceed p r level).intake = s.intake := by
  simp [State.captureProceed]
@[simp] theorem State.paceCapture_intake (p : CaptureParams) (r : CaptureRecord) : (s.paceCapture p r).intake = s.intake := by
  unfold State.paceCapture; split <;> simp
@[simp] theorem State.tryLatch_intake : s.tryLatch.intake = s.intake := by
  unfold State.tryLatch; split <;> simp
@[simp] theorem State.revertLines_intake (b : Fin 4) : (s.revertLines b).intake = s.intake := rfl
@[simp] theorem State.emitProceed_intake (r : EmitRecord) (level : Nat) : (s.emitProceed r level).intake = s.intake := by
  simp [State.emitProceed]

/-! ### Operations that may end the running order of a queue -/

/-- An operation that leaves the Intake leaves what is beside an end. -/
theorem State.besideEnd_of_intake {t u : State} (h : t.intake = u.intake) : t.besideEnd q = u.besideEnd q :=
  congrArg (fun i => Intake.besideEnd i q) h

theorem State.enterCompletion_besideEnd : (s.enterCompletion q).besideEnd q = s.besideEnd q := by
  unfold State.enterCompletion
  split
  · rfl
  · next ro hr =>
    cases q <;> simp_all [State.besideEnd, Intake.besideEnd, State.withRunning, State.running, Intake.queue,
      Intake.withQueue, Queue.bare, Running.bare]

theorem State.endOrder_besideEnd (block : Block) (r : Result) (figures : List Word) :
    (s.endOrder q block r figures).besideEnd q = s.besideEnd q := by
  unfold State.endOrder
  split
  · rfl
  · next ro hr =>
    have bare : (s.withRunning q (some { ro with stage := .offered, result := r, figures := figures })).besideEnd q
        = s.besideEnd q := by
      cases q <;> simp_all [State.besideEnd, Intake.besideEnd, State.withRunning, State.running, Intake.queue,
        Intake.withQueue, Queue.bare, Running.bare]
    unfold State.offer
    split
    · exact State.enterCompletion_besideEnd.trans bare
    · exact bare

@[simp] theorem State.startMove_besideEnd (c : Chan) (p : MoveParams) :
    (s.startMove c p).besideEnd (chanQueue c) = s.besideEnd (chanQueue c) := by
  unfold State.startMove
  split
  · exact State.endOrder_besideEnd ..
  · exact State.besideEnd_of_intake (State.withChan_intake ..)

@[simp] theorem State.captureFinish_besideEnd : s.captureFinish.besideEnd .d = s.besideEnd .d := by
  unfold State.captureFinish
  (repeat' split) <;> first
    | exact State.endOrder_besideEnd ..
    | rfl

@[simp] theorem State.captureDecide_besideEnd (r : CaptureRecord) (result : Result) :
    (s.captureDecide r result).besideEnd .d = s.besideEnd .d := State.captureFinish_besideEnd

@[simp] theorem State.captureStop_besideEnd (r : CaptureRecord) (result : Result) :
    (s.captureStop r result).besideEnd .d = s.besideEnd .d := State.captureFinish_besideEnd

@[simp] theorem State.enterEject_besideEnd (p : CaptureParams) (r : CaptureRecord) :
    (s.enterEject p r).besideEnd .d = s.besideEnd .d := by
  unfold State.enterEject
  split
  · exact State.captureFinish_besideEnd
  · rfl

@[simp] theorem State.tailBoundary_besideEnd (p : CaptureParams) (r : CaptureRecord) :
    (s.tailBoundary p r).besideEnd .d = s.besideEnd .d := by
  unfold State.tailBoundary
  (repeat' split)
  · exact State.enterEject_besideEnd ..
  · exact State.enterEject_besideEnd ..
  · exact State.besideEnd_of_intake (State.paceCapture_intake ..)

@[simp] theorem State.scanBoundary_besideEnd (p : CaptureParams) (r : CaptureRecord) :
    (s.scanBoundary p r).besideEnd .d = s.besideEnd .d := by
  unfold State.scanBoundary
  (repeat' split)
  · exact State.tailBoundary_besideEnd ..
  · exact State.enterEject_besideEnd ..
  · exact State.captureStop_besideEnd ..
  · exact State.besideEnd_of_intake (State.paceCapture_intake ..)

@[simp] theorem State.enterPaced_besideEnd (p : CaptureParams) (r : CaptureRecord) :
    (s.enterPaced p r).besideEnd .d = s.besideEnd .d := State.scanBoundary_besideEnd ..

@[simp] theorem State.enterSkip_besideEnd (p : CaptureParams) (r : CaptureRecord) :
    (s.enterSkip p r).besideEnd .d = s.besideEnd .d := by
  unfold State.enterSkip
  dsimp only
  split
  · exact State.enterPaced_besideEnd ..
  · rfl

@[simp] theorem State.startCapture_besideEnd (p : CaptureParams) : (s.startCapture p).besideEnd .d = s.besideEnd .d := by
  unfold State.startCapture
  dsimp only
  (repeat' split)
  · exact State.captureDecide_besideEnd ..
  · exact State.captureDecide_besideEnd ..
  · exact State.enterSkip_besideEnd ..
  · rfl

@[simp] theorem State.emitDecide_besideEnd (r : EmitRecord) (result : Result) (reason : EndReason) :
    (s.emitDecide r result reason).besideEnd .p = s.besideEnd .p := State.endOrder_besideEnd ..

@[simp] theorem State.emitStop_besideEnd (p : EmitParams) (r : EmitRecord) (result : Result) (reason : EndReason) :
    (s.emitStop p r result reason).besideEnd .p = s.besideEnd .p := State.emitDecide_besideEnd ..

@[simp] theorem State.enterTail_besideEnd (p : EmitParams) (r : EmitRecord) :
    (s.enterTail p r).besideEnd .p = s.besideEnd .p := by
  unfold State.enterTail
  dsimp only
  (repeat' split)
  · exact State.emitDecide_besideEnd ..
  · rfl
  · rfl

@[simp] theorem State.printBoundary_besideEnd (p : EmitParams) (r : EmitRecord) :
    (s.printBoundary p r).besideEnd .p = s.besideEnd .p := by
  unfold State.printBoundary
  (repeat' split)
  · exact State.emitStop_besideEnd ..
  · exact State.enterTail_besideEnd ..
  · exact State.enterTail_besideEnd ..
  · rfl
  · exact State.besideEnd_of_intake (State.emitProceed_intake ..)

@[simp] theorem State.startEmit_besideEnd (p : EmitParams) : (s.startEmit p).besideEnd .p = s.besideEnd .p := by
  unfold State.startEmit
  (repeat' split)
  · exact State.emitDecide_besideEnd ..
  · exact State.emitDecide_besideEnd ..
  · exact State.printBoundary_besideEnd ..

@[simp] theorem State.testOpenEnd_besideEnd : s.testOpenEnd.besideEnd .p = s.besideEnd .p := by
  unfold State.testOpenEnd
  (repeat' split) <;> simp

/-- The start of an order leaves all of the Intake but the outcome in its own queue. -/
theorem State.startOrder_besideEnd {o : Order} (own : o.work.queue = q) : (s.startOrder q o).besideEnd q = s.besideEnd q := by
  subst own
  unfold State.startOrder
  split
  · exact State.endOrder_besideEnd ..
  · cases o.work with
    | move p => exact State.startMove_besideEnd ..
    | capture p => exact State.startCapture_besideEnd p
    | emit p => exact State.startEmit_besideEnd p
    | transfer p => rfl

end Sys2Proof.Machine
end

section
/-! The order in hand is handed over (R33): into the dispatch place, and with room on into its queue; at the head of an
empty queue it starts (R36). -/

namespace Sys2Proof.Machine

open Sys2Proof

variable {s e : State} {h : InHand} {w : Work} {o : Order} {q : QueueId}

/-! ### A released access leaves all but the Passage's answer -/

/-- A state without the processor's access and answer, the unposted-fault count and the pending reports. -/
def State.besideFault (s : State) : State :=
  { s with
    reports := { s.reports with pending := [] }
    passage := { s.passage with cpu := none, reply := none, unposted := 0 } }

theorem State.raiseFault_besideFault (f : PassageFault) : (s.raiseFault f).besideFault = s.besideFault := by
  unfold State.raiseFault State.enter
  (repeat' split) <;> rfl

theorem State.expireHold_besideFault (x : CpuAccess) (b : Fin 4) : (s.expireHold x b).besideFault = s.besideFault := by
  unfold State.expireHold State.endHold
  split <;> exact State.raiseFault_besideFault _

theorem State.presentCpu_besideFault (a : Access) (t : HoldTimer) : (s.presentCpu a t).besideFault = s.besideFault := by
  unfold State.presentCpu State.holdCpu
  (repeat' split) <;> first
    | exact State.raiseFault_besideFault _
    | exact State.expireHold_besideFault ..
    | rfl

theorem State.releaseCpu_besideFault (why : HoldReason) : (s.releaseCpu why).besideFault = s.besideFault := by
  unfold State.releaseCpu
  (repeat' split) <;> first
    | exact State.presentCpu_besideFault ..
    | rfl

section
variable (same : e.besideFault = s.besideFault)
include same

theorem State.noticeWaits_of_besideFault (b : Fin 4) : e.noticeWaits b = s.noticeWaits b :=
  (congrArg (fun v : State => v.noticeWaits b) same :)
theorem State.level_of_besideFault (x : Sensor) : e.level x = s.level x := (congrArg (fun v : State => v.level x) same :)
theorem State.chan_of_besideFault (c : Chan) : e.chan c = s.chan c := by
  cases c
  · exact (congrArg State.chanD same :)
  · exact (congrArg State.chanP same :)
theorem State.profiles_of_besideFault : e.profiles = s.profiles := (congrArg State.profiles same :)
theorem State.bands_of_besideFault : e.bands = s.bands := (congrArg State.bands same :)
theorem State.capture_of_besideFault : e.capture = s.capture := (congrArg State.capture same :)
theorem State.emit_of_besideFault : e.emit = s.emit := (congrArg State.emit same :)
theorem State.power_of_besideFault : e.power = s.power := (congrArg State.power same :)
theorem State.port_of_besideFault : e.port = s.port := (congrArg State.port same :)

end

/-! ### The dispatch place (R33) -/

/-- A running order at its start (R36). -/
def Order.first (o : Order) : Running := { order := o, stage := .active, result := .ok, figures := [] }

/-- The Intake with the order of the dispatch place at the back of its queue, N moved on (R33). -/
def Intake.placed (i : Intake) (o : Order) : Intake :=
  (({ i with dispatch := none }.withQueue o.work.queue
    { (i.queue o.work.queue) with waiting := (i.queue o.work.queue).waiting ++ [o] }).advanceN).toWaiting

theorem Intake.toWaiting_queue (i : Intake) (q : QueueId) : i.toWaiting.queue q = i.queue q := by
  unfold Intake.toWaiting
  split <;> cases q <;> rfl

theorem Intake.toWaiting_dispatch (i : Intake) : i.toWaiting.dispatch = i.dispatch := by
  unfold Intake.toWaiting
  split <;> rfl

theorem Intake.passMarked_turn (i : Intake) (n : Nat) : (i.passMarked n).dispatch = i.dispatch
    ∧ ∀ q, (i.passMarked n).queue q = i.queue q := by
  induction n generalizing i with
  | zero => exact ⟨rfl, fun _ => rfl⟩
  | succ n ih =>
    unfold Intake.passMarked
    split
    · obtain ⟨place, queues⟩ := ih ((i.withSlot i.next { i.slot i.next with early := false }).bumpN)
      exact ⟨place, fun q => (queues q).trans (by cases q <;> rfl)⟩
    · exact ⟨rfl, fun _ => rfl⟩

theorem Intake.advanceN_dispatch (i : Intake) : i.advanceN.dispatch = i.dispatch := (i.bumpN.passMarked_turn _).1

theorem Intake.advanceN_queue (i : Intake) (q : QueueId) : i.advanceN.queue q = i.queue q :=
  ((i.bumpN.passMarked_turn _).2 q).trans (by cases q <;> rfl)

theorem Intake.placed_dispatch (i : Intake) : (i.placed o).dispatch = none := by
  rw [Intake.placed, Intake.toWaiting_dispatch, Intake.advanceN_dispatch]
  cases o.work.queue <;> rfl

theorem Intake.placed_queue (i : Intake) : (i.placed o).queue o.work.queue
    = { (i.queue o.work.queue) with waiting := (i.queue o.work.queue).waiting ++ [o] } := by
  rw [Intake.placed, Intake.toWaiting_queue, Intake.advanceN_queue, Intake.queue_withQueue_same]

theorem State.dispatch_empty (none : s.intake.dispatch = none) : s.dispatch = s := by
  simp only [State.dispatch, none]

theorem State.dispatch_full (place : s.intake.dispatch = some o)
    (full : 4 ≤ (s.intake.queue o.work.queue).waiting.length) : s.dispatch = s := by
  simp only [State.dispatch, place]
  exact if_neg (Nat.not_lt.mpr full)

theorem State.dispatch_room (place : s.intake.dispatch = some o)
    (room : (s.intake.queue o.work.queue).waiting.length < 4) :
    s.dispatch = (s.withIntake (s.intake.placed o)).startNext o.work.queue := by
  simp only [State.dispatch, place]
  exact if_pos room

theorem State.startNext_running (busy : s.running q ≠ none) : s.startNext q = s := by
  obtain ⟨ro, hr⟩ := Option.ne_none_iff_exists'.mp busy
  simp only [State.startNext, hr]

theorem State.startNext_empty (free : s.running q = none) (empty : (s.intake.queue q).waiting = []) :
    s.startNext q = s := by
  simp only [State.startNext, free, empty]

theorem State.startNext_first {rest : List Order} (free : s.running q = none)
    (first : (s.intake.queue q).waiting = o :: rest) :
    s.startNext q = (s.withQueue q { running := some o.first, waiting := rest }).startOrder q o := by
  simp only [State.startNext, free, first, Order.first]

/-! ### Handing over -/

/-- The order in hand as it enters a queue (R33). -/
def InHand.order (h : InHand) (w : Work) : Order := { slot := h.slot, kind := h.kind, work := w, marked := false }

/-- The state with the order in hand in the dispatch place (R33). -/
def State.inPlace (s : State) (h : InHand) (w : Work) : State :=
  let s1 := s.leaveFetching h.slot { s.intake.slot h.slot with state := .handed }
  s1.withIntake { s1.intake with inHand := none, state := .dispatchWait, dispatch := some (h.order w) }

theorem State.handOver_eq : s.handOver h w = (s.inPlace h w).dispatch := rfl

theorem State.leaveFetching_intake (i : Nat) (x : SlotRecord) : (s.leaveFetching i x).intake = s.intake.withSlot i x :=
  (State.releaseCpu_intake _ :)

theorem State.inPlace_queue (q : QueueId) : (s.inPlace h w).intake.queue q = s.intake.queue q := by
  unfold State.inPlace
  simp only [State.withIntake_intake, State.leaveFetching_intake]
  cases q <;> rfl

theorem State.inPlace_running (q : QueueId) : (s.inPlace h w).running q = s.running q :=
  (congrArg Queue.running (State.inPlace_queue q) :)

theorem State.inPlace_besideFault :
    ((s.inPlace h w).withIntake s.intake).besideFault = s.besideFault :=
  congrArg (fun v => State.withIntake v s.intake) (State.releaseCpu_besideFault (s := s.withSlot h.slot _) (.slot h.slot))

/-- The queue of the order in hand being full, it waits in the dispatch place. -/
theorem State.handOver_waits (full : 4 ≤ (s.intake.queue w.queue).waiting.length)
    (free : ∀ y, s.passage.cpu = some y → y.status ≠ .held (.slot h.slot)) : s.handOver h w
    = s.withIntake { s.intake with
        slots := s.intake.slots.set h.slot { s.intake.slot h.slot with state := .handed }
        inHand := none
        state := .dispatchWait
        dispatch := some (h.order w) } := by
  rw [State.handOver_eq, State.dispatch_full (s := s.inPlace h w) (o := h.order w) rfl (by rw [State.inPlace_queue]; exact full),
    State.inPlace, State.leaveFetching_of_not_held _ (by exact free)]
  rfl

/-- The order in hand enters a queue that has a running order. -/
theorem State.handOver_behind (room : (s.intake.queue w.queue).waiting.length < 4) (busy : s.running w.queue ≠ none) :
    (s.handOver h w).intake.dispatch = none
      ∧ (s.handOver h w).intake.queue w.queue
        = { (s.intake.queue w.queue) with waiting := (s.intake.queue w.queue).waiting ++ [h.order w] } := by
  have placed := Intake.placed_queue (o := h.order w) (s.inPlace h w).intake
  have same := State.inPlace_queue (s := s) (h := h) (w := w) w.queue
  have running : ((s.inPlace h w).withIntake ((s.inPlace h w).intake.placed (h.order w))).running (h.order w).work.queue
      = s.running w.queue := (congrArg Queue.running placed).trans (State.inPlace_running _)
  rw [State.handOver_eq, State.dispatch_room (s := s.inPlace h w) (o := h.order w) rfl (by rw [State.inPlace_queue]; exact room),
    State.startNext_running (by rw [running]; exact busy)]
  refine ⟨Intake.placed_dispatch _, placed.trans ?_⟩
  rw [show (h.order w).work.queue = w.queue from rfl, same]

/-- The state in which the order in hand, come to the head of its queue, starts (R36). -/
def State.atHead (s : State) (h : InHand) (w : Work) : State :=
  ((s.inPlace h w).withIntake ((s.inPlace h w).intake.placed (h.order w))).withQueue w.queue
    { running := some (h.order w).first, waiting := [] }

/-- The order in hand enters an empty queue and starts. -/
theorem State.handOver_starts (free : s.running w.queue = none) (empty : (s.intake.queue w.queue).waiting = []) :
    ∃ e : State, s.handOver h w = e.startOrder w.queue (h.order w)
      ∧ (e.withIntake s.intake).besideFault = s.besideFault
      ∧ e.intake.dispatch = none ∧ e.intake.queue w.queue = { running := some (h.order w).first, waiting := [] } := by
  have placed := Intake.placed_queue (o := h.order w) (s.inPlace h w).intake
  have same := State.inPlace_queue (s := s) (h := h) (w := w) w.queue
  have running : ((s.inPlace h w).withIntake ((s.inPlace h w).intake.placed (h.order w))).running (h.order w).work.queue
      = none := ((congrArg Queue.running placed).trans (State.inPlace_running _)).trans free
  have waiting : (((s.inPlace h w).withIntake ((s.inPlace h w).intake.placed (h.order w))).intake.queue
      (h.order w).work.queue).waiting = [h.order w] := by
    refine (congrArg Queue.waiting placed).trans ?_
    rw [show (h.order w).work.queue = w.queue from rfl, same, empty]
    rfl
  refine ⟨s.atHead h w, ?starts, ?beside, ?place, ?queue⟩
  case starts =>
    rw [State.handOver_eq, State.dispatch_room (s := s.inPlace h w) (o := h.order w) rfl
      (by rw [State.inPlace_queue]; exact empty ▸ Nat.succ_pos 3)]
    exact State.startNext_first running waiting
  case beside => exact State.inPlace_besideFault (w := w)
  case queue => exact Intake.queue_withQueue_same _ _ _
  case place =>
    refine Eq.trans ?_ (Intake.placed_dispatch (o := h.order w) (s.inPlace h w).intake)
    unfold State.atHead
    cases w.queue <;> rfl

end Sys2Proof.Machine
end

section
/-! TRANSFER (R134, R167): the read of its segment record, the judgement of its segments, and its first chunk (R135 to
R137). -/

namespace Sys2Proof.Machine

open Sys2Proof

variable {s e : State} {h : InHand} {p : TransferParams} {a : Access} {q : QueueId}

/-! ### What follows of itself leaves the orders of the queues -/

section
variable {u t : State} (f : Follows u t)
include f

theorem Follows.waiting_orders (q : QueueId) : (t.intake.queue q).waiting = (u.intake.queue q).waiting := by
  obtain ⟨d, p, m, -⟩ := f.queues
  cases q
  · exact congrArg Queue.waiting d
  · exact congrArg Queue.waiting p
  · exact m

theorem Follows.running_order (q : QueueId) : (t.running q).map (·.order) = (u.running q).map (·.order) := by
  obtain ⟨d, p, -, m⟩ := f.queues
  cases q
  · exact congrArg (fun x : Queue => x.running.map (·.order)) d
  · exact congrArg (fun x : Queue => x.running.map (·.order)) p
  · exact m

end

/-! ### What follows of itself for the mover -/

theorem State.settleIntake_moverSide (s : State) : s.settleIntake.mover = s.mover
    ∧ s.settleIntake.port.moverReq = s.port.moverReq := by
  unfold State.settleIntake State.requestFetch
  dsimp only
  (repeat' split) <;> exact ⟨rfl, rfl⟩

theorem State.settleLapse_moverSide (s : State) : s.settleLapse.mover = s.mover
    ∧ s.settleLapse.port.moverReq = s.port.moverReq := by
  unfold State.settleLapse
  dsimp only
  (repeat' split) <;> exact ⟨rfl, rfl⟩

theorem State.settleTake_mover (s : State) : s.settleTake.mover = s.mover := by
  unfold State.settleTake
  (repeat' split) <;> rfl

theorem State.settle_mover (s : State) : s.settle.mover = s.settleMover.mover
    ∧ s.settle.port.moverReq = s.settleMover.port.moverReq := by
  unfold State.settle
  obtain ⟨r, hr⟩ := s.settleMover.settleCapture_eq
  obtain ⟨r', hr'⟩ := s.settleMover.settleCapture.settleEmit_eq
  obtain ⟨r'', hr''⟩ := s.settleMover.settleCapture.settleEmit.settleProcessor_eq
  obtain ⟨mover, req⟩ := s.settleMover.settleCapture.settleEmit.settleProcessor.settleTake.settleIntake.settleLapse_moverSide
  obtain ⟨mover', req'⟩ := s.settleMover.settleCapture.settleEmit.settleProcessor.settleTake.settleIntake_moverSide
  refine ⟨(mover.trans mover').trans ((State.settleTake_mover _).trans ?_),
    (req.trans req').trans ((congrArg Port.moverReq (State.settleTake_port _)).trans ?_)⟩ <;> rw [hr'', hr', hr] <;> rfl

/-- What a transfer was given and what it has moved. -/
def Mover.account (m : Mover) : TransferParams × Nat × Word := (m.params, m.moved, m.sum)

theorem Mover.beginChunk_account (m : Mover) (first : Nat) : (m.beginChunk first).account = m.account := rfl

theorem State.endTransfer_mover (r : Result) :
    (s.endTransfer r).mover = { s.mover with state := .ending, heldOn := none, aborting := false } :=
  State.mover_of_besideReports (State.endOrder_besideReports ..)

theorem State.raiseFault_mover_stands (f : PassageFault) : (s.raiseFault f).mover = s.mover :=
  State.mover_of_besideReports (State.raiseFault_besideReports f)

theorem State.turnChunk_account : s.turnChunk.mover.account = s.mover.account := by
  unfold State.turnChunk
  dsimp only
  (repeat' split) <;> first
    | rfl
    | exact (congrArg Mover.account (State.endTransfer_mover _)).trans rfl

theorem State.moverAct_account : s.moverAct.mover.account = s.mover.account := by
  unfold State.moverAct
  dsimp only
  (repeat' split) <;> first
    | rfl
    | exact State.turnChunk_account
    | exact (congrArg Mover.account (State.raiseFault_mover_stands _)).trans rfl

/-- Between its grants the mover moves nothing. -/
theorem State.runMover_account (n : Nat) : (s.runMover n).mover.account = s.mover.account := by
  induction n generalizing s with
  | zero => rfl
  | succ n ih =>
    rw [State.runMover]
    split
    · exact ih.trans State.moverAct_account
    · rfl

theorem State.settle_account (s : State) : s.settle.mover.account = s.mover.account := by
  rw [s.settle_mover.1, State.settleMover]
  split
  · exact State.runMover_account _
  · rfl

/-- A word that passes: the mover asks its burst, and waits for the grant. -/
theorem State.settleMover_asks {path : Path} (free : s.moverFree = true) (within : s.mover.next < s.mover.chunkEnd)
    (access : s.mover.access s.mover.next = some a) (passes : s.classify .mover a = .pass path) :
    s.settleMover = s.withPort
      { s.port with moverReq := some (s.moverBurst (s.mover.chunkEnd - s.mover.next) s.mover.next) } := by
  have act : s.moverAct = s.withPort
      { s.port with moverReq := some (s.moverBurst (s.mover.chunkEnd - s.mover.next) s.mover.next) } := by
    simp only [State.moverAct, if_neg (Nat.not_le.mpr within), access, passes]
  have stops (n : Nat) : s.moverAct.runMover n = s.moverAct := by
    rw [act]
    cases n with
    | zero => rfl
    | succ n => exact if_neg (by simp [State.moverFree])
  have fuel : s.mover.fuel = (2 * (s.mover.params.seg1.length + s.mover.params.seg2.length) + 7) + 1 := rfl
  rw [State.settleMover, if_pos free, fuel, State.runMover, if_pos free, stops, act]

/-! ### The mover's words are judged beside the Intake and the Passage's answer -/

theorem State.ordersTreatment_mover (n : Nat) : s.ordersTreatment .mover n = .pass .plain := by
  unfold State.ordersTreatment
  split <;> first
    | rfl
    | contradiction

theorem State.windowTreatment_mover_congr (at' : e.windowAt a.at = s.windowAt a.at) (windows : e.windows = s.windows)
    (reports : ∀ n, e.reportsTreatment a n = s.reportsTreatment a n) (bands : e.bandTreatment a = s.bandTreatment a) :
    e.windowTreatment .mover a = s.windowTreatment .mover a := by
  unfold State.windowTreatment
  simp only [at', windows, State.ordersTreatment_mover, reports, bands]

theorem State.classify_mover_besideFault (i : Intake) (a : Access) :
    ((s.withIntake i).besideFault).classify .mover a = s.classify .mover a := by
  have windows : ((s.withIntake i).besideFault).windowTreatment .mover a = s.windowTreatment .mover a :=
    State.windowTreatment_mover_congr rfl rfl (fun _ => rfl) rfl
  unfold State.classify
  rw [windows]
  rfl

/-- The mover's words are judged as before where only the Intake, the processor's access and the pending reports differ. -/
theorem State.classify_mover_of_besideFault {i j : Intake} (same : (e.withIntake i).besideFault = (s.withIntake j).besideFault)
    (a : Access) : e.classify .mover a = s.classify .mover a := by
  rw [← State.classify_mover_besideFault (s := e) i, same, State.classify_mover_besideFault]

end Sys2Proof.Machine
end

section
/-! TRANSFER (R134, R167), continued: the judgement of the segments as read, and the start (R135 to R137). -/

namespace Sys2Proof.Machine

open Sys2Proof

variable {s e : State} {h : InHand} {mode : MoverMode} {x y : Segment}

/-! ### The judgement (R134) -/

/-- Checks 3 and 4 of TRANSFER: a destination. -/
def State.DestFits (s : State) (x : Segment) : Prop :=
  x.dest % 2 = 0 ∧ x.dest + x.length ≤ s.installed
    ∧ (∀ j : Fin 8, s.windows[j].kind = .guard →
      x.dest + x.length ≤ s.windows[j].base ∨ s.windows[j].base + s.windows[j].length ≤ x.dest)
    ∧ (s.passage.mode = .shadow → s.passage.guard = true → s.imageRange ≤ x.dest)

/-- Check 4 of TRANSFER: a source, judged in COPY mode alone. -/
def State.SourceFits (s : State) (mode : MoverMode) (x : Segment) : Prop :=
  mode = .copy → x.source % 2 = 0
    ∧ (x.source + x.length ≤ s.installed ∨ 0xE00000 ≤ x.source ∧ x.source + x.length ≤ 0x1000000)

/-- A segment length that may be given. -/
def LengthFits (n : Nat) : Prop := n % 2 = 0 ∧ n ≤ 0x100000

/-- The segments of a TRANSFER pass checks 2 to 5. -/
def State.SegmentsFit (s : State) (mode : MoverMode) (x y : Segment) : Prop :=
  x.length ≠ 0 ∧ LengthFits x.length ∧ s.DestFits x ∧ s.SourceFits mode x ∧ LengthFits y.length
    ∧ (y.length ≠ 0 → s.DestFits y ∧ s.SourceFits mode y)

theorem lengthOk_iff (n : Nat) : lengthOk n = true ↔ LengthFits n := by
  rw [lengthOk, Bool.and_eq_true, decide_eq_true_iff, decide_eq_true_iff]
  exact Iff.rfl

theorem State.clearOfGuards_iff (base length : Nat) : s.clearOfGuards base length = true ↔ ∀ j : Fin 8,
    s.windows[j].kind = .guard →
      base + length ≤ s.windows[j].base ∨ s.windows[j].base + s.windows[j].length ≤ base := by
  simp only [State.clearOfGuards, List.all_eq_true, List.mem_finRange, forall_const, Bool.or_eq_true, decide_eq_true_eq,
    or_assoc]
  exact forall_congr' fun j => imp_iff_not_or.symm

theorem State.clearOfImage_iff (base : Nat) : s.clearOfImage base = true ↔
    (s.passage.mode = .shadow → s.passage.guard = true → s.imageRange ≤ base) := by
  rw [State.clearOfImage, Bool.or_eq_true, Bool.not_eq_true', ← Bool.not_eq_true, Bool.and_eq_true, decide_eq_true_eq,
    decide_eq_true_eq, ← and_imp, imp_iff_not_or]

theorem State.destOk_iff : s.destOk x = true ↔ s.DestFits x := by
  simp only [State.destOk, Bool.and_eq_true, decide_eq_true_eq, State.inDram_iff, State.clearOfGuards_iff,
    State.clearOfImage_iff, State.DestFits, and_assoc]

theorem State.sourceOk_iff : s.sourceOk x = true ↔ s.SourceFits .copy x := by
  rw [State.sourceOk, Bool.and_eq_true, Bool.or_eq_true, Bool.and_eq_true, State.inDram_iff, decide_eq_true_iff,
    decide_eq_true_iff, decide_eq_true_iff]
  exact ⟨fun fits _ => fits, fun fits => fits rfl⟩

theorem State.segmentOk_iff : s.segmentOk mode x = true ↔ s.DestFits x ∧ s.SourceFits mode x := by
  rw [State.segmentOk, Bool.and_eq_true, State.destOk_iff, Bool.or_eq_true, decide_eq_true_eq, State.sourceOk_iff]
  cases mode <;> simp [State.SourceFits]

theorem check_bind (b : Bool) {r : Result} {α : Type} (f : Unit → Except Result α) :
    (check b r >>= f) = if b = true then f () else .error r := by
  cases b <;> rfl

theorem State.transferOf_eq (ws : List Word) : s.transferOf mode ws =
    if (segmentAt mode ws 0).length ≠ 0 ∧ lengthOk (segmentAt mode ws 0).length = true
        ∧ s.segmentOk mode (segmentAt mode ws 0) = true ∧ lengthOk (segmentAt mode ws 6).length = true
        ∧ ((segmentAt mode ws 6).length = 0 ∨ s.segmentOk mode (segmentAt mode ws 6) = true)
    then .ok (.transfer { mode := mode, seg1 := segmentAt mode ws 0, seg2 := segmentAt mode ws 6 })
    else .error .refusedParam := by
  simp only [State.transferOf, check_bind, Bool.and_eq_true, Bool.or_eq_true, decide_eq_true_eq, ite_and, pure, Except.pure]

open Classical in
theorem State.transferOf_judged (ws : List Word) : s.transferOf mode ws =
    if s.SegmentsFit mode (segmentAt mode ws 0) (segmentAt mode ws 6)
    then .ok (.transfer { mode := mode, seg1 := segmentAt mode ws 0, seg2 := segmentAt mode ws 6 })
    else .error .refusedParam := by
  rw [State.transferOf_eq]
  refine if_congr ?_ rfl rfl
  rw [State.SegmentsFit, lengthOk_iff, lengthOk_iff, State.segmentOk_iff, State.segmentOk_iff, imp_iff_not_or, not_not,
    and_assoc]

/-! ### The commands -/

/-- The mode of a TRANSFER by the number that its order gives (Table 11-3). -/
def moverModeOf (n : Nat) : MoverMode := if n = 0 then .copy else .fill

theorem moverMode?_of_le {n : Nat} (low : n ≤ 1) : moverMode? n = some (moverModeOf n) := by
  interval_cases n <;> rfl

theorem moverMode?_eq_none {n : Nat} (high : 1 < n) : moverMode? n = none := by
  obtain ⟨m, rfl⟩ := Nat.exists_eq_add_of_le' high
  rfl

theorem State.transfer_refused (bad : 1 < bits (bodyWord h.body 1) 7 0
    ∨ addressPair (bodyWord h.body 2) (bodyWord h.body 3) % 2 = 1
    ∨ s.installed < addressPair (bodyWord h.body 2) (bodyWord h.body 3) + 24) :
    s.transfer h = s.refuseOrder h .refusedParam := by
  by_cases high : 1 < bits (bodyWord h.body 1) 7 0
  · simp only [State.transfer, moverMode?_eq_none high]
  · simp only [State.transfer, moverMode?_of_le (Nat.not_lt.mp high)]
    refine if_pos ((bad.resolve_left high).imp_right fun beyond => ?_)
    rw [Bool.not_eq_true', ← Bool.not_eq_true, State.inDram_iff]
    exact Nat.not_le.mpr beyond

theorem State.transfer_reads (low : bits (bodyWord h.body 1) 7 0 ≤ 1)
    (even : addressPair (bodyWord h.body 2) (bodyWord h.body 3) % 2 = 0)
    (fits : addressPair (bodyWord h.body 2) (bodyWord h.body 3) + 24 ≤ s.installed) : s.transfer h
    = s.withStage h (.reading (addressPair (bodyWord h.body 2) (bodyWord h.body 3)) [] 12) := by
  simp only [State.transfer, moverMode?_of_le low]
  refine if_neg ?_
  rw [Bool.not_eq_true', ← Bool.not_eq_true, State.inDram_iff]
  omega

theorem leads_transfer {u : State} (hs : s.orderInHand kindTransfer = some h) (hu : s.transfer h = u) :
    Leads .transfer s u :=
  leads_of_finish (hu ▸ onOrder_eq hs fun h s => s.transfer h)

section
variable {g k total a : Nat} {ws : List Word}

theorem exec_segmentRecordReadEnd (hh : s.intake.inHand = some h) (hk : h.kind = kindTransfer)
    (hs : h.stage = .reading a ws total) (hg : s.port.grant = some (.intake (.read g k))) :
    exec .segmentRecordReadEnd s = finish (s.freePort.segmentsRead h a (ws ++ s.dramWords g k) total) := by
  have hr : s.recordRead kindTransfer = some (h, a, ws, total, g, k) := hk ▸ State.recordRead_eq hh hs hg
  change execSegmentRecordReadEnd s = _
  simp only [execSegmentRecordReadEnd, hr]

theorem State.segmentsRead_part (more : ws.length < total) :
    s.segmentsRead h a ws total = s.withStage h (.reading a ws total) := if_pos more

theorem State.segmentsRead_whole (low : bits (bodyWord h.body 1) 7 0 ≤ 1) (whole : total ≤ ws.length) :
    s.segmentsRead h a ws total = s.settleQueued h (s.transferOf (moverModeOf (bits (bodyWord h.body 1) 7 0)) ws) := by
  simp only [State.segmentsRead, if_neg (Nat.not_lt.mpr whole), moverMode?_of_le low]

end

/-! ### The start (R135 to R137) -/

/-- The mover at the start of a transfer (R135, R136). -/
def TransferParams.start (p : TransferParams) : Mover := { Mover.reset with params := p }.beginChunk 0

variable {p : TransferParams}

theorem TransferParams.start_eq : p.start = { Mover.reset with
    params := p, state := if p.mode = .copy then .reading else .writing, chunkSize := min 16 (p.seg1.length / 2) } := by
  unfold TransferParams.start Mover.beginChunk
  cases p.mode <;> simp [Mover.reset, Mover.segWords, Mover.seg, Config.burstWords]

/-- The access of the first word of a transfer. -/
def TransferParams.firstAccess (p : TransferParams) : Access :=
  if p.mode = .copy then ⟨p.seg1.source, .readWord⟩ else ⟨p.seg1.dest, .writeWord (wordNat p.seg1.source)⟩

theorem TransferParams.start_access : p.start.access p.start.next = some p.firstAccess := by
  rw [TransferParams.start_eq]
  cases hm : p.mode <;> simp [hm, TransferParams.firstAccess, Mover.access, Mover.work, Mover.wordToWrite, Mover.seg,
    Mover.reset, Mover.sourceAddr, Mover.destAddr]

theorem TransferParams.start_within (some : 1 < p.seg1.length) : p.start.next < p.start.chunkEnd := by
  rw [TransferParams.start_eq]
  simp only [Mover.chunkEnd, Mover.reset]
  omega

/-- The mover at the start of a transfer is at work. -/
theorem TransferParams.start_works : (p.start.state = .reading || p.start.state = .writing) = true := by
  rw [TransferParams.start_eq]
  cases p.mode <;> rfl

/-- The first word of a transfer passing, the mover asks its burst. -/
theorem State.startTransfer_asks {path : Path} (request : s.port.moverReq = none) (grant : s.port.grant = none)
    (words : 1 < p.seg1.length) (passes : s.classify .mover p.firstAccess = .pass path) :
    (s.startTransfer p).settle.mover = p.start ∧ (s.startTransfer p).settle.port.moverReq ≠ none := by
  have free : (s.startTransfer p).moverFree = true := by
    rw [State.moverFree, Bool.and_eq_true, Bool.and_eq_true]
    refine ⟨⟨TransferParams.start_works, ?_⟩, ?_⟩
    · exact Option.isNone_iff_eq_none.mpr request
    · simp only [State.moverGranted, show (s.startTransfer p).port.grant = none from grant, Bool.not_false]
  have asks := State.settleMover_asks (s := s.startTransfer p) free (TransferParams.start_within words)
    TransferParams.start_access (path := path) passes
  obtain ⟨mover, request⟩ := (s.startTransfer p).settle_mover
  rw [mover, request, asks]
  exact ⟨rfl, Option.some_ne_none _⟩

end Sys2Proof.Machine
end

section
/-! TRANSFER and SEGMENT_RECORD_READ_END as commands (R134, R167). -/

namespace Sys2Proof.Machine

open Sys2Proof

variable {s e : State} {h : InHand} {w : Work} {g k total a : Nat} {ws : List Word}

/-- The step after an order in hand entered a queue behind a running order. -/
theorem leads_behind {c : Instr} {v : State} (run : exec c s = finish (v.handOver h w))
    (room : (v.intake.queue w.queue).waiting.length < 4) (busy : v.running w.queue ≠ none) :
    ∃ t, exec c s = .next t ∧ t.intake.dispatch = none
      ∧ (t.intake.queue w.queue).waiting = (v.intake.queue w.queue).waiting ++ [h.order w] := by
  obtain ⟨place, queue⟩ := State.handOver_behind (h := h) room busy
  obtain ⟨t, ht, f⟩ := leads_of_finish run
  exact ⟨t, ht, f.turn.2.trans place, (f.waiting_orders _).trans (congrArg Queue.waiting queue)⟩

/-- What the start of an order leaves of it: it runs, and the dispatch place is empty (R36). -/
theorem State.startOrder_runs {o : Order} {q : QueueId} (own : o.work.queue = q) (place : e.intake.dispatch = none)
    (queue : e.intake.queue q = { running := some o.first, waiting := [] }) :
    (e.startOrder q o).intake.dispatch = none ∧ ((e.startOrder q o).running q).map (·.order) = some o := by
  have beside := State.startOrder_besideEnd (s := e) own
  refine ⟨(Intake.dispatch_of_besideEnd beside).trans place, (Intake.order_of_besideEnd beside).trans ?_⟩
  rw [queue]
  rfl

section
variable (hh : s.intake.inHand = some h) (hk : h.kind = kindTransfer) (hs : h.stage = .reading a ws total)
  (hg : s.port.grant = some (.intake (.read g k))) (low : bits (bodyWord h.body 1) 7 0 ≤ 1)
include hh hk hs hg low

theorem exec_segments_refused (whole : total ≤ (ws ++ s.dramWords g k).length)
    (bad : ¬ s.SegmentsFit (moverModeOf (bits (bodyWord h.body 1) 7 0))
      (segmentAt (moverModeOf (bits (bodyWord h.body 1) 7 0)) (ws ++ s.dramWords g k) 0)
      (segmentAt (moverModeOf (bits (bodyWord h.body 1) 7 0)) (ws ++ s.dramWords g k) 6)) :
    exec .segmentRecordReadEnd s = finish (s.freePort.refuseOrder h .refusedParam) := by
  rw [exec_segmentRecordReadEnd hh hk hs hg, State.segmentsRead_whole low whole, State.transferOf_judged,
    if_neg (by exact bad)]
  rfl

theorem exec_segments_handed (whole : total ≤ (ws ++ s.dramWords g k).length)
    (good : s.SegmentsFit (moverModeOf (bits (bodyWord h.body 1) 7 0))
      (segmentAt (moverModeOf (bits (bodyWord h.body 1) 7 0)) (ws ++ s.dramWords g k) 0)
      (segmentAt (moverModeOf (bits (bodyWord h.body 1) 7 0)) (ws ++ s.dramWords g k) 6)) :
    exec .segmentRecordReadEnd s = finish (s.freePort.handOver h (.transfer
      { mode := moverModeOf (bits (bodyWord h.body 1) 7 0)
        seg1 := segmentAt (moverModeOf (bits (bodyWord h.body 1) 7 0)) (ws ++ s.dramWords g k) 0
        seg2 := segmentAt (moverModeOf (bits (bodyWord h.body 1) 7 0)) (ws ++ s.dramWords g k) 6 })) := by
  rw [exec_segmentRecordReadEnd hh hk hs hg, State.segmentsRead_whole low whole, State.transferOf_judged,
    if_pos (by exact good)]
  rfl

end

/-- A TRANSFER handed to an empty queue starts with nothing moved; its first word passing, it asks a burst. -/
theorem State.handOver_transfer {p : TransferParams} {t : State} (empty : s.intake.mQueue = Queue.empty)
    (grant : s.port.grant = none) (words : 1 < p.seg1.length) (ht : t = (s.handOver h (.transfer p)).settle) :
    t.intake.dispatch = none ∧ t.intake.mQueue.running.map (·.order) = some (h.order (.transfer p))
      ∧ t.mover.account = (p, 0, 0)
      ∧ ∀ path, s.port.moverReq = none → s.classify .mover p.firstAccess = .pass path →
        t.mover = p.start ∧ t.port.moverReq ≠ none := by
  obtain ⟨e, starts, beside, place, queue⟩ := State.handOver_starts (s := s) (h := h) (w := .transfer p)
    (congrArg Queue.running empty) (congrArg Queue.waiting empty)
  obtain ⟨stays, runs⟩ := State.startOrder_runs (o := h.order (.transfer p)) (by rfl) place queue
  have started : e.startOrder (Work.queue (.transfer p)) (h.order (.transfer p)) = e.startTransfer p := rfl
  have port : e.port = s.port := State.port_of_besideFault (e := e.withIntake s.intake) beside
  rw [started] at stays runs starts
  have f : Follows (e.startTransfer p) t := by
    rw [ht, starts]
    exact State.settle_follows _
  rw [starts] at ht
  refine ⟨f.turn.2.trans stays, (f.running_order .mover).trans runs, ?_, fun path request passes => ?_⟩
  · rw [ht, State.settle_account]
    rfl
  · rw [ht]
    refine State.startTransfer_asks (path := path) (port ▸ request) (port ▸ grant) words ?_
    rw [← passes]
    exact State.classify_mover_of_besideFault (j := s.intake) beside _

/-- Settles O46. -/
theorem transfersAreReadAndJudged : Obligations.TransfersAreReadAndJudged := by
  intro s h mode a at'
  refine ⟨fun hs => ⟨fun bad => ?_, fun low even fits => ?_⟩, fun ws total g k hh hk hs hg low => ?_⟩
  · exact leads_transfer hs (State.transfer_refused bad)
  · exact leads_transfer hs (State.transfer_reads low even fits)
  · intro v got m x y dest source long good
    have handed (whole : total ≤ got.length) (fits : good) := exec_segments_handed hh hk hs hg low whole fits
    refine ⟨fun more => ?part, fun whole bad => ?refused, fun whole fits busy room => ?behind,
      fun whole fits empty => ?first, fun whole fits full free => ?full⟩
    case part =>
      exact leads_of_finish ((exec_segmentRecordReadEnd hh hk hs hg).trans (congrArg finish (State.segmentsRead_part more)))
    case refused => exact leads_of_finish (exec_segments_refused hh hk hs hg low whole bad)
    case behind => exact leads_behind (handed whole fits) room busy
    case full => exact leads_of_finish ((handed whole fits).trans (congrArg finish (State.handOver_waits full free)))
    case first =>
      have words : 1 < x.length := by
        obtain ⟨some, ⟨even, -⟩, -⟩ := fits
        omega
      have run := handed whole fits
      obtain ⟨t, ht⟩ : ∃ t, t = (s.freePort.handOver h (.transfer { mode := m, seg1 := x, seg2 := y })).settle := ⟨_, rfl⟩
      obtain ⟨place, runs, account, asks⟩ := State.handOver_transfer (s := s.freePort) empty rfl words ht
      refine ⟨t, run.trans (congrArg Host.Outcome.next ht.symm), place, runs, congrArg Prod.fst account,
        congrArg (·.2.1) account, congrArg (·.2.2) account, fun path request passes => ?_⟩
      have copies : m = .copy ↔ mode = 0 := by
        change (if mode = 0 then MoverMode.copy else .fill) = .copy ↔ _
        split <;> simp_all
      have first : (if mode = 0 then (⟨x.source, .readWord⟩ : Access) else ⟨x.dest, .writeWord (wordNat x.source)⟩)
          = TransferParams.firstAccess { mode := m, seg1 := x, seg2 := y } := (if_congr copies rfl rfl).symm
      obtain ⟨mover, burst⟩ := asks path request (first ▸ passes)
      refine ⟨mover.trans (TransferParams.start_eq.trans ?_), burst⟩
      rw [show (if ({ mode := m, seg1 := x, seg2 := y } : TransferParams).mode = .copy then MoverState.reading else .writing)
        = if mode = 0 then .reading else .writing from if_congr copies rfl rfl]

end Sys2Proof.Machine
end

section
/-! The start of a MOVE, a CAPTURE and an EMIT (R84, R93, R100, R101, R115, R121, R122). -/

namespace Sys2Proof.Machine

open Sys2Proof

variable {s e t : State} {o : Order} {q : QueueId}

/-! ### The outcome of an order that ends -/

theorem State.enterCompletion_outcome {ro : Running} (hr : s.running q = some ro) :
    ((s.enterCompletion q).running q).map (fun y => (y.result, y.figures)) = some (ro.result, ro.figures) := by
  simp only [State.enterCompletion, hr]
  cases q <;> rfl

theorem State.endOrder_outcome {ro : Running} (hr : s.running q = some ro) (block : Block) (r : Result)
    (figures : List Word) :
    ((s.endOrder q block r figures).running q).map (fun y => (y.result, y.figures)) = some (r, figures) := by
  rw [State.endOrder_of_running hr]
  unfold State.offer
  split
  · exact State.enterCompletion_outcome (State.running_withRunning ..)
  · exact congrArg (Option.map _) (State.running_withRunning ..)

/-! ### The state at the start of an order -/

/-- The state in which an order starts that was handed to an empty queue: the order runs in its queue; all else but the
Intake, the processor's access and the pending reports stands (R33, R36). -/
structure Starting (s e : State) (o : Order) : Prop where
  beside : (e.withIntake s.intake).besideFault = s.besideFault
  place : e.intake.dispatch = none
  queue : e.intake.queue o.work.queue = { running := some o.first, waiting := [] }

namespace Starting
variable (at' : Starting s e o)
include at'

theorem running : e.running o.work.queue = some o.first := congrArg Queue.running at'.queue
theorem work : e.activeWork o.work.queue = some o.work := State.activeWork_of at'.running rfl
theorem level (x : Sensor) : e.level x = s.level x := State.level_of_besideFault (e := e.withIntake s.intake) at'.beside x
theorem noticeWaits (b : Fin 4) : e.noticeWaits b = s.noticeWaits b :=
  State.noticeWaits_of_besideFault (e := e.withIntake s.intake) at'.beside b
theorem chan (c : Chan) : e.chan c = s.chan c := State.chan_of_besideFault (e := e.withIntake s.intake) at'.beside c
theorem profiles : e.profiles = s.profiles := State.profiles_of_besideFault (e := e.withIntake s.intake) at'.beside
theorem bands : e.bands = s.bands := State.bands_of_besideFault (e := e.withIntake s.intake) at'.beside
theorem capture : e.capture = s.capture := State.capture_of_besideFault (e := e.withIntake s.intake) at'.beside
theorem emit : e.emit = s.emit := State.emit_of_besideFault (e := e.withIntake s.intake) at'.beside
theorem power : e.power = s.power := State.power_of_besideFault (e := e.withIntake s.intake) at'.beside

/-- What follows the end of an order that ended at its start: the outcome stands, and outside a wake the channels do. -/
theorem ended {v : State} {block : Block} {r : Result} {figures : List Word} (own : o.work.queue = q) (hq : q ≠ .mover)
    (hv : v.intake = e.intake) (power : v.power = e.power) (f : Follows (v.endOrder q block r figures) t) :
    (t.running q).map (fun y => (y.result, y.figures)) = some (r, figures)
      ∧ (s.power.state ≠ .wakeConfirm → t.chanD = v.chanD ∧ t.chanP = v.chanP) := by
  have hr : v.running q = some o.first := by
    unfold State.running
    rw [hv, ← own]
    exact at'.running
  have beside : (v.endOrder q block r figures).besideReports = v.besideReports := State.endOrder_besideReports ..
  refine ⟨?_, fun awake => ?_⟩
  · rw [f.running hq]
    exact State.endOrder_outcome hr ..
  · have stays := f.awake (not_returning_of_state (by
      rw [State.power_of_besideReports beside, power, at'.power]
      exact awake))
    exact ⟨stays.2.1.trans (State.chanD_of_besideReports beside), stays.2.2.1.trans (State.chanP_of_besideReports beside)⟩

end Starting

/-- A channel that does not hold stands through a return to sleep (R76, R152). -/
theorem Channel.Follows.stands {c d : Channel} (f : c.Follows d) (away : c.state ≠ .holding) : d = c := by
  rcases f with rfl | rfl
  · rfl
  · exact if_neg away

theorem Follows.chan_stands {u : State} (f : Follows u t) {c : Chan} (away : (u.chan c).state ≠ .holding) :
    t.chan c = u.chan c := by
  cases c
  · exact f.chanD.stands away
  · exact f.chanP.stands away

/-! ### MOVE -/

/-- The channel at the start of a free move (R84). -/
def Channel.started (x : Channel) (d : Direction) (r interval : Nat) : Channel :=
  { x with
    dir := d, k := 0, r := r, atLevel := 0, made := 0, before := 0, edge := false
    state := .moving, asked := x.runLevel, holdTimer := none, pauseTimer := none, stepTimer := some interval }

theorem Channel.startFree_eq (x : Channel) (p : List Level) (d : Direction) (r : Nat) :
    x.startFree p d r = x.started d r (intervalAt p 0) := rfl

theorem Starting.move {p : MoveParams} (at' : Starting s e o) (work : o.work = .move p)
    (f : Follows (e.startMove p.chan p) t) :
    (s.level .coverClosed = false →
      (t.running (chanQueue p.chan)).map (fun y => (y.result, y.figures))
        = some (.coverOpen, [0, 0, wordNat ((s.chan p.chan).phase.toNat * 256)])
      ∧ (s.power.state ≠ .wakeConfirm → t.chan p.chan = s.chan p.chan))
    ∧ (s.level .coverClosed = true → t.chan p.chan
      = (s.chan p.chan).started p.dir (p.count + (p.edge.map (·.extra)).getD 0) (intervalAt s.profiles[p.profile] 0)) := by
  unfold State.startMove at f
  constructor
  · intro cover
    rw [if_pos (by simp [at'.level, cover])] at f
    obtain ⟨outcome, stays⟩ := at'.ended (by rw [work]; rfl) (by cases p.chan <;> nofun) rfl rfl f
    refine ⟨at'.chan p.chan ▸ outcome, fun awake => ?_⟩
    obtain ⟨d, p'⟩ := stays awake
    rw [← at'.chan]
    cases p.chan
    · exact d
    · exact p'
  · intro cover
    rw [if_neg (by simp [at'.level, cover])] at f
    have chan := f.chan_stands (c := p.chan) (by rw [State.chan_withChan]; nofun)
    rw [chan, State.chan_withChan, at'.chan, at'.profiles]
    cases p.edge <;> rfl

end Sys2Proof.Machine
end

section
/-! The start of a CAPTURE and of an EMIT (R93, R100, R101, R115, R121, R122). -/

namespace Sys2Proof.Machine

open Sys2Proof

variable {s e t : State} {o : Order}

/-! ### CAPTURE -/

section
variable {p : CaptureParams} {r : CaptureRecord}

/-- A capture record in DONE (R105). -/
def CaptureRecord.decided (r : CaptureRecord) (result : Result) : CaptureRecord :=
  { r with phase := .done, stepsInPhase := 0, endPhase := r.phase, result := result }

/-- With both stores EMPTY a decided capture ends its order (R105). -/
theorem State.captureDecide_ends (work : s.activeWork .d = some (.capture p)) (empty : s.capture.storesEmpty = true)
    (result : Result) : s.captureDecide r result
      = (s.withCaptureRecord (r.decided result)).endOrder .d .capture result (r.decided result).figures := by
  have now : (s.withCaptureRecord (r.decided result)).captureNow = some (p, r.decided result) := by
    simp only [State.captureNow, show (s.withCaptureRecord (r.decided result)).activeWork .d = some (.capture p) from work]
    rfl
  have finish : (s.withCaptureRecord (r.decided result)).captureFinish
      = if (r.decided result).phase = .done ∧ s.capture.storesEmpty = true
        then (s.withCaptureRecord (r.decided result)).endOrder .d .capture result (r.decided result).figures
        else s.withCaptureRecord (r.decided result) := by
    simp only [State.captureFinish, now]
    rfl
  exact finish.trans (if_pos ⟨rfl, empty⟩)

theorem CaptureEngine.storesEmpty_of {c : CaptureEngine} (a : c.storeA = .empty) (b : c.storeB = .empty) :
    c.storesEmpty = true := by
  simp [CaptureEngine.storesEmpty, a, b]

theorem State.beginLine_free (a : s.capture.storeA = .empty) (b : s.capture.storeB = .empty) :
    s.beginLine p r = (s.withCapture { s.capture with
      storeA := .clocking s.bands[p.band].claimLine, older := .a, record := some r }).withLines p.band
        s.bands[p.band].claim := by
  have free : s.capture.freeStore = some .a := if_pos a
  have still : s.capture.clocking = none := by simp only [CaptureEngine.clocking, a, b]
  simp only [State.beginLine, free, still]
  rw [show s.capture.store StoreId.a.other = .empty from b, if_pos rfl]
  rfl

/-- The first boundary of a scan that is not limited: it is paced (R102, R122). -/
theorem State.scanBoundary_first (fresh : r.trailing = false) (lines : r.scanLines = 0) (doc : r.docLines = 0)
    (long : p.maxLength ≠ 0) : s.scanBoundary p r = s.paceCapture p r := by
  have limit : r.limitReached p = false := by
    simp only [CaptureRecord.limitReached, lines, Nat.le_zero]
    by_cases h : p.lineLimit = 0 <;> simp [h]
  simp only [State.scanBoundary, fresh, limit, doc, Nat.le_zero, if_neg long, Bool.false_eq_true, if_false]

/-- The record of a capture at its first boundary. -/
def CaptureRecord.scanning : CaptureRecord := { CaptureRecord.start with phase := .scanning }

/-- Channel D at the first boundary of a capture (R121). -/
def Channel.atBoundary (x : Channel) (p : CaptureParams) : Channel :=
  { x.started .forward 0 0 with paced := some (p.band, .capture) }

end

/-- The supply that the first boundary of a capture counts (R122, R128). -/
def State.firstSupply (s : State) (b : Fin 4) : Nat :=
  if s.noticeWaits b = true then 0 else s.bands[b].lines - s.bands[b].c - s.bands[b].filling

namespace Starting
variable {p : CaptureParams} (at' : Starting s e o)
include at'

theorem capture_ends {r : Result} (work : o.work = .capture p) (a : s.capture.storeA = .empty)
    (b : s.capture.storeB = .empty) (f : Follows (e.captureDecide .start r) t) :
    (t.running .d).map (fun y => (y.result, y.figures)) = some (r, [0, 0, 0, 0])
      ∧ (s.power.state ≠ .wakeConfirm → t.chanD = s.chanD) := by
  have own : o.work.queue = .d := by rw [work]; rfl
  have active : e.activeWork .d = some (.capture p) := by rw [← own, at'.work, work]
  have empty : e.capture.storesEmpty = true := at'.capture ▸ CaptureEngine.storesEmpty_of a b
  rw [State.captureDecide_ends active empty] at f
  obtain ⟨outcome, stays⟩ := at'.ended (v := e.withCaptureRecord _) own nofun rfl rfl f
  exact ⟨outcome, fun awake => (stays awake).1.trans (at'.chan .d)⟩

theorem capture_uncovered (cover : s.level .coverClosed = false) :
    e.startCapture p = e.captureDecide .start .coverOpen := if_pos (by simp [at'.level, cover])

section
variable (cover : s.level .coverClosed = true)
include cover

theorem capture_docOut (doc : s.level .docPresent = false) : e.startCapture p = e.captureDecide .start .docOut :=
  (if_neg (by simp [at'.level, cover])).trans (if_pos (by simp [at'.level, doc]))

variable (doc : s.level .docPresent = true)
include doc

/-- With cover and document, a CAPTURE enters APPROACH or, its document at the line, SKIP (R100, R101). -/
theorem capture_enters : e.startCapture p =
    if s.level .docAtLine = true
    then ((e.withChanD (s.chanD.started .forward 0 (intervalAt s.profiles[p.profile] 0))).withCaptureRecord
      { CaptureRecord.start with phase := .approach }).enterSkip p { CaptureRecord.start with phase := .approach }
    else (e.withChanD (s.chanD.started .forward 0 (intervalAt s.profiles[p.profile] 0))).withCaptureRecord
      { CaptureRecord.start with phase := .approach } := by
  unfold State.startCapture
  rw [if_neg (by simp [at'.level, cover]), if_neg (by simp [at'.level, doc])]
  simp only [at'.level, at'.profiles, show e.chanD = s.chanD from at'.chan .d, Channel.startFree_eq]

theorem capture_approaches (line : s.level .docAtLine = false) (f : Follows (e.startCapture p) t) :
    t.capture.record = some { CaptureRecord.start with phase := .approach }
      ∧ t.chanD = s.chanD.started .forward 0 (intervalAt s.profiles[p.profile] 0) := by
  rw [at'.capture_enters cover doc, if_neg (by simp [line])] at f
  exact ⟨congrArg CaptureEngine.record f.capture, f.chanD.stands nofun⟩

variable (line : s.level .docAtLine = true)
include line

theorem capture_skips (skip : p.skipLines ≠ 0) (f : Follows (e.startCapture p) t) :
    t.capture.record = some { CaptureRecord.start with phase := .skip }
      ∧ t.chanD = s.chanD.started .forward (p.skipLines * p.stepsPerLine) (intervalAt s.profiles[p.profile] 0) := by
  rw [at'.capture_enters cover doc, if_pos line, State.enterSkip, if_neg skip] at f
  exact ⟨congrArg CaptureEngine.record f.capture, f.chanD.stands nofun⟩

/-- With no lines to skip the capture is at its first boundary (R101, R121). -/
theorem capture_paced (skip : p.skipLines = 0) (long : p.maxLength ≠ 0) : ∃ v : State,
    e.startCapture p = v.paceCapture p .scanning ∧ v.chanD = { s.chanD.atBoundary p with
        stepTimer := some (intervalAt s.profiles[p.profile] 0) }
      ∧ v.bands = s.bands ∧ v.profiles = s.profiles ∧ v.captureCount p.band = s.firstSupply p.band
      ∧ v.capture.storeA = s.capture.storeA ∧ v.capture.storeB = s.capture.storeB := by
  let v := ((e.withChanD (s.chanD.started .forward 0 (intervalAt s.profiles[p.profile] 0))).withCaptureRecord
    { CaptureRecord.start with phase := .approach }).withChanD { s.chanD.atBoundary p with
        stepTimer := some (intervalAt s.profiles[p.profile] 0) }
  have start : e.startCapture p = v.scanBoundary p .scanning := by
    rw [at'.capture_enters cover doc, if_pos line, State.enterSkip, if_pos skip]
    rfl
  refine ⟨v, start.trans (State.scanBoundary_first rfl rfl rfl long), rfl, at'.bands, at'.profiles, ?_,
    (congrArg CaptureEngine.storeA at'.capture :), (congrArg CaptureEngine.storeB at'.capture :)⟩
  have notice : v.noticeWaits p.band = s.noticeWaits p.band := at'.noticeWaits p.band
  have bands : v.bands = s.bands := at'.bands
  rw [State.captureCount, State.firstSupply, notice, bands]
  rfl

theorem capture_pauses (skip : p.skipLines = 0) (long : p.maxLength ≠ 0) (supply : s.firstSupply p.band = 0)
    (f : Follows (e.startCapture p) t) : t.capture.record = some .scanning
      ∧ t.chanD = { s.chanD.atBoundary p with
        state := .paused, asked := (s.chanD.atBoundary p).holdLevel, stepTimer := none
        pauseTimer := if p.pauseLimit = 0 then none else some p.pauseLimit } := by
  obtain ⟨v, start, chan, -, -, count, -⟩ := at'.capture_paced cover doc line skip long
  rw [start, State.paceCapture, if_pos (count.trans supply), chan] at f
  exact ⟨congrArg CaptureEngine.record f.capture, f.chanD.stands nofun⟩

theorem capture_proceeds (skip : p.skipLines = 0) (long : p.maxLength ≠ 0) (supply : s.firstSupply p.band ≠ 0)
    (a : s.capture.storeA = .empty) (b : s.capture.storeB = .empty) {level : Nat}
    (hl : level = min (min 1 (topLevel s.profiles[p.profile])) (s.firstSupply p.band - 1))
    (f : Follows (e.startCapture p) t) :
    t.chanD = { s.chanD.atBoundary p with k := level, stepTimer := some (intervalAt s.profiles[p.profile] level) }
      ∧ t.bands = s.bands.set p.band s.bands[p.band].claim ∧ t.capture.storeA = .clocking s.bands[p.band].claimLine
      ∧ t.capture.record = some { CaptureRecord.start with phase := .scanning, scanLines := 1 } := by
  obtain ⟨v, start, chan, bands, profiles, count, storeA, storeB⟩ := at'.capture_paced cover doc line skip long
  have paced : pacedLevel v.chanD.k (topLevel v.profiles[p.profile]) (v.captureCount p.band) = level := by
    rw [chan, profiles, count, hl]
    rfl
  rw [start, State.paceCapture, if_neg (by rw [count]; exact supply), paced, State.captureProceed, chan, profiles,
    State.beginLine_free (by exact storeA.trans a) (by exact storeB.trans b)] at f
  refine ⟨f.chanD.stands nofun, f.bands.trans ?_, (congrArg CaptureEngine.storeA f.capture).trans ?_,
    congrArg CaptureEngine.record f.capture⟩
  · rw [← bands]
    rfl
  · rw [← bands]
    rfl

end
end Starting

end Sys2Proof.Machine
end

section
/-! The start of an EMIT (R93, R115, R121, R122), and MOVE, CAPTURE and EMIT as commands (R33, R36). -/

namespace Sys2Proof.Machine

open Sys2Proof

variable {s e t : State} {o : Order}

/-! ### EMIT -/

/-- The record of an emit at its first boundary. -/
def EmitRecord.first : EmitRecord := { EmitRecord.start with phase := .printing }

/-- Channel P at the first boundary of an emit (R115, R121). -/
def Channel.atPrint (x : Channel) (p : EmitParams) : Channel :=
  { x with holdTimer := none, stepTimer := none, dir := .forward, paced := some (p.band, .emit) }

/-- The first boundary of an emit with lines to print, or that may yet have them (R115, R122). -/
theorem State.printBoundary_first {p : EmitParams}
    (opens : s.bands[p.band].c ≠ 0 ∨ p.lineCount ≠ 0 ∨ s.bands[p.band].role = .emit) : s.printBoundary p .first =
    if s.bands[p.band].c = 0 then (s.withChanP (s.chanP.enterPaused p.pauseLimit)).withEmitRecord .first
    else s.emitProceed .first (pacedLevel s.chanP.k (topLevel s.profiles[p.profile]) s.bands[p.band].c) := by
  have counting : ¬ (p.lineCount ≠ 0 ∧ p.lineCount ≤ EmitRecord.first.printed) := fun h => h.1 (Nat.le_zero.mp h.2)
  have going : ¬ (p.lineCount = 0 ∧ s.openEnds p .first = true) := by
    rintro ⟨count, ends⟩
    rw [State.openEnds, Bool.and_eq_true, decide_eq_true_eq] at ends
    have role := (opens.resolve_left (not_not.mpr ends.1)).resolve_left (not_not.mpr count)
    simp only [role] at ends
    exact absurd ends.2 nofun
  rw [State.printBoundary, if_neg nofun, if_neg counting, if_neg going]
  rfl

namespace Starting
variable {p : EmitParams} (at' : Starting s e o)
include at'

theorem emit_ends {r : Result} {reason : EndReason} (work : o.work = .emit p)
    (f : Follows (e.emitDecide .start r reason) t) :
    (t.running .p).map (fun y => (y.result, y.figures)) = some (r, [0, wordNat reason.code])
      ∧ (s.power.state ≠ .wakeConfirm → t.chanP = s.chanP) := by
  obtain ⟨outcome, stays⟩ := at'.ended (q := .p) (v := e.withEmitRecord _) (by rw [work]; rfl) nofun rfl rfl f
  exact ⟨outcome, fun awake => (stays awake).2.trans (at'.chan .p)⟩

theorem emit_uncovered (cover : s.level .coverClosed = false) :
    e.startEmit p = e.emitDecide .start .coverOpen .cover := if_pos (by simp [at'.level, cover])

variable (cover : s.level .coverClosed = true)
include cover

theorem emit_paperOut (paper : s.level .paperPresent = false) :
    e.startEmit p = e.emitDecide .start .paperOut .paperOut :=
  (if_neg (by simp [at'.level, cover])).trans (if_pos (by simp [at'.level, paper]))

variable (paper : s.level .paperPresent = true)
include paper

/-- With cover and paper an EMIT is at its first boundary. -/
theorem emit_prints : ∃ v : State, e.startEmit p = v.printBoundary p .first
    ∧ v.chanP = { s.chanP with holdTimer := none, dir := .forward, k := 0, paced := some (p.band, .emit) }
    ∧ v.bands = s.bands ∧ v.profiles = s.profiles ∧ v.emit = s.emit := by
  refine ⟨e.withChanP { e.chanP with holdTimer := none, dir := .forward, k := 0, paced := some (p.band, .emit) }, ?_, ?_,
    at'.bands, at'.profiles, at'.emit⟩
  · unfold State.startEmit
    rw [if_neg (by simp [at'.level, cover]), if_neg (by simp [at'.level, paper])]
    rfl
  · rw [show e.chanP = s.chanP from at'.chan .p]
    rfl

theorem emit_pauses (empty : s.bands[p.band].c = 0) (opens : p.lineCount ≠ 0 ∨ s.bands[p.band].role = .emit)
    (f : Follows (e.startEmit p) t) : t.emit.record = some .first ∧ t.chanP = { s.chanP.atPrint p with
      k := 0, state := .paused, asked := (s.chanP.atPrint p).holdLevel
      pauseTimer := if p.pauseLimit = 0 then none else some p.pauseLimit } := by
  obtain ⟨v, start, chan, bands, -, -⟩ := at'.emit_prints (p := p) cover paper
  rw [start, State.printBoundary_first (.inr (bands ▸ opens)), if_pos (bands ▸ empty), chan] at f
  exact ⟨congrArg EmitEngine.record f.emit, f.chanP.stands nofun⟩

theorem emit_proceeds (lines : s.bands[p.band].c ≠ 0) (shifted : s.emit.shifted = none)
    (f : Follows (e.startEmit p) t) : t.emit.record = some .first ∧ t.chanP = { s.chanP.atPrint p with
      k := min (min 1 (topLevel s.profiles[p.profile])) (s.bands[p.band].c - 1)
      state := .boundaryWait, asked := (s.chanP.atPrint p).runLevel, pauseTimer := none } := by
  obtain ⟨v, start, chan, bands, profiles, emit⟩ := at'.emit_prints (p := p) cover paper
  have waits (c : Channel) (r : EmitRecord) :
      ((v.withChanP c).withEmitRecord r).tryLatch = (v.withChanP c).withEmitRecord r := by
    have none : ((v.withChanP c).withEmitRecord r).emit.shifted = none :=
      (congrArg EmitEngine.shifted emit :).trans shifted
    unfold State.tryLatch
    rw [none]
    split <;> first
      | rfl
      | contradiction
  rw [start, State.printBoundary_first (.inl (bands ▸ lines)), if_neg (bands ▸ lines), State.emitProceed,
    waits, chan, bands, profiles] at f
  exact ⟨congrArg EmitEngine.record f.emit, f.chanP.stands nofun⟩

end Starting

end Sys2Proof.Machine
end

section
/-! MOVE, CAPTURE and EMIT as commands (R33, R36, R83, R98, R113). -/

namespace Sys2Proof.Machine

open Sys2Proof

variable {s : State} {h : InHand} {body : List Word} {c : Instr} {k : Byte} {x : Except Result Work} {w : Work}

/-! ### A refused order -/

theorem need_bind_eq_error {α β : Type} {x : Option α} {r e : Result} {f : α → Except Result β} :
    (need x r >>= f) = .error e ↔ x = none ∧ e = r ∨ ∃ v, x = some v ∧ f v = .error e := by
  cases x with
  | none =>
    constructor
    · intro eq
      exact .inl ⟨rfl, (Except.error.inj eq).symm⟩
    · rintro (⟨-, rfl⟩ | ⟨v, hv, -⟩)
      · rfl
      · cases hv
  | some v =>
    constructor
    · exact fun eq => .inr ⟨v, rfl, eq⟩
    · rintro (⟨hv, -⟩ | ⟨u, hu, eq⟩)
      · cases hv
      · exact Option.some.inj hu ▸ eq

/-- An order whose checks all refuse with REFUSED_PARAM. -/
def RefusesParam (x : Except Result Work) : Prop := ∀ r, x = .error r → r = .refusedParam

theorem refusesParam_ok (w : Work) : RefusesParam (.ok w) := nofun

theorem refusesParam_need {α : Type} {y : Option α} {f : α → Except Result Work} (hf : ∀ v, RefusesParam (f v)) :
    RefusesParam (need y .refusedParam >>= f) := by
  intro r he
  rcases need_bind_eq_error.mp he with ⟨-, rfl⟩ | ⟨v, -, hv⟩
  · rfl
  · exact hf v r hv

theorem refusesParam_check {b : Bool} {f : Unit → Except Result Work} (hf : RefusesParam (f ())) :
    RefusesParam (check b .refusedParam >>= f) := by
  intro r he
  rw [check_bind] at he
  split at he
  · exact hf r he
  · exact (Except.error.inj he).symm

theorem State.moveOf_refuses : RefusesParam (s.moveOf body) :=
  refusesParam_need fun _ => refusesParam_need fun _ => refusesParam_need fun _ => refusesParam_check <|
    refusesParam_need fun _ => refusesParam_ok _

theorem State.captureOf_refuses : RefusesParam (s.captureOf body) :=
  refusesParam_need fun _ => refusesParam_check <| refusesParam_need fun _ => refusesParam_check <| refusesParam_check <|
    refusesParam_check <| refusesParam_check <| refusesParam_ok _

theorem State.emitOf_refuses : RefusesParam (s.emitOf body) :=
  refusesParam_need fun _ => refusesParam_check <| refusesParam_need fun _ => refusesParam_check <| refusesParam_check <|
    refusesParam_check <| refusesParam_ok _

/-! ### The command -/

/-- A MOVE, CAPTURE or EMIT with the outcome of its checks (R83, R98, R113). -/
def State.QueuedBy (s : State) (h : InHand) (c : Instr) (k : Byte) (x : Except Result Work) : Prop :=
  c = .move ∧ k = kindMove ∧ x = s.moveOf h.body ∨ c = .capture ∧ k = kindCapture ∧ x = s.captureOf h.body
    ∨ c = .emit ∧ k = kindEmit ∧ x = s.emitOf h.body

namespace State.QueuedBy
variable (by' : s.QueuedBy h c k x)
include by'

theorem run (hs : s.orderInHand k = some h) : exec c s = finish (s.settleQueued h x) := by
  obtain ⟨rfl, rfl, rfl⟩ | ⟨rfl, rfl, rfl⟩ | ⟨rfl, rfl, rfl⟩ := by'
  · exact onOrder_eq hs fun h s => s.settleQueued h (s.moveOf h.body)
  · exact onOrder_eq hs fun h s => s.settleQueued h (s.captureOf h.body)
  · exact onOrder_eq hs fun h s => s.settleQueued h (s.emitOf h.body)

theorem refuses : RefusesParam x := by
  obtain ⟨-, -, rfl⟩ | ⟨-, -, rfl⟩ | ⟨-, -, rfl⟩ := by'
  · exact State.moveOf_refuses
  · exact State.captureOf_refuses
  · exact State.emitOf_refuses

theorem maxLength {p : CaptureParams} (hx : x = .ok (.capture p)) : p.maxLength ≠ 0 := by
  obtain ⟨-, -, rfl⟩ | ⟨-, -, rfl⟩ | ⟨-, -, rfl⟩ := by'
  · obtain ⟨_, _, _, _, -, -, -, -, -, made⟩ := moveOf_eq_ok.mp hx
    cases made
  · obtain ⟨_, _, -, -, -, -, -, -, long, made⟩ := captureOf_eq_ok.mp hx
    cases made
    exact long
  · obtain ⟨_, _, -, -, -, -, -, -, made⟩ := emitOf_eq_ok.mp hx
    cases made

end State.QueuedBy

/-- The step after an order in hand came to the head of an empty queue. -/
theorem leads_starting (run : exec c s = finish (s.handOver h w)) (free : s.running w.queue = none)
    (empty : (s.intake.queue w.queue).waiting = []) :
    ∃ e t, Starting s e (h.order w) ∧ exec c s = .next t ∧ Follows (e.startOrder w.queue (h.order w)) t := by
  obtain ⟨e, starts, beside, place, queue⟩ := State.handOver_starts (h := h) free empty
  rw [starts] at run
  obtain ⟨t, ht, f⟩ := leads_of_finish run
  exact ⟨e, t, ⟨beside, place, queue⟩, ht, f⟩

/-- Settles O44. -/
theorem queuedOrdersAreHandedOrRefused : Obligations.QueuedOrdersAreHandedOrRefused := by
  intro s h c k x judged hs
  have by' : s.QueuedBy h c k x := judged
  have run := by'.run hs
  refine ⟨fun r hx => ?refused, fun w hx => ?handed⟩
  case refused =>
    obtain rfl := by'.refuses r hx
    rw [hx] at run
    exact ⟨rfl, leads_of_finish run⟩
  case handed =>
    rw [hx] at run
    have handed : exec c s = finish (s.handOver h w) := run
    refine ⟨fun full free => ?full, fun _ free empty => ?runs, fun room busy => leads_behind handed room busy,
      fun free empty => ?starts⟩
    case full => exact leads_of_finish (handed.trans (congrArg finish (State.handOver_waits full free)))
    case runs =>
      obtain ⟨e, t, at', ht, f⟩ := leads_starting handed free empty
      obtain ⟨place, runs⟩ := State.startOrder_runs (o := h.order w) rfl at'.place at'.queue
      exact ⟨t, ht, f.turn.2.trans place, (f.running_order _).trans runs⟩
    case starts =>
      obtain ⟨e, t, at', ht, f⟩ := leads_starting handed free empty
      refine ⟨t, ht, fun p hw => ?move, fun p hw a b => ?capture, fun p hw shifted => ?emit⟩
      case move =>
        subst hw
        exact at'.move rfl f
      case capture =>
        subst hw
        have f : Follows (e.startCapture p) t := f
        have long := by'.maxLength hx
        refine ⟨fun cover => ?_, fun cover doc => ?_, fun cover doc line => at'.capture_approaches cover doc line f,
          fun cover doc line skip => at'.capture_skips cover doc line skip f, fun cover doc line skip => ⟨fun supply =>
            at'.capture_pauses cover doc line skip long supply f, fun supply =>
            at'.capture_proceeds cover doc line skip long supply a b rfl f⟩⟩
        · exact at'.capture_ends rfl a b (at'.capture_uncovered cover ▸ f)
        · exact at'.capture_ends rfl a b (at'.capture_docOut cover doc ▸ f)
      case emit =>
        subst hw
        have f : Follows (e.startEmit p) t := f
        refine ⟨fun cover => ?_, fun cover paper => ?_, fun cover paper => ⟨fun lines opens =>
          at'.emit_pauses cover paper lines opens f, fun lines => at'.emit_proceeds cover paper lines shifted f⟩⟩
        · exact at'.emit_ends rfl (at'.emit_uncovered cover ▸ f)
        · exact at'.emit_ends rfl (at'.emit_paperOut cover paper ▸ f)

end Sys2Proof.Machine
end

section
/-! The start of an order beside its own engine: the mover stands, and pending reports stay (R36, R45). The orders that run
and wait after an ended order left its queue (R33, R36, R37). -/

namespace Sys2Proof.Machine

open Sys2Proof

variable {s t u : State} {o : Order} {q : QueueId}

/-! ### The mover and the pending reports -/

/-- What the engines of the channels leave: the mover stands, and no pending report is lost. -/
structure EngineLeaves (s t : State) : Prop where
  mover : t.mover = s.mover
  pending : s.reports.pending <+: t.reports.pending

namespace EngineLeaves

theorem refl (s : State) : EngineLeaves s s := ⟨rfl, List.prefix_refl _⟩

theorem trans (h : EngineLeaves s t) (k : EngineLeaves t u) : EngineLeaves s u :=
  ⟨k.mover.trans h.mover, h.pending.trans k.pending⟩

/-- An operation that writes neither. -/
theorem of_same (mover : t.mover = s.mover) (reports : t.reports = s.reports) : EngineLeaves s t :=
  ⟨mover, reports ▸ List.prefix_refl _⟩

/-- An operation after one that writes neither. -/
theorem after (h : EngineLeaves t u) (mover : t.mover = s.mover) (reports : t.reports = s.reports) : EngineLeaves s u :=
  (of_same mover reports).trans h

theorem enter (r : Report) : EngineLeaves s (s.enter r) :=
  ⟨State.mover_of_besideReports (State.enter_besideReports r), State.enter_pending r⟩

theorem enterCompletion (q : QueueId) : EngineLeaves s (s.enterCompletion q) := by
  unfold State.enterCompletion
  split
  · exact refl s
  · exact (enter _).trans (of_same rfl rfl)

theorem offer (block : Block) (q : QueueId) : EngineLeaves s (s.offer block (.completion q)) := by
  unfold State.offer
  split
  · exact enterCompletion q
  · exact ⟨rfl, List.prefix_refl _⟩

theorem endOrder (q : QueueId) (block : Block) (r : Result) (figures : List Word) :
    EngineLeaves s (s.endOrder q block r figures) := by
  unfold State.endOrder
  split
  · exact refl s
  · exact (offer block q).after rfl rfl

theorem withChan (c : Chan) (x : Channel) : EngineLeaves s (s.withChan c x) := by
  cases c <;> exact of_same rfl rfl

theorem startMove (c : Chan) (p : MoveParams) : EngineLeaves s (s.startMove c p) := by
  unfold State.startMove
  split
  · exact endOrder ..
  · exact withChan ..

theorem captureFinish : EngineLeaves s s.captureFinish := by
  unfold State.captureFinish
  (repeat' split) <;> first
    | exact endOrder ..
    | exact refl s

theorem captureDecide (r : CaptureRecord) (result : Result) : EngineLeaves s (s.captureDecide r result) := by
  unfold State.captureDecide
  exact captureFinish.after rfl rfl

theorem captureStop (r : CaptureRecord) (result : Result) : EngineLeaves s (s.captureStop r result) := by
  unfold State.captureStop
  exact (captureDecide ..).after rfl rfl

theorem beginLine (p : CaptureParams) (r : CaptureRecord) : EngineLeaves s (s.beginLine p r) := by
  unfold State.beginLine
  split <;> exact of_same rfl rfl

theorem captureProceed (p : CaptureParams) (r : CaptureRecord) (level : Nat) :
    EngineLeaves s (s.captureProceed p r level) := by
  unfold State.captureProceed
  exact (beginLine ..).after rfl rfl

theorem paceCapture (p : CaptureParams) (r : CaptureRecord) : EngineLeaves s (s.paceCapture p r) := by
  unfold State.paceCapture
  split
  · exact of_same rfl rfl
  · exact captureProceed ..

theorem enterEject (p : CaptureParams) (r : CaptureRecord) : EngineLeaves s (s.enterEject p r) := by
  unfold State.enterEject
  split
  · exact (captureDecide ..).after rfl rfl
  · exact of_same rfl rfl

theorem tailBoundary (p : CaptureParams) (r : CaptureRecord) : EngineLeaves s (s.tailBoundary p r) := by
  unfold State.tailBoundary
  (repeat' split)
  · exact enterEject ..
  · exact enterEject ..
  · exact paceCapture ..

theorem scanBoundary (p : CaptureParams) (r : CaptureRecord) : EngineLeaves s (s.scanBoundary p r) := by
  unfold State.scanBoundary
  (repeat' split)
  · exact tailBoundary ..
  · exact enterEject ..
  · exact captureStop ..
  · exact paceCapture ..

theorem enterPaced (p : CaptureParams) (r : CaptureRecord) : EngineLeaves s (s.enterPaced p r) := by
  unfold State.enterPaced
  exact (scanBoundary ..).after rfl rfl

theorem enterSkip (p : CaptureParams) (r : CaptureRecord) : EngineLeaves s (s.enterSkip p r) := by
  unfold State.enterSkip
  dsimp only
  split
  · exact enterPaced ..
  · exact of_same rfl rfl

theorem startCapture (p : CaptureParams) : EngineLeaves s (s.startCapture p) := by
  unfold State.startCapture
  dsimp only
  (repeat' split)
  · exact captureDecide ..
  · exact captureDecide ..
  · exact (enterSkip ..).after rfl rfl
  · exact of_same rfl rfl

theorem emitDecide (r : EmitRecord) (result : Result) (reason : EndReason) :
    EngineLeaves s (s.emitDecide r result reason) := by
  unfold State.emitDecide
  exact (endOrder ..).after rfl rfl

theorem emitStop (p : EmitParams) (r : EmitRecord) (result : Result) (reason : EndReason) :
    EngineLeaves s (s.emitStop p r result reason) := by
  have decided := emitDecide (s := (s.revertLines p.band).withChanP (s.revertLines p.band).chanP.hardStop) r result reason
  exact decided.after (by simp [State.revertLines]) (by simp [State.revertLines])

theorem enterTail (p : EmitParams) (r : EmitRecord) : EngineLeaves s (s.enterTail p r) := by
  unfold State.enterTail
  dsimp only
  (repeat' split)
  · exact (emitDecide (s := s.withChanP s.chanP.enterHolding) r .ok (s.okReason p)).after rfl rfl
  · exact of_same rfl rfl
  · exact of_same rfl rfl

theorem tryLatch : EngineLeaves s s.tryLatch := by
  unfold State.tryLatch
  split
  · exact of_same rfl rfl
  · exact refl s

theorem printBoundary (p : EmitParams) (r : EmitRecord) : EngineLeaves s (s.printBoundary p r) := by
  unfold State.printBoundary
  (repeat' split)
  · exact emitStop ..
  · exact enterTail ..
  · exact enterTail ..
  · exact of_same rfl rfl
  · exact tryLatch.after rfl rfl

theorem startEmit (p : EmitParams) : EngineLeaves s (s.startEmit p) := by
  unfold State.startEmit
  (repeat' split)
  · exact emitDecide ..
  · exact emitDecide ..
  · exact (printBoundary ..).after rfl rfl

theorem testOpenEnd : EngineLeaves s s.testOpenEnd := by
  unfold State.testOpenEnd
  (repeat' split)
  · exact enterTail ..
  · exact refl s
  · exact refl s

end EngineLeaves

/-- The start of an order loses no pending report. -/
theorem State.startOrder_pending : s.reports.pending <+: (s.startOrder q o).reports.pending := by
  unfold State.startOrder
  split
  · exact (EngineLeaves.endOrder ..).pending
  · cases o.work with
    | move p => exact (EngineLeaves.startMove ..).pending
    | capture p => exact (EngineLeaves.startCapture p).pending
    | emit p => exact (EngineLeaves.startEmit p).pending
    | transfer p => exact List.prefix_refl _

/-- An order of another queue, and a marked one, leaves the mover as it starts. -/
theorem State.startOrder_mover (h : o.marked = true ∨ o.work.queue ≠ .mover) : (s.startOrder q o).mover = s.mover := by
  unfold State.startOrder
  split
  · exact (EngineLeaves.endOrder ..).mover
  · next unmarked =>
    have away := h.resolve_left unmarked
    cases hw : o.work with
    | move p => exact (EngineLeaves.startMove ..).mover
    | capture p => exact (EngineLeaves.startCapture p).mover
    | emit p => exact (EngineLeaves.startEmit p).mover
    | transfer p => exact absurd (by rw [hw]; rfl) away

/-! ### The orders in the queues -/

/-- The order that runs in a queue and the orders that wait there. -/
def State.orders (s : State) (q : QueueId) : Option Order × List Order :=
  ((s.running q).map (·.order), (s.intake.queue q).waiting)

theorem State.orders_of_besideEnd (h : t.besideEnd q = s.besideEnd q) (r : QueueId) : t.orders r = s.orders r := by
  by_cases same : r = q
  · subst same
    exact Prod.ext (Intake.order_of_besideEnd h) (Intake.waiting_of_besideEnd h)
  · have queue : t.intake.queue r = s.intake.queue r := Intake.queue_of_besideEnd h same
    exact congrArg (fun x : Queue => (x.running.map (·.order), x.waiting)) queue

/-- The start of an order leaves all of the Intake but the outcome in one queue. -/
theorem State.startOrder_besideOne (q : QueueId) (o : Order) :
    ∃ r, (s.startOrder q o).besideEnd r = s.besideEnd r := by
  by_cases marked : o.marked = true
  · refine ⟨q, ?_⟩
    rw [State.startOrder, if_pos marked]
    exact State.endOrder_besideEnd ..
  · refine ⟨o.work.queue, ?_⟩
    have same : s.startOrder q o = s.startOrder o.work.queue o := by
      rw [State.startOrder, State.startOrder, if_neg marked, if_neg marked]
    rw [same]
    exact State.startOrder_besideEnd rfl

theorem State.startOrder_orders (r : QueueId) : (s.startOrder q o).orders r = s.orders r := by
  obtain ⟨x, h⟩ := s.startOrder_besideOne q o
  exact State.orders_of_besideEnd h r

theorem State.testOpenEnd_orders (r : QueueId) : s.testOpenEnd.orders r = s.orders r :=
  State.orders_of_besideEnd State.testOpenEnd_besideEnd r

theorem State.running_eq_none_iff : s.running q = none ↔ (s.orders q).1 = none := by
  simp [State.orders]

theorem State.orders_withQueue_same (x : Queue) : (s.withQueue q x).orders q = (x.running.map (·.order), x.waiting) := by
  cases q <;> rfl

theorem State.orders_withQueue_other (x : Queue) {r : QueueId} (h : r ≠ q) : (s.withQueue q x).orders r = s.orders r := by
  cases q <;> cases r <;> first
    | exact absurd rfl h
    | rfl

/-- A queue that has a running order keeps it, and its waiting orders, as another starts. -/
theorem State.startNext_orders (r : QueueId) (busy : s.running r ≠ none) : (s.startNext q).orders r = s.orders r := by
  unfold State.startNext
  split
  · next free _ =>
    rw [State.startOrder_orders]
    exact State.orders_withQueue_other _ fun e => busy (e ▸ free)
  · rfl

/-- A queue that has a running order keeps it as the order in the dispatch place enters; the orders that wait stay. -/
theorem State.dispatch_orders (r : QueueId) (busy : s.running r ≠ none) :
    (s.dispatch.orders r).1 = (s.orders r).1 ∧ (s.orders r).2 <+: (s.dispatch.orders r).2 := by
  cases place : s.intake.dispatch with
  | none =>
    rw [State.dispatch_empty place]
    exact ⟨rfl, List.prefix_refl _⟩
  | some x =>
    by_cases room : (s.intake.queue x.work.queue).waiting.length < 4
    · rw [State.dispatch_room place room]
      have queue : (s.withIntake (s.intake.placed x)).orders r
          = if r = x.work.queue then ((s.orders r).1, (s.orders r).2 ++ [x]) else s.orders r := by
        split
        · next same =>
          subst same
          exact congrArg (fun y : Queue => (y.running.map (·.order), y.waiting)) (Intake.placed_queue _)
        · next other =>
          have stays : (s.intake.placed x).queue r = s.intake.queue r := by
            rw [Intake.placed, Intake.toWaiting_queue, Intake.advanceN_queue]
            revert other
            cases x.work.queue <;> cases r <;> intro other <;> first
              | exact absurd rfl other
              | rfl
          exact congrArg (fun y : Queue => (y.running.map (·.order), y.waiting)) stays
      have still : (s.withIntake (s.intake.placed x)).running r ≠ none := by
        rw [ne_eq, State.running_eq_none_iff] at busy ⊢
        rw [queue]
        split <;> exact busy
      rw [State.startNext_orders r still, queue]
      split
      · exact ⟨rfl, List.prefix_append ..⟩
      · exact ⟨rfl, List.prefix_refl _⟩
    · rw [State.dispatch_full place (Nat.not_lt.mp room)]
      exact ⟨rfl, List.prefix_refl _⟩

end Sys2Proof.Machine
end

section
/-! FINAL_WRITE_END for the order in hand and for a SLEEP slot (R31, R32, R37, R38): the slot is FREE, N moves on, and a
processor access held on the slot is judged again (R16). -/

namespace Sys2Proof.Machine

open Sys2Proof

variable {s v : State} {h : InHand} {r : Result} {x : CpuAccess} {a : Access}

theorem exec_finalWriteEnd_own (inHand : s.intake.inHand = some h) (grant : s.port.grant = some (.intake (.own r)))
    (stays : h.kind ≠ kindRestart ∨ r ≠ .ok) : exec .finalWriteEnd s
      = finish (((s.store (wordBytes (s.slotAddr h.slot) (orderHead h.kind .done r))).freePort).endInHand h) := by
  have goes : ¬ (h.kind = kindRestart ∧ r = .ok) := fun e => stays.elim (· e.1) (· e.2)
  change execFinalWriteEnd s = _
  simp only [execFinalWriteEnd, grant, inHand, if_neg goes, State.endGrant_own inHand]

theorem exec_finalWriteEnd_final {w : FinalWrite} (grant : s.port.grant = some (.intake (.final w))) :
    exec .finalWriteEnd s
      = finish (((s.store (wordBytes (s.slotAddr w.slot) (orderHead w.kind .done w.result))).freePort).endFinalWrite w) := by
  change execFinalWriteEnd s = _
  simp only [execFinalWriteEnd, grant]
  rfl

/-! ### The slot of the order in hand (R31, R32, R38) -/

/-- The Intake as the final write of the order in hand leaves it, N given. -/
def Intake.freed (i : Intake) (h : InHand) (early : Bool) (next : Nat) : Intake :=
  { i with
    slots := i.slots.set h.slot { i.slot h.slot with state := .free, early := early }
    inHand := none
    state := if i.dispatch.isSome then .dispatchWait else .waiting
    next := next }

section
variable (unmarked : ∀ i, (s.intake.slot i).early = false)
  (free : ∀ x, s.passage.cpu = some x → x.status ≠ .held (.slot h.slot))
include unmarked free

theorem State.endInHand_inTurn (turn : h.urgent = false) : s.endInHand h
    = s.withIntake (s.intake.freed h false ((s.intake.next + 1) % s.intake.slots.length)) := by
  have marks := Intake.withSlot_unmarked unmarked (x := { s.intake.slot h.slot with state := .free, early := false }) rfl h.slot
  unfold State.endInHand
  dsimp only
  rw [turn, State.leaveFetching_of_not_held _ free, if_neg Bool.false_ne_true,
    Intake.advanceN_unmarked (by exact marks), Intake.bumpN]
  simp only [State.withSlot, State.withIntake, Intake.withSlot, List.length_set, Intake.freed]
  rfl

theorem State.endInHand_urgent (urgent : h.urgent = true) (away : s.intake.next ≠ h.slot) : s.endInHand h
    = s.withIntake (s.intake.freed h true s.intake.next) := by
  have mark := s.intake.slot_withSlot h.slot s.intake.next { s.intake.slot h.slot with state := .free, early := true }
  rw [if_neg fun e => away e.1.symm] at mark
  unfold State.endInHand
  dsimp only
  rw [urgent, State.leaveFetching_of_not_held _ free, if_pos rfl,
    Intake.passMarked_unmarked (by exact (congrArg SlotRecord.early mark).trans (unmarked _))]
  rfl

end

/-- The Intake left with slot N POSTED takes it and asks its body fetch (R29, R37). -/
theorem State.settle_takes_next {k : Byte} (orders : v.hasOrders = true) (hand : v.intake.inHand = none)
    (waits : v.intake.state = .waiting) (writes : v.intake.finalWrites = []) (req : v.port.intakeReq = none)
    (grant : v.port.grant = none) (still : v.moverFree = false)
    (posted : (v.intake.slot v.intake.next).state = .posted) (kind : (v.intake.slot v.intake.next).kind = some k) :
    v.settle.intake.inHand = some { slot := v.intake.next, kind := k, body := [], urgent := false, stage := .fetch }
      ∧ (v.settle.intake.slot v.intake.next).state = .fetching ∧ v.settle.intake.state = .fetching
      ∧ v.settle.port.intakeReq = some .fetch := by
  obtain ⟨i, -, same, intake, request⟩ := v.settle_intake
  obtain rfl := same still
  have take := State.settleTake_next orders hand waits posted
  have asks := State.settleIntake_fetch (s := v.takeSlot v.intake.next false) (h := ⟨v.intake.next, k, [], false, .fetch⟩)
    req (by simp only [State.intakeGranted, show (v.takeSlot v.intake.next false).port.grant = none from grant])
    writes (by simp only [State.takeSlot, kind, Option.getD_some]; rfl) rfl
  obtain ⟨fetching, state, fetch⟩ := State.requestFetch_posted (s := v.takeSlot v.intake.next false)
    (h := ⟨v.intake.next, k, [], false, .fetch⟩) posted
  rw [show v.withIntake v.intake = v from rfl, take] at intake request
  rw [intake, request, State.settleIntake_inHand, asks]
  exact ⟨by simp only [State.takeSlot, kind, Option.getD_some]; rfl, fetching, state, fetch⟩

/-! ### An access held on the slot (R16) -/

theorem State.classify_free {i : Nat} {record : SlotRecord} (held : s.classify .processor a = .hold (.slot i))
    (within : i < s.intake.slots.length) (left : record.state ≠ .fetching) :
    (s.withSlot i record).classify .processor a = .pass .plain := by
  have orders (n : Nat) (hn : s.ordersTreatment .processor n = .hold (.slot i)) :
      (s.withSlot i record).ordersTreatment .processor n = .pass .plain := by
    have length : (s.withSlot i record).intake.slots.length = s.intake.slots.length := List.length_set
    unfold State.ordersTreatment at hn ⊢
    rw [length]
    split at hn
    · next j _ hj =>
      split at hn
      · obtain rfl : j = i := by
          cases hn
          rfl
        have slot : (s.withSlot j record).intake.slot j = record :=
          (s.intake.slot_withSlot j j record).trans (if_pos ⟨rfl, within⟩)
        simp only [slot, if_neg left]
      · cases hn
    · cases hn
    · cases hn
  have windows (hw : s.windowTreatment .processor a = .hold (.slot i)) :
      (s.withSlot i record).windowTreatment .processor a = .pass .plain := by
    have at' : (s.withSlot i record).windowAt a.at = s.windowAt a.at := rfl
    have entries : (s.withSlot i record).windows = s.windows := rfl
    unfold State.windowTreatment at hw ⊢
    rw [at']
    cases he : s.windowAt a.at with
    | none => simp only [he, reduceCtorEq] at hw
    | some e =>
      simp only [he, entries] at hw ⊢
      cases hk : s.windows[e].kind with
      | orders =>
        simp only [hk] at hw ⊢
        exact orders _ hw
      | off => simp only [hk, reduceCtorEq] at hw
      | guard =>
        simp only [hk] at hw
        split at hw <;> cases hw
      | reports =>
        simp only [hk, State.reportsTreatment] at hw
        (repeat' split at hw) <;> cases hw
      | band =>
        simp only [hk, State.bandTreatment] at hw
        (repeat' split at hw) <;> cases hw
  have passage : (s.withSlot i record).passage = s.passage := rfl
  have installed : (s.withSlot i record).installed = s.installed := rfl
  have overlaid : (s.withSlot i record).overlaid .processor a = s.overlaid .processor a := rfl
  have guarded : (s.withSlot i record).imageGuarded a = s.imageGuarded a := rfl
  have rest : (s.withSlot i record).restAddress = s.restAddress := rfl
  unfold State.classify at held ⊢
  rw [overlaid, passage, installed, guarded, rest]
  split at held
  · split at held <;> cases held
  next region =>
  split at held
  · split at held <;> cases held
  next rom =>
  split at held
  · cases held
  next memory =>
  split at held
  · cases held
  next image =>
  split at held
  · split at held <;> cases held
  next rests =>
  rw [if_neg region, if_neg rom, if_neg memory, if_neg image, if_neg rests]
  exact windows held

/-- An access held on the slot of the order in hand passes once the slot is FREE. -/
theorem State.endInHand_cpu (within : h.slot < s.intake.slots.length) (hx : s.passage.cpu = some x)
    (hs : x.status = .held (.slot h.slot)) (held : s.classify .processor x.acc = .hold (.slot h.slot)) :
    (s.endInHand h).passage.cpu = some ⟨x.acc, .passing .plain, x.timer.stop⟩ := by
  have passes := State.classify_free held within (record := { s.intake.slot h.slot with state := .free, early := h.urgent })
    nofun
  have released := State.releaseCpu_passes (s := s.withSlot h.slot
    { s.intake.slot h.slot with state := .free, early := h.urgent }) (by exact hx) hs passes
  unfold State.endInHand State.leaveFetching
  dsimp only at released ⊢
  rw [released]
  rfl

/-- A state with another memory and another grant judges the processor's accesses alike. -/
theorem State.classify_stored (cells : List Host.Cell) (a : Access) :
    ((s.store cells).freePort).classify .processor a = s.classify .processor a := rfl

end Sys2Proof.Machine
end

section
/-! An ended order leaves its queue (R33, R36, R37): what its slot, the queues and the mover are then, and what the order in
the dispatch place does. -/

namespace Sys2Proof.Machine

open Sys2Proof

variable {s v : State} {o x : Order} {q : QueueId} {ro : Running} {rest : List Order}

/-! ### The Intake beside its queues -/

/-- The Intake without its queues and its final writes. -/
def Intake.place (i : Intake) : List SlotRecord × Nat × IntakeState × Option InHand × Option Order :=
  (i.slots, i.next, i.state, i.inHand, i.dispatch)

theorem Intake.place_of_besideEnd {i j : Intake} (h : i.besideEnd q = j.besideEnd q) : i.place = j.place := by
  rw [Intake.place, Intake.place, Intake.slots_of_besideEnd h, Intake.next_of_besideEnd h, Intake.state_of_besideEnd h,
    Intake.inHand_of_besideEnd h, Intake.dispatch_of_besideEnd h]

theorem Intake.withQueue_place (i : Intake) (y : Queue) : (i.withQueue q y).place = i.place := by cases q <;> rfl

theorem State.startOrder_place : (s.startOrder q o).intake.place = s.intake.place := by
  obtain ⟨r, h⟩ := s.startOrder_besideOne q o
  exact Intake.place_of_besideEnd h

theorem State.startNext_place : (s.startNext q).intake.place = s.intake.place := by
  unfold State.startNext
  split
  · exact State.startOrder_place.trans (Intake.withQueue_place ..)
  · rfl

section
variable {i j : Intake} (h : i.place = j.place)
include h

theorem Intake.slots_of_place : i.slots = j.slots := congrArg Prod.fst h
theorem Intake.slot_of_place (n : Nat) : i.slot n = j.slot n :=
  congrArg (fun slots : List SlotRecord => slots.getD n SlotRecord.reset) (Intake.slots_of_place h)
theorem Intake.next_of_place : i.next = j.next := congrArg (·.2.1) h
theorem Intake.state_of_place : i.state = j.state := congrArg (·.2.2.1) h
theorem Intake.inHand_of_place : i.inHand = j.inHand := congrArg (·.2.2.2.1) h
theorem Intake.dispatch_of_place : i.dispatch = j.dispatch := congrArg (·.2.2.2.2) h

end

/-! ### The dispatch place (R33) -/

theorem Intake.passMarked_states (i : Intake) (n m : Nat) : ((i.passMarked n).slot m).state = (i.slot m).state := by
  induction n generalizing i with
  | zero => rfl
  | succ n ih =>
    unfold Intake.passMarked
    split
    · refine (ih _).trans ?_
      have slot := i.slot_withSlot i.next m { i.slot i.next with early := false }
      refine (congrArg SlotRecord.state slot).trans ?_
      split
      · next same => exact congrArg (fun k => (i.slot k).state) same.1
      · rfl
    · rfl

theorem Intake.toWaiting_slots (i : Intake) : i.toWaiting.slots = i.slots ∧ i.toWaiting.next = i.next
    ∧ i.toWaiting.inHand = i.inHand ∧ i.toWaiting.state = if i.inHand = none then .waiting else i.state := by
  unfold Intake.toWaiting
  split
  · next h => exact ⟨rfl, rfl, rfl, by rw [if_pos h]⟩
  · next h => exact ⟨rfl, rfl, rfl, by rw [if_neg (by rw [h]; nofun)]⟩

theorem Intake.placed_states (i : Intake) (m : Nat) : ((i.placed o).slot m).state = (i.slot m).state := by
  have waits (j : Intake) : (j.toWaiting.slot m) = j.slot m :=
    congrArg (fun slots : List SlotRecord => slots.getD m SlotRecord.reset) j.toWaiting_slots.1
  have queue (j : Intake) (y : Queue) : ((j.withQueue o.work.queue y).slot m) = j.slot m := by cases o.work.queue <;> rfl
  rw [Intake.placed, waits, Intake.advanceN]
  refine (Intake.passMarked_states _ _ _).trans ?_
  exact congrArg SlotRecord.state (queue { i with dispatch := none } _)

/-- With no early mark the order of the dispatch place lets N move on by one. -/
theorem Intake.placed_unmarked {i : Intake} (unmarked : ∀ n, (i.slot n).early = false) : (i.placed o).slots = i.slots
    ∧ (i.placed o).next = (i.next + 1) % i.slots.length ∧ (i.placed o).inHand = i.inHand
    ∧ (i.placed o).state = if i.inHand = none then .waiting else i.state := by
  rw [Intake.placed]
  generalize hj : { i with dispatch := none }.withQueue o.work.queue
    { (i.queue o.work.queue) with waiting := (i.queue o.work.queue).waiting ++ [o] } = j
  have place : j.place = { i with dispatch := none }.place := by
    rw [← hj]
    exact Intake.withQueue_place ..
  have marks (n : Nat) : (j.slot n).early = false := (congrArg SlotRecord.early (Intake.slot_of_place place n)).trans (unmarked n)
  rw [Intake.advanceN_unmarked marks]
  obtain ⟨slots, next, hand, state⟩ := j.bumpN.toWaiting_slots
  have slots' : j.slots = i.slots := (Intake.slots_of_place place :)
  have hand' : j.inHand = i.inHand := (Intake.inHand_of_place place :)
  have next' : j.next = i.next := (Intake.next_of_place place :)
  have state' : j.state = i.state := (Intake.state_of_place place :)
  refine ⟨slots.trans slots', next.trans ?_, hand.trans hand', state.trans ?_⟩
  · rw [Intake.bumpN, slots', next']
  · rw [show j.bumpN.inHand = i.inHand from hand', show j.bumpN.state = i.state from state']

theorem State.dispatch_states (m : Nat) : (s.dispatch.intake.slot m).state = (s.intake.slot m).state := by
  cases place : s.intake.dispatch with
  | none => rw [State.dispatch_empty place]
  | some x =>
    by_cases room : (s.intake.queue x.work.queue).waiting.length < 4
    · rw [State.dispatch_room place room]
      exact (congrArg SlotRecord.state (Intake.slot_of_place State.startNext_place m)).trans (Intake.placed_states ..)
    · rw [State.dispatch_full place (Nat.not_lt.mp room)]

/-- The orders that wait in the queues belong to them (Table 2-2). -/
def State.WaitersOwn (s : State) : Prop := ∀ q, ∀ o ∈ (s.intake.queue q).waiting, o.work.queue = q

theorem Intake.placed_queue_other (i : Intake) (other : q ≠ x.work.queue) : (i.placed x).queue q = i.queue q := by
  rw [Intake.placed, Intake.toWaiting_queue, Intake.advanceN_queue]
  revert other
  cases x.work.queue <;> cases q <;> intro other <;> first
    | exact absurd rfl other
    | rfl

theorem State.placed_waiters (own : s.WaitersOwn) : (s.withIntake (s.intake.placed x)).WaitersOwn := by
  intro r o mem
  by_cases same : r = x.work.queue
  · subst same
    rw [show (s.withIntake (s.intake.placed x)).intake = s.intake.placed x from rfl, Intake.placed_queue] at mem
    rcases List.mem_append.mp mem with old | new
    · exact own _ o old
    · rw [List.mem_singleton.mp new]
  · rw [show (s.withIntake (s.intake.placed x)).intake = s.intake.placed x from rfl, Intake.placed_queue_other _ same] at mem
    exact own _ o mem

/-- An order that starts in one queue leaves every other queue whole. -/
theorem State.startNext_queue_other (own : s.WaitersOwn) {r : QueueId} (other : r ≠ q) :
    (s.startNext q).intake.queue r = s.intake.queue r := by
  unfold State.startNext
  split
  · next o rest _ first =>
    have beside := State.startOrder_besideEnd (s := s.withQueue q { running := some o.first, waiting := rest })
      (own q o (by rw [first]; exact List.mem_cons_self))
    refine (Intake.queue_of_besideEnd beside other).trans ?_
    revert other
    cases q <;> cases r <;> intro other <;> first
      | exact absurd rfl other
      | rfl
  · rfl

theorem State.startNext_mover (own : s.WaitersOwn) (away : q ≠ .mover) : (s.startNext q).mover = s.mover := by
  unfold State.startNext
  split
  · next o rest _ first =>
    exact State.startOrder_mover (.inr (by rw [own q o (by rw [first]; exact List.mem_cons_self)]; exact away))
  · rfl

theorem State.startNext_pending : s.reports.pending <+: (s.startNext q).reports.pending := by
  unfold State.startNext
  split
  · next o rest _ _ =>
    exact State.startOrder_pending (s := s.withQueue q { running := some o.first, waiting := rest })
  · exact List.prefix_refl _

/-- A running order stands as the order in the dispatch place enters, and so does the mover that carries one out. -/
theorem State.dispatch_stands (own : s.WaitersOwn) (busy : s.running q ≠ none) :
    s.dispatch.running q = s.running q ∧ (q = .mover → s.dispatch.mover = s.mover) := by
  cases place : s.intake.dispatch with
  | none =>
    rw [State.dispatch_empty place]
    exact ⟨rfl, fun _ => rfl⟩
  | some x =>
    by_cases room : (s.intake.queue x.work.queue).waiting.length < 4
    · rw [State.dispatch_room place room]
      by_cases same : x.work.queue = q
      · subst same
        have running : (s.withIntake (s.intake.placed x)).running x.work.queue = s.running x.work.queue :=
          (congrArg Queue.running (Intake.placed_queue (o := x) s.intake) :)
        rw [State.startNext_running (running ▸ busy)]
        exact ⟨running, fun _ => rfl⟩
      · have stays := State.startNext_queue_other (State.placed_waiters (x := x) own) (Ne.symm same)
        refine ⟨congrArg Queue.running (stays.trans (Intake.placed_queue_other _ (Ne.symm same))), fun mover => ?_⟩
        exact State.startNext_mover (State.placed_waiters own) (mover ▸ same)
    · rw [State.dispatch_full place (Nat.not_lt.mp room)]
      exact ⟨rfl, fun _ => rfl⟩

theorem State.dispatch_pending : s.reports.pending <+: s.dispatch.reports.pending := by
  cases place : s.intake.dispatch with
  | none =>
    rw [State.dispatch_empty place]
  | some x =>
    by_cases room : (s.intake.queue x.work.queue).waiting.length < 4
    · rw [State.dispatch_room place room]
      exact State.startNext_pending (s := s.withIntake (s.intake.placed x))
    · rw [State.dispatch_full place (Nat.not_lt.mp room)]

/-! ### The order leaves (R37) -/

/-- The state in which the next order of the queue starts: the slot is FREE, the engine has no record of the order, and a
paused open emit has tested its end (R37, R116). -/
def State.left (s : State) (q : QueueId) (ro : Running) : State :=
  let s1 := s.withSlot ro.order.slot { s.intake.slot ro.order.slot with state := .free }
  let s2 := (s1.withRunning q none).clearEngine ro.order.work
  match ro.order.work with
  | .capture _ => s2.testOpenEnd
  | .move _ | .emit _ | .transfer _ => s2

theorem State.leaveQueue_eq : s.leaveQueue q ro = ((s.left q ro).startNext q).dispatch := rfl

/-- The Intake with the slot of the ended order FREE and no running order in its queue. -/
def Intake.left (i : Intake) (q : QueueId) (ro : Running) : Intake :=
  (i.withSlot ro.order.slot { i.slot ro.order.slot with state := .free }).withQueue q
    { (i.queue q) with running := none }

theorem State.left_besideEnd : (s.left q ro).intake.besideEnd .p = (s.intake.left q ro).besideEnd .p := by
  have cleared : ((s.withSlot ro.order.slot { s.intake.slot ro.order.slot with state := .free }).withRunning q none).intake
      = s.intake.left q ro := by
    cases q <;> rfl
  unfold State.left
  cases ro.order.work with
  | capture p => exact State.testOpenEnd_besideEnd.trans (congrArg (fun i => Intake.besideEnd i .p) cleared)
  | move p => exact congrArg (fun i => Intake.besideEnd i .p) cleared
  | emit p => exact congrArg (fun i => Intake.besideEnd i .p) cleared
  | transfer p => exact congrArg (fun i => Intake.besideEnd i .p) cleared

theorem State.left_orders (r : QueueId) :
    (s.left q ro).orders r = if r = q then (none, (s.orders q).2) else s.orders r := by
  refine (State.orders_of_besideEnd (s := s.withIntake (s.intake.left q ro)) State.left_besideEnd r).trans ?_
  cases q <;> cases r <;> rfl

theorem State.left_place : (s.left q ro).intake.place
    = (s.intake.withSlot ro.order.slot { s.intake.slot ro.order.slot with state := .free }).place :=
  (Intake.place_of_besideEnd State.left_besideEnd).trans (Intake.withQueue_place ..)

/-- The mover that has carried an ended transfer out is idle. -/
theorem State.left_idle {p : TransferParams} (work : ro.order.work = .transfer p) : (s.left q ro).mover = Mover.reset := by
  simp only [State.left, work]
  rfl

/-- Without a paused emit the reports stand. -/
theorem State.left_reports (own : ro.order.work.queue = q) (still : ∀ p r, s.emitNow = some (p, r) → s.chanP.state ≠ .paused) :
    (s.left q ro).reports = s.reports := by
  unfold State.left
  cases work : ro.order.work with
  | move p => rfl
  | emit p => rfl
  | transfer p => rfl
  | capture p =>
    obtain rfl : q = .d := by rw [← own, work]; rfl
    dsimp only
    generalize hu : ((s.withSlot ro.order.slot { s.intake.slot ro.order.slot with state := .free }).withRunning .d
      none).clearEngine (.capture p) = u
    have now : u.emitNow = s.emitNow := by rw [← hu]; rfl
    have chan : u.chanP = s.chanP := by rw [← hu]; rfl
    have tests : u.testOpenEnd = u := by
      unfold State.testOpenEnd
      split
      · next p' r' e => exact if_neg fun paused => still p' r' (now ▸ e) (chan ▸ paused.1)
      · rfl
    rw [tests, ← hu]
    rfl

end Sys2Proof.Machine
end

section
/-! FINAL_WRITE_END (R31 to R38): the next order of the queue, and the order in the dispatch place. -/

namespace Sys2Proof.Machine

open Sys2Proof

variable {s t v : State} {o x : Order} {q : QueueId} {ro : Running} {rest : List Order}

/-! ### The next order of the queue (R36) -/

/-- The state in which the oldest waiting order of a queue has come to its head (R36). -/
def State.succeeded (s : State) (q : QueueId) (ro : Running) (o : Order) (rest : List Order) : State :=
  ((s.left q ro).withQueue q { running := some o.first, waiting := rest }).startOrder q o

theorem State.left_free : (s.left q ro).running q = none := by
  rw [State.running_eq_none_iff, State.left_orders, if_pos rfl]

theorem State.left_waiting : ((s.left q ro).intake.queue q).waiting = (s.intake.queue q).waiting := by
  have orders := State.left_orders (s := s) (q := q) (ro := ro) q
  rw [if_pos rfl] at orders
  exact congrArg Prod.snd orders

section
variable (waits : (s.intake.queue q).waiting = o :: rest)
include waits

theorem State.leaveQueue_succeeded : s.leaveQueue q ro = (s.succeeded q ro o rest).dispatch := by
  rw [State.leaveQueue_eq, State.startNext_first State.left_free (State.left_waiting.trans waits)]
  rfl

omit waits in
theorem State.succeeded_orders (r : QueueId) :
    (s.succeeded q ro o rest).orders r = if r = q then (some o, rest) else s.orders r := by
  rw [State.succeeded, State.startOrder_orders]
  split
  · next same =>
    subst same
    exact State.orders_withQueue_same _
  · next other => rw [State.orders_withQueue_other _ other, State.left_orders, if_neg other]

omit waits in
theorem State.succeeded_place : (s.succeeded q ro o rest).intake.place
    = (s.intake.withSlot ro.order.slot { s.intake.slot ro.order.slot with state := .free }).place :=
  State.startOrder_place.trans ((Intake.withQueue_place ..).trans State.left_place)

theorem State.succeeded_waiters (legal : QueuesLegal s) : (s.succeeded q ro o rest).WaitersOwn := by
  intro r y mem
  have orders := congrArg Prod.snd (State.succeeded_orders (s := s) (q := q) (ro := ro) (o := o) (rest := rest) r)
  rw [show (((s.succeeded q ro o rest).intake.queue r).waiting) = _ from orders] at mem
  split at mem
  · next same =>
    exact legal.waiting r y (by rw [same, waits]; exact List.mem_cons_of_mem _ mem)
  · exact legal.waiting r y mem

omit waits in
theorem State.succeeded_busy : (s.succeeded q ro o rest).running q ≠ none := by
  rw [ne_eq, State.running_eq_none_iff, State.succeeded_orders, if_pos rfl]
  exact Option.some_ne_none o

end

/-- The slot of the ended order is FREE; the others are as they were. -/
theorem State.leaveQueue_states (n : Nat) : ((s.leaveQueue q ro).intake.slot n).state
    = if ro.order.slot = n ∧ ro.order.slot < s.intake.slots.length then .free else (s.intake.slot n).state := by
  rw [State.leaveQueue_eq, State.dispatch_states,
    Intake.slot_of_place (State.startNext_place.trans State.left_place), Intake.slot_withSlot]
  split <;> rfl

theorem State.leaveQueue_freed : ((s.leaveQueue q ro).intake.slot ro.order.slot).state = .free := by
  rw [State.leaveQueue_states]
  by_cases within : ro.order.slot < s.intake.slots.length
  · rw [if_pos ⟨rfl, within⟩]
  · have none : s.intake.slot ro.order.slot = SlotRecord.reset :=
      List.getD_eq_default _ _ (Nat.not_lt.mp within)
    rw [if_neg fun e => within e.2, none]
    rfl

theorem State.leaveQueue_empty (empty : (s.intake.queue q).waiting = []) (place : s.intake.dispatch = none) :
    (s.leaveQueue q ro).running q = none := by
  have gone : (s.left q ro).intake.dispatch = none := (Intake.dispatch_of_place State.left_place).trans place
  rw [State.leaveQueue_eq, State.startNext_empty State.left_free (State.left_waiting.trans empty),
    State.dispatch_empty gone]
  exact State.left_free

/-! ### A marked order (R36, R39) -/

/-- A marked order that came to the head of its queue has ended ABORTED, its report offered. -/
theorem State.succeeded_marked (marked : o.marked = true) : s.succeeded q ro o rest
    = ((s.left q ro).withQueue q { running := some o.first, waiting := rest }).endOrder q .intake .aborted [] := by
  rw [State.succeeded, State.startOrder, if_pos marked]

theorem State.running_withQueue (y : Queue) : (s.withQueue q y).running q = y.running := by cases q <;> rfl

theorem State.succeeded_outcome (marked : o.marked = true) :
    ((s.succeeded q ro o rest).running q).map (fun y => (y.result, y.figures)) = some (.aborted, []) := by
  rw [State.succeeded_marked marked]
  exact State.endOrder_outcome (State.running_withQueue _) ..

theorem State.left_outside : (s.left q ro).outside = s.outside := by
  unfold State.left
  cases ro.order.work with
  | capture p => exact State.testOpenEnd_outside _
  | move p => rfl
  | emit p => rfl
  | transfer p => rfl

theorem State.succeeded_report (marked : o.marked = true) (area : s.hasReports = true)
    (room : s.reports.pending.length < 8) (reports : (s.left q ro).reports = s.reports) :
    (s.succeeded q ro o rest).reports.pending = s.reports.pending
      ++ [⟨.order, 1, [wordNat (o.slot + o.kind.toNat * 256), 1, 0, 0, 0, 0, 0]⟩] := by
  rw [State.succeeded_marked marked]
  generalize hw : (s.left q ro).withQueue q { running := some o.first, waiting := rest } = w
  have running : w.running q = some o.first := hw ▸ State.running_withQueue _
  have pending : w.reports = s.reports := hw ▸ reports
  have outside : w.outside = s.outside := hw ▸ State.left_outside
  have windows : w.windows = s.windows := congrArg Outside.windows outside
  have posts : w.hasReports = true := by
    rw [State.hasReports, windows]
    exact area
  obtain ⟨enters, -⟩ := endedOrdersReport w q .intake .aborted [] o.first running posts
  obtain ⟨-, entered, -⟩ := enters (pending ▸ room)
  rw [entered, pending]
  rfl

/-! ### The steps -/

section
variable (waits : (s.intake.queue q).waiting = o :: rest) (f : Follows (s.leaveQueue q ro) t)
include waits f

theorem Follows.next_runs : (t.running q).map (·.order) = some o ∧ rest <+: (t.intake.queue q).waiting := by
  rw [State.leaveQueue_succeeded waits] at f
  obtain ⟨runs, stay⟩ := (s.succeeded q ro o rest).dispatch_orders q State.succeeded_busy
  rw [State.succeeded_orders, if_pos rfl] at runs stay
  exact ⟨(f.running_order q).trans runs, f.waiting_orders q ▸ stay⟩

theorem Follows.marked_ends (marked : o.marked = true) (legal : QueuesLegal s) (own : ro.order.work.queue = q) :
    (t.running q).map (fun y => (y.result, y.figures)) = some (.aborted, []) := by
  rw [State.leaveQueue_succeeded waits] at f
  obtain ⟨runs, mover⟩ := State.dispatch_stands (State.succeeded_waiters (ro := ro) waits legal)
    (State.succeeded_busy (s := s) (q := q) (ro := ro) (o := o) (rest := rest))
  have stays : t.running q = (s.succeeded q ro o rest).dispatch.running q := by
    by_cases hq : q = .mover
    · subst hq
      have idle : (s.left .mover ro).mover = Mover.reset := by
        cases work : ro.order.work with
        | transfer p => exact State.left_idle work
        | move p =>
          rw [work] at own
          cases hc : p.chan <;> simp [Work.queue, hc, chanQueue] at own
        | capture p => rw [work] at own; cases own
        | emit p => rw [work] at own; cases own
      have ended : (s.succeeded .mover ro o rest).mover = Mover.reset := by
        rw [State.succeeded, State.startOrder_mover (.inl marked)]
        exact idle
      have still : (s.succeeded .mover ro o rest).dispatch.moverFree = false := by
        rw [State.moverFree, mover rfl, ended]
        rfl
      exact congrArg Queue.running (f.quiet still).2.2.2.2
    · exact f.running hq
  rw [stays, runs]
  exact State.succeeded_outcome marked

theorem Follows.marked_reports (marked : o.marked = true) (own : ro.order.work.queue = q) (area : s.hasReports = true)
    (room : s.reports.pending.length < 8) (still : ∀ p r, s.emitNow = some (p, r) → s.chanP.state ≠ .paused) :
    s.reports.pending ++ [⟨.order, 1, [wordNat (o.slot + o.kind.toNat * 256), 1, 0, 0, 0, 0, 0]⟩]
      <+: t.reports.pending := by
  rw [State.leaveQueue_succeeded waits] at f
  rw [← State.succeeded_report (rest := rest) marked area room (State.left_reports own still)]
  exact State.dispatch_pending.trans f.pending

end

/-! ### The order in the dispatch place (R33, R38) -/

/-- The Intake that is left with no order in hand asks no body fetch: its state stands. -/
theorem State.settleIntake_state (hand : s.intake.inHand = none) : s.settleIntake.intake.state = s.intake.state := by
  unfold State.settleIntake
  split
  · split
    · rfl
    · next h => rw [hand] at h; cases h
    · rfl
    · rfl
  · rfl

/-- The Intake in WAITING with slot N not POSTED takes nothing. -/
theorem State.settle_waits (hand : s.intake.inHand = none) (waiting : s.intake.state = .waiting)
    (next : (s.intake.slot s.intake.next).state ≠ .posted) :
    s.settle.intake.state = .waiting ∧ s.settle.intake.inHand = none := by
  obtain ⟨i, ⟨m, w, rfl⟩, -, intake, -⟩ := s.settle_intake
  have stays : (s.withIntake { s.intake with mQueue := m, finalWrites := s.intake.finalWrites ++ w }).settleTake
      = s.withIntake { s.intake with mQueue := m, finalWrites := s.intake.finalWrites ++ w } := by
    unfold State.settleTake
    simp only [State.withIntake_intake, hand, waiting]
    split
    · rfl
    · exact if_neg next
  rw [intake, stays, State.settleIntake_state (by exact hand), State.settleIntake_inHand]
  exact ⟨waiting, hand⟩

/-- The Intake in WAITING with slot N POSTED begins to take it. -/
theorem State.settle_begins (hand : s.intake.inHand = none) (waiting : s.intake.state = .waiting)
    (orders : s.hasOrders = true) (next : (s.intake.slot s.intake.next).state = .posted) :
    s.settle.intake.inHand.map (fun h => (h.slot, h.stage)) = some (s.intake.next, .fetch) := by
  obtain ⟨i, ⟨m, w, rfl⟩, -, intake, -⟩ := s.settle_intake
  rw [intake, State.settleIntake_inHand, State.settleTake_next (by exact orders) (by exact hand) (by exact waiting)
    (by exact next)]
  rfl

section
variable (waits : (s.intake.queue q).waiting = o :: rest) (place : s.intake.dispatch = some x) (legal : QueuesLegal s)
include waits place

omit waits in
theorem State.succeeded_dispatch : (s.succeeded q ro o rest).intake.dispatch = some x :=
  (Intake.dispatch_of_place State.succeeded_place).trans place

/-- An order for a full queue stays in the dispatch place. -/
theorem State.leaveQueue_full (other : x.work.queue ≠ q) (full : 4 ≤ (s.intake.queue x.work.queue).waiting.length) :
    (s.leaveQueue q ro).intake.dispatch = some x ∧ (s.leaveQueue q ro).intake.next = s.intake.next
      ∧ ((s.leaveQueue q ro).intake.queue q).waiting = rest := by
  have own := State.succeeded_orders (s := s) (q := q) (ro := ro) (o := o) (rest := rest) q
  have theirs := State.succeeded_orders (s := s) (q := q) (ro := ro) (o := o) (rest := rest) x.work.queue
  rw [if_pos rfl] at own
  rw [if_neg other] at theirs
  have dispatch := State.succeeded_dispatch (q := q) (ro := ro) (o := o) (rest := rest) place
  have length : 4 ≤ ((s.succeeded q ro o rest).intake.queue x.work.queue).waiting.length := by
    rw [show ((s.succeeded q ro o rest).intake.queue x.work.queue).waiting = _ from congrArg Prod.snd theirs]
    exact full
  rw [State.leaveQueue_succeeded waits, State.dispatch_full dispatch length]
  exact ⟨dispatch, (Intake.next_of_place State.succeeded_place :), congrArg Prod.snd own⟩

/-- An order for this queue enters it behind the order that now runs. -/
theorem State.leaveQueue_enters (same : x.work.queue = q) (room : rest.length < 4) : s.leaveQueue q ro
    = (s.succeeded q ro o rest).withIntake ((s.succeeded q ro o rest).intake.placed x) := by
  subst same
  have own := State.succeeded_orders (s := s) (q := x.work.queue) (ro := ro) (o := o) (rest := rest) x.work.queue
  rw [if_pos rfl] at own
  have waiting : ((s.succeeded x.work.queue ro o rest).intake.queue x.work.queue).waiting = rest := congrArg Prod.snd own
  have running : ((s.succeeded x.work.queue ro o rest).withIntake
      ((s.succeeded x.work.queue ro o rest).intake.placed x)).running x.work.queue
        = (s.succeeded x.work.queue ro o rest).running x.work.queue :=
    (congrArg Queue.running (Intake.placed_queue (o := x) _) :)
  rw [State.leaveQueue_succeeded waits, State.dispatch_room (State.succeeded_dispatch place) (by rw [waiting]; exact room),
    State.startNext_running (running ▸ State.succeeded_busy)]

/-- What the order that enters leaves of the Intake: N moved on; with no order in hand the Intake waits (R33, R38). -/
theorem State.leaveQueue_entered (same : x.work.queue = q) (room : rest.length < 4)
    (unmarked : ∀ i, (s.intake.slot i).early = false) :
    ((s.leaveQueue q ro).intake.queue q).waiting = rest ++ [x] ∧ (s.leaveQueue q ro).intake.dispatch = none
      ∧ (s.leaveQueue q ro).intake.next = (s.intake.next + 1) % s.intake.slots.length
      ∧ (s.leaveQueue q ro).intake.inHand = s.intake.inHand
      ∧ (s.leaveQueue q ro).intake.state = if s.intake.inHand = none then .waiting else s.intake.state := by
  have orders := State.succeeded_orders (s := s) (q := q) (ro := ro) (o := o) (rest := rest) q
  rw [if_pos rfl] at orders
  have queued : ((s.succeeded q ro o rest).intake.queue q).waiting = rest := congrArg Prod.snd orders
  have beside := State.succeeded_place (s := s) (q := q) (ro := ro) (o := o) (rest := rest)
  have marks (n : Nat) : ((s.succeeded q ro o rest).intake.slot n).early = false :=
    (congrArg SlotRecord.early (Intake.slot_of_place beside n)).trans
      (Intake.withSlot_unmarked unmarked (by exact unmarked _) _ n)
  obtain ⟨-, next, hand, state⟩ := Intake.placed_unmarked (o := x) marks
  rw [Intake.inHand_of_place beside] at hand state
  rw [Intake.next_of_place beside, Intake.slots_of_place beside] at next
  rw [Intake.state_of_place beside] at state
  rw [State.leaveQueue_enters waits place same room]
  refine ⟨?_, Intake.placed_dispatch _, next.trans ?_, hand, state⟩
  · subst same
    refine (congrArg Queue.waiting (Intake.placed_queue (o := x) _) :).trans ?_
    rw [queued]
  · exact congrArg ((s.intake.next + 1) % ·) List.length_set

end

end Sys2Proof.Machine
end

section
/-! FINAL_WRITE_END (R31, R32, R35 to R38) as a command. -/

namespace Sys2Proof.Machine

open Sys2Proof

variable {s : State} {h : InHand} {r : Result} {w : FinalWrite}

/-- Settles O33. -/
theorem finalWritesFreeTheSlot : Obligations.FinalWritesFreeTheSlot := by
  refine ⟨fun s h r inHand grant stays unmarked free => ?own, fun s h r x inHand grant stays within hx held judged => ?released,
    fun s w grant => ?final⟩
  case own =>
    intro v freed
    have run := exec_finalWriteEnd_own inHand grant stays
    have inTurn (turn : h.urgent = false) : exec .finalWriteEnd s
        = finish (v.withIntake (freed false ((s.intake.next + 1) % s.intake.slots.length))) :=
      run.trans (congrArg finish (State.endInHand_inTurn (s := v) unmarked free turn))
    refine ⟨fun turn => leads_of_finish (inTurn turn), fun urgent away => leads_of_finish
      (run.trans (congrArg finish (State.endInHand_urgent (s := v) unmarked free urgent away))), fun k => ?_⟩
    intro n turn orders place writes req still away within posted kind
    have slot : (freed false n).slot n = s.intake.slot n :=
      (s.intake.slot_withSlot h.slot n { s.intake.slot h.slot with state := .free, early := false }).trans
        (if_neg fun e => away e.1.symm)
    have still : (v.withIntake (freed false n)).moverFree = false := by
      refine (State.moverFree_of_not_mover (s := s) (t := v.withIntake (freed false n)) rfl rfl ?_).trans still
      simp only [State.moverGranted, grant]
      rfl
    obtain ⟨hand, fetching, state, fetch⟩ := State.settle_takes_next (v := v.withIntake (freed false n)) orders rfl
      (by simp only [State.withIntake_intake, freed, place]; rfl) writes req rfl still ((congrArg SlotRecord.state slot).trans posted)
      ((congrArg SlotRecord.kind slot).trans kind)
    exact ⟨_, inTurn turn, hand, fetching, state, fetch⟩
  case released =>
    have run := exec_finalWriteEnd_own inHand grant stays
    obtain ⟨t, ht, f⟩ := leads_of_finish run
    refine ⟨t, ht, ?_⟩
    have cpu := State.endInHand_cpu (s := (s.store (wordBytes (s.slotAddr h.slot) (orderHead h.kind .done r))).freePort)
      within hx held judged
    rw [f.cpu, cpu]
    rfl
  case final =>
    have run := exec_finalWriteEnd_final grant
    refine ⟨fun sleep => ?sleep, fun q ro owner running entered => ?queue⟩
    case sleep =>
      refine leads_of_finish (run.trans (congrArg finish ?_))
      simp only [State.endFinalWrite, sleep]
      rfl
    case queue =>
      generalize hv : (s.store (wordBytes (s.slotAddr w.slot) (orderHead w.kind .done w.result))).freePort = v at run
      have intake : v.intake = s.intake := by rw [← hv]; rfl
      have reports : v.reports = s.reports := by rw [← hv]; rfl
      have legal (l : QueuesLegal s) : QueuesLegal v := l.congr (by rw [← hv]; rfl)
      have leaves : v.endFinalWrite w = v.leaveQueue q ro := by
        have here : v.running q = some ro := by rw [State.running, intake]; exact running
        simp only [State.endFinalWrite, owner, here, if_pos entered]
      rw [leaves] at run
      have f := State.settle_follows (v.leaveQueue q ro)
      generalize ht : (v.leaveQueue q ro).settle = t at f
      refine ⟨t, run.trans (congrArg Host.Outcome.next ht), ?dram, ?slot, fun empty place => ?empty, fun o rest waits => ⟨?runs, fun marked l => ?marked,
        fun x place l unmarked => ?place⟩⟩
      case dram =>
        rw [f.dram, show (v.leaveQueue q ro).dram = v.dram from congrArg Outside.dram (State.leaveQueue_outside v q ro), ← hv]
        rfl
      case slot =>
        rcases f.slots ro.order.slot with same | ⟨posted, -⟩
        · rw [same]
          exact State.leaveQueue_freed
        · rw [State.leaveQueue_freed] at posted
          cases posted
      case empty =>
        have gone := f.running_order q
        rw [State.leaveQueue_empty (intake ▸ empty) (intake ▸ place)] at gone
        exact Option.map_eq_none_iff.mp gone
      all_goals have waits : (v.intake.queue q).waiting = o :: rest := intake ▸ waits
      case runs => exact f.next_runs waits
      case marked =>
        have own := l.running q ro running
        refine ⟨f.marked_ends waits marked (legal l) own, fun area room still => ?_⟩
        have reported := f.marked_reports waits marked own (by rw [← hv]; exact area) (by rw [reports]; exact room)
          (by rw [← hv]; exact still)
        rwa [reports] at reported
      case place =>
        intro n
        have place : v.intake.dispatch = some x := intake ▸ place
        refine ⟨fun same room => ?_, fun other full => ?_⟩
        · obtain ⟨queue, dispatch, next, hand, state⟩ := State.leaveQueue_entered (ro := ro) waits place same room
            (by rw [intake]; exact unmarked)
          rw [intake] at next hand state
          have slot := State.leaveQueue_states (s := v) (q := q) (ro := ro) n
          rw [intake] at slot
          have orders : (v.leaveQueue q ro).hasOrders = s.hasOrders := by
            rw [State.hasOrders, show (v.leaveQueue q ro).windows = v.windows from
              congrArg Outside.windows (State.leaveQueue_outside v q ro), ← hv]
            rfl
          refine ⟨(f.waiting_orders q).trans queue, f.turn.2.trans dispatch, f.turn.1.trans next, fun none away => ?_,
            fun none has own posted => ?_, fun h hh => ?_⟩
          · rw [if_pos none] at state
            have free : ((v.leaveQueue q ro).intake.slot (v.leaveQueue q ro).intake.next).state ≠ .posted := by
              rw [next, slot]
              split
              · nofun
              · exact away
            exact ht ▸ State.settle_waits (hand.trans none) state free
          · rw [if_pos none] at state
            have first : ((v.leaveQueue q ro).intake.slot (v.leaveQueue q ro).intake.next).state = .posted := by
              rw [next, slot, if_neg fun e => own e.1.symm]
              exact posted
            have begins := State.settle_begins (hand.trans none) state (orders.trans has) first
            rw [next] at begins
            exact ht ▸ begins
          · obtain ⟨stays, rest⟩ := f.hand h (hand.trans hh)
            refine ⟨stays, fun fetched => (rest fetched).2.trans (state.trans (if_neg ?_))⟩
            rw [hh]
            nofun
        · obtain ⟨stays, next, queue⟩ := State.leaveQueue_full (ro := ro) waits place other (by rw [intake]; exact full)
          exact ⟨f.turn.2.trans stays, f.turn.1.trans (next.trans (congrArg Intake.next intake)),
            (f.waiting_orders q).trans queue⟩

end Sys2Proof.Machine
end

section
/-! CAPTURE: the steps of its phases and its line boundaries (R99 to R104, R122 to R124). -/

namespace Sys2Proof.Machine

open Sys2Proof

variable {s t u : State} {p : CaptureParams} {r q : CaptureRecord} {x y : Channel} {result : Result}

/-! ### Channels that stop -/

theorem Channel.enterHolding_stopped (x : Channel) :
    x.enterHolding.phase = x.phase ∧ (x.enterHolding.state = .holding ∨ x.enterHolding.state = .off) := by
  unfold Channel.enterHolding Channel.startHold
  split
  · exact ⟨rfl, .inr rfl⟩
  · exact ⟨rfl, .inl rfl⟩

theorem Channel.deEnergise_stopped (x : Channel) (h : x.state = .holding ∨ x.state = .off) :
    x.deEnergise.phase = x.phase ∧ (x.deEnergise.state = .holding ∨ x.deEnergise.state = .off) := by
  unfold Channel.deEnergise
  split
  · exact ⟨rfl, .inr rfl⟩
  · exact ⟨rfl, h⟩

/-- A channel that has stopped stays so, at its phase, through what follows of itself. -/
theorem Channel.Follows.stopped {c d : Channel} (f : c.Follows d) (h : c.state = .holding ∨ c.state = .off) :
    d.phase = c.phase ∧ (d.state = .holding ∨ d.state = .off) := by
  rcases f with rfl | rfl
  · exact ⟨rfl, h⟩
  · exact c.deEnergise_stopped h

theorem not_moving_of_stopped {c : Channel} (h : c.state = .holding ∨ c.state = .off) : c.state ≠ .moving := by
  rcases h with h | h <;> rw [h] <;> nofun

theorem Channel.hardStop_moving_stopped (moving : x.state = .moving) :
    x.hardStop.phase = x.phase ∧ (x.hardStop.state = .holding ∨ x.hardStop.state = .off) := by
  have motion : x.inMotion = true := by simp only [Channel.inMotion, moving]
  rw [Channel.hardStop, if_pos motion]
  exact x.enterHolding_stopped

/-! ### The ends -/

/-- The decided end of a capture leaves all but the record, the reports and the Intake. -/
theorem State.captureDecide_besideReports (r : CaptureRecord) (result : Result) :
    (s.captureDecide r result).besideReports = (s.withCaptureRecord (r.decided result)).besideReports := by
  change (s.withCaptureRecord (r.decided result)).captureFinish.besideReports = _
  unfold State.captureFinish
  (repeat' split) <;> simp

/-- A step after which the capture has ended: the channel has stopped at its phase, and the record is in DONE. -/
def CaptureStops (s : State) (phase : BitVec 3) (r : CaptureRecord) (at' : CapturePhase) (result : Result) : Prop :=
  ∃ t, exec (.stepTimerExpiry .d) s = .next t ∧ t.chanD.phase = phase ∧ t.chanD.state ≠ .moving
    ∧ t.capture.record = some { r with phase := .done, stepsInPhase := 0, endPhase := at', result := result }

theorem captureStops (run : exec (.stepTimerExpiry .d) s = finish ((s.withChanD x).captureDecide r result))
    (still : x.state = .holding ∨ x.state = .off) : CaptureStops s x.phase r r.phase result := by
  obtain ⟨t, ht, f⟩ := leads_of_finish run
  have beside := (s.withChanD x).captureDecide_besideReports r result
  have chan : ((s.withChanD x).captureDecide r result).chanD = x := State.chanD_of_besideReports beside
  have stopped := f.chanD.stopped (chan.symm ▸ still)
  rw [chan] at stopped
  exact ⟨t, ht, stopped.1, not_moving_of_stopped stopped.2,
    congrArg CaptureEngine.record (f.capture.trans (State.capture_of_besideReports beside))⟩

/-- A step after which the capture goes on. -/
def CaptureStands (s : State) (x : Channel) (q : CaptureRecord) : Prop :=
  Leads (.stepTimerExpiry .d) s ((s.withChanD x).withCapture { s.capture with record := some q })

/-! ### A paced boundary (R96, R122, R124) -/

/-- A count that rises and stops at 65535. -/
def oneMore (n : Nat) : Nat := if 65535 ≤ n + 1 then 65535 else n + 1

/-- The record of a scan line that is begun. -/
def CaptureRecord.lined (q : CaptureRecord) : CaptureRecord :=
  { q with
    scanLines := oneMore q.scanLines, tailLeft := if q.phase = .tail then q.tailLeft - 1 else q.tailLeft }

/-- A moving channel that proceeds at a level. -/
def Channel.proceeding (x : Channel) (level interval : Nat) : Channel :=
  { x with k := level, asked := x.runLevel, holdTimer := none, pauseTimer := none, stepTimer := some interval }

/-- A step to a paced boundary: channel D pauses without supply, else it proceeds and a line begins or is overrun. -/
def CapturePaces (s : State) (p : CaptureParams) (x : Channel) (q : CaptureRecord) : Prop :=
  (s.firstSupply p.band = 0 → CaptureStands s { x with
    state := .paused, asked := x.holdLevel, holdTimer := none, stepTimer := none
    pauseTimer := if p.pauseLimit = 0 then none else some p.pauseLimit } q)
  ∧ (s.firstSupply p.band ≠ 0 →
    let level := min (min (x.k + 1) (topLevel s.profiles[p.profile])) (s.firstSupply p.band - 1)
    ∃ t, exec (.stepTimerExpiry .d) s = .next t ∧ t.chanD = x.proceeding level (intervalAt s.profiles[p.profile] level)
      ∧ (∀ i, s.capture.freeStore = some i → s.capture.clocking = none →
        t.bands = s.bands.set p.band s.bands[p.band].claim ∧ t.capture.store i = .clocking s.bands[p.band].claimLine
        ∧ t.capture.record = some q.lined ∧ s.capture.lineStartPulse t.capture = true)
      ∧ (s.capture.freeStore = none ∨ s.capture.clocking ≠ none → t.bands = s.bands
        ∧ t.capture.record = some { q.lined with overruns := oneMore q.overruns }
        ∧ s.capture.lineStartPulse t.capture = false))

theorem CaptureEngine.freeStore_empty {c : CaptureEngine} {i : StoreId} (free : c.freeStore = some i) : c.store i = .empty := by
  unfold CaptureEngine.freeStore at free
  split at free
  · next a => cases free; exact a
  · split at free
    · next b => cases free; exact b
    · cases free

theorem CaptureEngine.clocking_withStore (c : CaptureEngine) (i : StoreId) (line : Nat) :
    (c.withStore i (.clocking line)).clocking.isSome = true := by
  cases i
  · rfl
  · unfold CaptureEngine.clocking
    cases h : (c.withStore .b (.clocking line)).storeA <;> rfl

theorem State.beginLine_claims {i : StoreId} (free : s.capture.freeStore = some i) (still : s.capture.clocking = none) :
    (s.beginLine p q).bands = s.bands.set p.band s.bands[p.band].claim
      ∧ (s.beginLine p q).capture.store i = .clocking s.bands[p.band].claimLine
      ∧ (s.beginLine p q).capture.record = some q ∧ s.capture.lineStartPulse (s.beginLine p q).capture = true := by
  have clocks := s.capture.clocking_withStore i s.bands[p.band].claimLine
  simp only [State.beginLine, free, still]
  refine ⟨rfl, by cases i <;> rfl, rfl, ?_⟩
  rw [CaptureEngine.lineStartPulse, still]
  exact clocks

theorem State.beginLine_overruns (busy : s.capture.freeStore = none ∨ s.capture.clocking ≠ none) :
    s.beginLine p q = s.withCaptureRecord { q with overruns := oneMore q.overruns } := by
  unfold State.beginLine
  split
  · next free still => exact absurd busy (by rw [free, still]; simp)
  · rfl

theorem CaptureEngine.lineStartPulse_record (c : CaptureEngine) (r : Option CaptureRecord) :
    c.lineStartPulse { c with record := r } = false := by
  change (c.clocking.isNone && c.clocking.isSome) = false
  cases c.clocking <;> rfl

theorem State.beginLine_chanD : (s.beginLine p q).chanD = s.chanD := by
  unfold State.beginLine
  split <;> rfl

theorem capturePaces (run : exec (.stepTimerExpiry .d) s = finish ((s.withChanD y).paceCapture p q))
    (moving : x.state = .moving) {timer : Option Nat} (hy : y = { x with stepTimer := timer }) : CapturePaces s p x q := by
  subst hy
  have count : (s.withChanD { x with stepTimer := timer }).captureCount p.band = s.firstSupply p.band := rfl
  rw [State.paceCapture, count] at run
  constructor
  · intro supply
    rw [if_pos supply] at run
    exact leads_of_finish run
  · intro supply level
    rw [if_neg supply] at run
    have enters : ({ x with stepTimer := timer, k := level } : Channel).enterMoving (intervalAt s.profiles[p.profile] level)
        = x.proceeding level (intervalAt s.profiles[p.profile] level) := by
      rw [Channel.enterMoving, Channel.proceeding]
      simp only [moving]
    have proceeds : (s.withChanD { x with stepTimer := timer }).captureProceed p q level
        = (s.withChanD (x.proceeding level (intervalAt s.profiles[p.profile] level))).beginLine p q.lined := by
      rw [← enters]
      rfl
    obtain ⟨t, ht, f⟩ := leads_of_finish (run.trans (congrArg finish proceeds))
    generalize hz : x.proceeding level (intervalAt s.profiles[p.profile] level) = z at f
    have away : z.state ≠ .holding := by rw [← hz, Channel.proceeding]; simp [moving]
    refine ⟨t, ht, (f.chanD.stands (by rw [State.beginLine_chanD]; exact away)).trans State.beginLine_chanD,
      fun i free still => ?_, fun busy => ?_⟩
    · obtain ⟨bands, store, record, pulse⟩ := State.beginLine_claims (s := s.withChanD z) (p := p) (q := q.lined)
        (by exact free) (by exact still)
      rw [f.bands, f.capture]
      exact ⟨bands, store, record, pulse⟩
    · have overruns := State.beginLine_overruns (s := s.withChanD z) (p := p) (q := q.lined) busy
      rw [f.bands, f.capture, overruns]
      exact ⟨rfl, rfl, s.capture.lineStartPulse_record _⟩

end Sys2Proof.Machine
end

section
/-! CAPTURE: its line boundaries by the phase, and the step timer's expiry (R99 to R104). -/

namespace Sys2Proof.Machine

open Sys2Proof

variable {s t u : State} {p : CaptureParams} {r q : CaptureRecord} {x y : Channel} {result : Result} {old : Option Nat}

/-- A channel that has taken the next level by the ramp rule (R84). -/
def Channel.ramped (x : Channel) (profile : List Level) : Channel :=
  { x with
    k := rampLevel profile x.k x.atLevel x.r
    atLevel := if rampLevel profile x.k x.atLevel x.r = x.k then x.atLevel else 0
    stepTimer := some (intervalAt profile (rampLevel profile x.k x.atLevel x.r)) }

/-! ### The boundaries (R102 to R104) -/

/-- A step at which EJECT is entered (R104). -/
def CaptureEjects (s : State) (p : CaptureParams) (x : Channel) (q : CaptureRecord) : Prop :=
  (p.ejectSteps = 0 → CaptureStops s x.phase { q with stepsInPhase := 0 } .eject .ok)
  ∧ (p.ejectSteps ≠ 0 → CaptureStands s
    (Channel.ramped { x with r := p.ejectSteps, atLevel := 0, paced := none } s.profiles[p.profile])
    { q with phase := .eject, stepsInPhase := 0 })

theorem captureEjects (run : exec (.stepTimerExpiry .d) s = finish ((s.withChanD y).enterEject p q))
    (hy : y = { x with stepTimer := old }) : CaptureEjects s p x q := by
  subst hy
  constructor
  · intro none
    rw [State.enterEject, if_pos none] at run
    have stopped := Channel.enterHolding_stopped { x with stepTimer := old }
    exact stopped.1 ▸ captureStops (x := Channel.enterHolding { x with stepTimer := old }) run stopped.2
  · intro steps
    rw [State.enterEject, if_neg steps] at run
    exact leads_of_finish run

/-- The scan lines have reached the line limit (R102). -/
def CaptureRecord.Limited (r : CaptureRecord) (p : CaptureParams) : Prop := p.lineLimit ≠ 0 ∧ p.lineLimit ≤ r.scanLines

theorem CaptureRecord.limitReached_iff : r.limitReached p = true ↔ r.Limited p := by
  simp [CaptureRecord.limitReached, CaptureRecord.Limited]

/-- A step to a boundary of TAIL (R103). -/
def CaptureTails (s : State) (p : CaptureParams) (r : CaptureRecord) (x : Channel) (q : CaptureRecord) : Prop :=
  (q.tailLeft = 0 ∨ r.Limited p → CaptureEjects s p x q) ∧ (q.tailLeft ≠ 0 → ¬ r.Limited p → CapturePaces s p x q)

theorem captureTails (run : exec (.stepTimerExpiry .d) s = finish ((s.withChanD y).tailBoundary p q))
    (moving : x.state = .moving) (hy : y = { x with stepTimer := old }) (lines : q.scanLines = r.scanLines) :
    CaptureTails s p r x q := by
  have limited : q.limitReached p = true ↔ r.Limited p := by
    rw [CaptureRecord.limitReached_iff, CaptureRecord.Limited, lines, CaptureRecord.Limited]
  constructor
  · intro ends
    refine captureEjects (run.trans (congrArg finish ?_)) hy
    unfold State.tailBoundary
    by_cases none : q.tailLeft = 0
    · rw [if_pos none]
    · rw [if_neg none, if_pos (limited.mpr (ends.resolve_left none))]
  · intro some going
    rw [State.tailBoundary, if_neg some, if_neg (mt limited.mp going)] at run
    exact capturePaces run moving hy

/-- A step to a boundary of SCANNING, or out of SKIP (R101, R102). -/
def CaptureScans (s : State) (p : CaptureParams) (r : CaptureRecord) (x : Channel) (q : CaptureRecord) : Prop :=
  (r.trailing = true → CaptureTails s p r x { q with phase := .tail, stepsInPhase := 0, tailLeft := p.tailLines })
  ∧ (r.trailing = false → r.Limited p → CaptureEjects s p x q)
  ∧ (r.trailing = false → ¬ r.Limited p → p.maxLength ≤ q.docLines → CaptureStops s x.phase q .scanning .jam)
  ∧ (r.trailing = false → ¬ r.Limited p → q.docLines < p.maxLength → CapturePaces s p x q)

theorem captureJams (run : exec (.stepTimerExpiry .d) s = finish ((s.withChanD y).captureStop q .jam))
    (moving : y.state = .moving) : CaptureStops s y.phase q q.phase .jam := by
  have stopped := Channel.hardStop_moving_stopped moving
  exact stopped.1 ▸ captureStops (x := y.hardStop) run stopped.2

theorem captureScans (run : exec (.stepTimerExpiry .d) s = finish ((s.withChanD y).scanBoundary p q))
    (moving : x.state = .moving) (hy : y = { x with stepTimer := old }) (lines : q.scanLines = r.scanLines)
    (trailing : q.trailing = r.trailing) (phase : q.phase = .scanning) : CaptureScans s p r x q := by
  have limited : q.limitReached p = true ↔ r.Limited p := by
    rw [CaptureRecord.limitReached_iff, CaptureRecord.Limited, lines, CaptureRecord.Limited]
  rw [State.scanBoundary] at run
  refine ⟨fun edge => ?_, fun edge ends => ?_, fun edge going long => ?_, fun edge going short => ?_⟩
  · rw [if_pos (trailing.trans edge)] at run
    exact captureTails run moving hy lines
  all_goals rw [if_neg (Bool.eq_false_iff.mp (trailing.trans edge))] at run
  · rw [if_pos (limited.mpr ends)] at run
    exact captureEjects run hy
  all_goals rw [if_neg (mt limited.mp going)] at run
  · rw [if_pos long] at run
    have state : y.state = .moving := by rw [hy]; exact moving
    have jams := captureJams run state
    rw [phase, hy] at jams
    exact jams
  · rw [if_neg (Nat.not_le.mpr short)] at run
    exact capturePaces run moving hy

/-! ### The expiry of the step timer (R99) -/

theorem State.captureNow_iff : s.captureNow = some (p, r) ↔
    s.activeWork .d = some (.capture p) ∧ s.capture.record = some r := by
  unfold State.captureNow
  constructor
  · intro now
    split at now
    · next hw hr => cases now; exact ⟨hw, hr⟩
    · cases now
  · rintro ⟨hw, hr⟩
    rw [hw, hr]

theorem exec_stepTimerExpiry_capture (now : s.captureNow = some (p, r)) (moving : s.chanD.state = .moving)
    (timer : s.chanD.stepTimer.isSome) : exec (.stepTimerExpiry .d) s = finish (s.stepCapture p r) := by
  have expired : s.stepExpired .d = s.stepCapture p r := by
    simp only [State.stepExpired, chanQueue, (State.captureNow_iff.mp now).1, now]
  exact (if_pos ⟨moving, timer⟩).trans (congrArg finish expired)

theorem CaptureRecord.lineStep_eq (r : CaptureRecord) (p : CaptureParams) :
    (r.lineStep p).phase = r.phase ∧ (r.lineStep p).scanLines = r.scanLines ∧ (r.lineStep p).trailing = r.trailing := by
  unfold CaptureRecord.lineStep
  split <;> exact ⟨rfl, rfl, rfl⟩

/-- The record after a step of SCANNING or TAIL. -/
def CaptureRecord.scanned (r : CaptureRecord) (p : CaptureParams) : CaptureRecord :=
  { r.lineStep p with stepsInPhase := stopAt 65535 (r.stepsInPhase + 1) }

/-- The record after a step of SKIP. -/
def CaptureRecord.skipped (r : CaptureRecord) (p : CaptureParams) : CaptureRecord :=
  { r.lineStep p with stepsInPhase := r.stepsInPhase + 1 }

section
variable (now : s.captureNow = some (p, r)) (moving : s.chanD.state = .moving) (timer : s.chanD.stepTimer.isSome)
include now moving timer

theorem capture_steps {u : State} (step : s.stepCapture p r = u) : exec (.stepTimerExpiry .d) s = finish u :=
  (exec_stepTimerExpiry_capture now moving timer).trans (congrArg finish step)

theorem capture_approach (phase : r.phase = .approach) :
    (p.jam ≤ r.stepsInPhase → CaptureStops s s.chanD.phase r .approach .jam)
    ∧ (r.stepsInPhase < p.jam → CaptureStands s { s.chanD.step with stepTimer := some (intervalAt s.profiles[p.profile] 0) }
        { r with stepsInPhase := r.stepsInPhase + 1 }) := by
  have step : s.stepCapture p r = s.stepApproach p r := by simp only [State.stepCapture, phase]
  refine ⟨fun jam => ?_, fun room => ?_⟩
  · have jams := captureJams (y := s.chanD)
      (capture_steps now moving timer (step.trans (if_pos jam)) :) moving
    exact phase ▸ jams
  · exact leads_of_finish (capture_steps now moving timer (step.trans (if_neg (Nat.not_le.mpr room))))

theorem capture_skip (phase : r.phase = .skip) :
    (r.stepsInPhase + 1 = p.skipLines * p.stepsPerLine →
      CaptureScans s p r { s.chanD.step.countStep with paced := some (p.band, .capture) }
        { r.skipped p with phase := .scanning, stepsInPhase := 0 })
    ∧ (r.stepsInPhase + 1 ≠ p.skipLines * p.stepsPerLine →
      p.maxLength ≤ (r.skipped p).docLines ∧ r.trailing = false → CaptureStops s s.chanD.step.phase (r.skipped p) .skip .jam)
    ∧ (r.stepsInPhase + 1 ≠ p.skipLines * p.stepsPerLine →
      ¬ (p.maxLength ≤ (r.skipped p).docLines ∧ r.trailing = false) →
      CaptureStands s (s.chanD.step.countStep.ramped s.profiles[p.profile]) (r.skipped p)) := by
  obtain ⟨kept, lines, trailing⟩ := r.lineStep_eq p
  have step : s.stepCapture p r = s.stepSkip p r := by simp only [State.stepCapture, phase]
  have long : (p.maxLength ≤ (r.skipped p).docLines ∧ (!(r.skipped p).trailing) = true)
      ↔ p.maxLength ≤ (r.skipped p).docLines ∧ r.trailing = false := by
    rw [Bool.not_eq_true', show (r.skipped p).trailing = r.trailing from trailing]
  refine ⟨fun last => ?_, fun more jam => ?_, fun more short => ?_⟩
  · have run := capture_steps now moving timer (step.trans (if_pos last))
    exact captureScans (y := { s.chanD.step.countStep with paced := some (p.band, .capture) }) run moving rfl lines trailing rfl
  · have run := capture_steps now moving timer (step.trans ((if_neg more).trans (if_pos (long.mpr jam))))
    have jams := captureJams (y := s.chanD.step.countStep) (q := r.skipped p) run moving
    rw [show (r.skipped p).phase = .skip from kept.trans phase] at jams
    exact jams
  · exact leads_of_finish (capture_steps now moving timer (step.trans ((if_neg more).trans (if_neg (mt long.mp short)))))

theorem capture_within (phase : r.phase = .scanning ∨ r.phase = .tail) (inside : r.stepsInLine + 1 ≠ p.stepsPerLine) :
    CaptureStands s { s.chanD.step with stepTimer := some (intervalAt s.profiles[p.profile] s.chanD.k) } (r.scanned p) := by
  have step : s.stepCapture p r = s.stepPaced p r := by
    rcases phase with phase | phase <;> simp only [State.stepCapture, phase]
  exact leads_of_finish (capture_steps now moving timer (step.trans (if_neg inside)))

theorem capture_boundary (phase : r.phase = .scanning ∨ r.phase = .tail) (boundary : r.stepsInLine + 1 = p.stepsPerLine) :
    (r.phase = .scanning → CaptureScans s p r s.chanD.step (r.scanned p))
    ∧ (r.phase = .tail → CaptureTails s p r s.chanD.step (r.scanned p)) := by
  obtain ⟨kept, lines, trailing⟩ := r.lineStep_eq p
  have step : s.stepCapture p r = s.stepPaced p r := by
    rcases phase with phase | phase <;> simp only [State.stepCapture, phase]
  have run := capture_steps now moving timer (step.trans (if_pos boundary))
  change _ = finish ((s.withChanD { s.chanD.step with
    stepTimer := some (intervalAt s.profiles[p.profile] s.chanD.k) }).captureBoundary p (r.scanned p)) at run
  refine ⟨fun scanning => ?_, fun tail => ?_⟩
  · have scans : (r.scanned p).phase ≠ .tail := by
      rw [show (r.scanned p).phase = _ from kept.trans scanning]
      nofun
    rw [State.captureBoundary, if_neg scans] at run
    exact captureScans run moving rfl lines trailing (kept.trans scanning)
  · have tails : (r.scanned p).phase = .tail := kept.trans tail
    rw [State.captureBoundary, if_pos tails] at run
    exact captureTails run moving rfl lines

theorem capture_eject (phase : r.phase = .eject) :
    (r.stepsInPhase + 1 = p.ejectSteps →
      CaptureStops s s.chanD.step.phase { r with stepsInPhase := p.ejectSteps } .eject .ok)
    ∧ (r.stepsInPhase + 1 ≠ p.ejectSteps →
      CaptureStands s (s.chanD.step.countStep.ramped s.profiles[p.profile]) { r with stepsInPhase := r.stepsInPhase + 1 }) := by
  have step : s.stepCapture p r = s.stepEject p r := by simp only [State.stepCapture, phase]
  refine ⟨fun last => ?_, fun more => ?_⟩
  · have run := capture_steps now moving timer (step.trans (if_pos last))
    have stopped := s.chanD.step.countStep.enterHolding_stopped
    have stops := captureStops (x := s.chanD.step.countStep.enterHolding) run stopped.2
    rw [stopped.1, show ({ r with stepsInPhase := r.stepsInPhase + 1 } : CaptureRecord).phase = .eject from phase] at stops
    exact stops
  · exact leads_of_finish (capture_steps now moving timer (step.trans (if_neg more)))

end

/-- Settles O52. -/
theorem capturesStepAndPace : Obligations.CapturesStepAndPace := by
  intro s p r now moving timer
  have skip := capture_skip now moving timer
  have boundary := capture_boundary now moving timer
  have scanning (h : r.phase = .scanning) (b : r.stepsInLine + 1 = p.stepsPerLine) := (boundary (.inl h) b).1 h
  have tail (h : r.phase = .tail) (b : r.stepsInLine + 1 = p.stepsPerLine) := (boundary (.inr h) b).2 h
  exact ⟨capture_approach now moving timer, skip, capture_within now moving timer, scanning, tail,
    capture_eject now moving timer⟩

end Sys2Proof.Machine
end

section
/-! The line stores of the Emit Engine (R109, R111, R112): the shift that begins, and the latch. -/

namespace Sys2Proof.Machine

open Sys2Proof

variable {e f : EmitEngine} {i j : StoreId} {x : PrintStore}

theorem EmitEngine.store_withStore_same (e : EmitEngine) (i : StoreId) (x : PrintStore) : (e.withStore i x).store i = x := by
  cases i <;> rfl

theorem EmitEngine.store_withStore_other (e : EmitEngine) (i : StoreId) (x : PrintStore) :
    (e.withStore i x).store i.other = e.store i.other := by
  cases i <;> rfl

theorem EmitEngine.fetched_state (h : e.fetched = some i) : (e.store i).state = .fetched := by
  unfold EmitEngine.fetched at h
  split at h
  · next first => cases h; exact first
  · split at h
    · next second => cases h; exact second
    · cases h

/-- A shift begins, or the stores stand. -/
theorem EmitEngine.beginShift_cases (e : EmitEngine) : e.beginShift = e ∨ ∃ i, e.fetched = some i ∧
    e.beginShift = { e.withStore i { e.store i with state := .shifting } with shiftReg := none } := by
  unfold EmitEngine.beginShift
  split
  · next i _ _ h => exact .inr ⟨i, h, rfl⟩
  · exact .inl rfl

/-- The shift that begins leaves a store that is not FETCHED. -/
theorem EmitEngine.beginShift_store (h : (e.store i).state ≠ .fetched) : e.beginShift.store i = e.store i := by
  rcases e.beginShift_cases with same | ⟨j, fetched, shifts⟩
  · rw [same]
  · have other : i ≠ j := fun eq => h (eq ▸ EmitEngine.fetched_state fetched)
    rw [shifts]
    cases i <;> cases j <;> first
      | exact absurd rfl other
      | rfl

theorem EmitEngine.beginShift_keeps (e : EmitEngine) : e.beginShift.record = e.record ∧ e.beginShift.group = e.group
    ∧ e.beginShift.latch = e.latch ∧ e.beginShift.older = e.older := by
  rcases e.beginShift_cases with same | ⟨j, -, shifts⟩
  · rw [same]
    exact ⟨rfl, rfl, rfl, rfl⟩
  · rw [shifts]
    cases j <;> exact ⟨rfl, rfl, rfl, rfl⟩

theorem EmitEngine.strobing_of (h : (e.store i).state = .strobing) : e.strobing.isSome = true := by
  unfold EmitEngine.strobing
  cases i with
  | a => rw [if_pos (show e.storeA.state = .strobing from h)]; rfl
  | b =>
    split
    · rfl
    · rw [if_pos (show e.storeB.state = .strobing from h)]; rfl

/-- The latch brings a line under heat (R108, R112). -/
theorem EmitEngine.latchStore_strobes (e : EmitEngine) (i : StoreId) : ((e.latchStore i).store i).state = .strobing
    ∧ (e.latchStore i).group = 0 ∧ (e.latchStore i).latch = e.shiftReg ∧ (e.latchStore i).record = e.record
    ∧ (e.strobing = none → e.latchPulse (e.latchStore i) = true) := by
  have store : ((e.latchStore i).store i).state = .strobing := by
    have kept := EmitEngine.beginShift_store (i := i)
      (e := { e.withStore i { e.store i with state := .strobing } with group := 0, latch := e.shiftReg })
      (by cases i <;> nofun)
    rw [EmitEngine.latchStore, kept]
    cases i <;> rfl
  obtain ⟨record, group, latch, -⟩ := EmitEngine.beginShift_keeps
    { e.withStore i { e.store i with state := .strobing } with group := 0, latch := e.shiftReg }
  refine ⟨store, group, latch, record.trans (by cases i <;> rfl), fun cold => ?_⟩
  rw [EmitEngine.latchPulse, cold, EmitEngine.strobing_of store]
  rfl

variable {s : State}

/-- A boundary that proceeds latches line D if its store is SHIFTED, and else waits (R112). -/
theorem State.tryLatch_latches (cold : s.emit.strobing = none) (shifted : s.emit.shifted = some i) :
    s.tryLatch = s.withEmit (s.emit.latchStore i) := by
  simp only [State.tryLatch, cold, shifted]

theorem State.tryLatch_record : s.tryLatch.emit.record = s.emit.record := by
  unfold State.tryLatch
  split
  · exact (EmitEngine.latchStore_strobes ..).2.2.2.1
  · rfl

theorem State.tryLatch_chanP : s.tryLatch.chanP = s.chanP := by
  unfold State.tryLatch
  split <;> rfl

end Sys2Proof.Machine
end

section
/-! EMIT: the steps of its phases, and its line boundaries (R115 to R117, R122, R123). -/

namespace Sys2Proof.Machine

open Sys2Proof

variable {s t u : State} {p : EmitParams} {r q : EmitRecord} {x y : Channel}

/-! ### The running emit -/

theorem State.emitNow_iff : s.emitNow = some (p, r) ↔ s.activeWork .p = some (.emit p) ∧ s.emit.record = some r := by
  unfold State.emitNow
  constructor
  · intro now
    split at now
    · next hw hr => cases now; exact ⟨hw, hr⟩
    · cases now
  · rintro ⟨hw, hr⟩
    rw [hw, hr]

theorem State.running_of_active {q : QueueId} {w : Work} (active : s.activeWork q = some w) :
    ∃ ro, s.running q = some ro ∧ ro.stage = .active ∧ ro.order.work = w := by
  unfold State.activeWork at active
  split at active
  · next ro hr =>
    split at active
    · next stage => exact ⟨ro, hr, stage, Option.some.inj active⟩
    · cases active
  · cases active

theorem exec_stepTimerExpiry_emit (now : s.emitNow = some (p, r)) (moving : s.chanP.state = .moving)
    (timer : s.chanP.stepTimer.isSome) : exec (.stepTimerExpiry .p) s = finish (s.stepEmit p r) := by
  have expired : s.stepExpired .p = s.stepEmit p r := by
    simp only [State.stepExpired, chanQueue, (State.emitNow_iff.mp now).1, now]
  exact (if_pos ⟨moving, timer⟩).trans (congrArg finish expired)

/-- The decided end of an emit leaves all but the record, the reports and the Intake; its outcome is fixed (R117). -/
theorem State.emitDecide_ends (active : s.activeWork .p = some (.emit p)) (r : EmitRecord) (result : Result)
    (reason : EndReason) :
    (s.emitDecide r result reason).besideReports
        = (s.withEmitRecord { r with phase := .done, result := result, endReason := some reason }).besideReports
      ∧ ((s.emitDecide r result reason).running .p).map (fun x => (x.result, x.figures))
        = some (result, [wordNat r.printed, wordNat reason.code]) := by
  obtain ⟨ro, running, -, -⟩ := State.running_of_active active
  exact ⟨State.endOrder_besideReports .., State.endOrder_outcome (s := s.withEmitRecord _) (ro := ro) running ..⟩

/-- A step after which the emit has ended: channel P has stopped at its phase, and the outcome is fixed. -/
theorem emitEnds {c : Instr} {reason : EndReason} {result : Result} (run : exec c s = finish ((u.withChanP x).emitDecide r result reason))
    (active : u.activeWork .p = some (.emit p)) (still : x.state = .holding ∨ x.state = .off) :
    ∃ t, exec c s = .next t ∧ t.chanP.phase = x.phase ∧ (t.chanP.state = .holding ∨ t.chanP.state = .off)
      ∧ t.bands = u.bands
      ∧ t.emit = { u.emit with record := some { r with phase := .done, result := result, endReason := some reason } }
      ∧ (t.running .p).map (fun x => (x.result, x.figures)) = some (result, [wordNat r.printed, wordNat reason.code]) := by
  obtain ⟨t, ht, f⟩ := leads_of_finish run
  obtain ⟨beside, outcome⟩ := State.emitDecide_ends (s := u.withChanP x) active r result reason
  have chan : ((u.withChanP x).emitDecide r result reason).chanP = x := State.chanP_of_besideReports beside
  have stopped := f.chanP.stopped (chan.symm ▸ still)
  rw [chan] at stopped
  refine ⟨t, ht, stopped.1, stopped.2, (f.bands.trans (State.bands_of_besideReports beside)).trans rfl,
    (f.emit.trans (State.emit_of_besideReports beside)).trans rfl, ?_⟩
  rw [f.running (q := .p) nofun]
  exact outcome

/-! ### The end of an emit (R116, R117) -/

/-- No CAPTURE of a band runs or waits in the D queue. -/
def State.CaptureGone (s : State) (b : Fin 4) : Prop :=
  ∀ o, (s.running .d).map (·.order) = some o ∨ o ∈ s.intake.dQueue.waiting → ∀ y, o.work = .capture y → y.band ≠ b

theorem Work.capturesInto_eq_false {w : Work} {b : Fin 4} :
    w.capturesInto b = false ↔ ∀ y, w = .capture y → y.band ≠ b := by
  cases w <;> simp [Work.capturesInto]

theorem State.captureGone_iff {b : Fin 4} : s.captureGone b = true ↔ s.CaptureGone b := by
  rw [State.captureGone, Bool.not_eq_true', Queue.someWork, Bool.or_eq_false_iff, List.any_eq_false]
  simp only [Bool.not_eq_true, Work.capturesInto_eq_false]
  constructor
  · rintro ⟨runs, waits⟩ o (run | wait)
    · obtain ⟨ro, hr, rfl⟩ := Option.map_eq_some_iff.mp run
      rw [show s.intake.dQueue.running = some ro from hr] at runs
      exact Work.capturesInto_eq_false.mp runs
    · exact waits o wait
  · intro gone
    refine ⟨?_, fun o wait => gone o (.inr wait)⟩
    cases hr : s.intake.dQueue.running with
    | none => rfl
    | some ro => exact Work.capturesInto_eq_false.mpr (gone ro.order (.inl (congrArg (Option.map (·.order)) hr)))

/-- The end of an emit is reached at a boundary (R116). -/
def State.EmitEnds (s : State) (p : EmitParams) (r : EmitRecord) : Prop :=
  p.lineCount ≠ 0 ∧ p.lineCount ≤ r.printed
    ∨ p.lineCount = 0 ∧ s.bands[p.band].c = 0
      ∧ (s.bands[p.band].role = .emit ∧ r.closed = true ∨ s.bands[p.band].role = .copy ∧ s.CaptureGone p.band)

theorem State.openEnds_iff : s.openEnds p r = true ↔ s.bands[p.band].c = 0
    ∧ (s.bands[p.band].role = .emit ∧ r.closed = true ∨ s.bands[p.band].role = .copy ∧ s.CaptureGone p.band) := by
  rw [State.openEnds, Bool.and_eq_true, decide_eq_true_eq]
  refine and_congr_right fun _ => ?_
  cases hr : s.bands[p.band].role <;> simp [State.captureGone_iff]

theorem State.okReason_code : wordNat (s.okReason p).code
    = if p.lineCount ≠ 0 then 0 else if s.bands[p.band].role = .copy then 2 else 1 := by
  unfold State.okReason
  split
  · rfl
  · cases hr : s.bands[p.band].role <;> rfl

/-- A PRINTING boundary with paper (R115, R116, R122). -/
theorem State.printBoundary_paper (paper : r.paperLost = false) :
    (s.EmitEnds p r → s.printBoundary p r = s.enterTail p r)
    ∧ (¬ s.EmitEnds p r → s.printBoundary p r = if s.bands[p.band].c = 0
        then (s.withChanP (s.chanP.enterPaused p.pauseLimit)).withEmitRecord r
        else s.emitProceed r (pacedLevel s.chanP.k (topLevel s.profiles[p.profile]) s.bands[p.band].c)) := by
  have paper' : ¬ (r.paperLost = true) := Bool.eq_false_iff.mp paper
  constructor
  · rintro (⟨some, reached⟩ | ⟨none, ends⟩)
    · exact (if_neg paper').trans (if_pos ⟨some, reached⟩)
    · exact (if_neg paper').trans ((if_neg fun h => h.1 none).trans (if_pos ⟨none, State.openEnds_iff.mpr ends⟩))
  · intro going
    have counting : ¬ (p.lineCount ≠ 0 ∧ p.lineCount ≤ r.printed) := fun h => going (.inl h)
    have stays : ¬ (p.lineCount = 0 ∧ s.openEnds p r = true) := fun h =>
      going (.inr ⟨h.1, State.openEnds_iff.mp h.2⟩)
    rw [State.printBoundary, if_neg paper', if_neg counting, if_neg stays]
    rfl

end Sys2Proof.Machine
end

section
/-! EMIT: the expiry of the step timer (R115 to R117, R122, R123). -/

namespace Sys2Proof.Machine

open Sys2Proof

variable {s t u : State} {p : EmitParams} {r : EmitRecord} {x : Channel}

/-- A moving channel that waits at a boundary (R112). -/
def Channel.waiting (x : Channel) (level : Nat) : Channel :=
  { x with k := level, state := .boundaryWait, asked := x.runLevel, holdTimer := none, stepTimer := none, pauseTimer := none }

theorem State.withEmitRecord_same (h : s.emit.record = some r) : s.withEmitRecord r = s := by
  unfold State.withEmitRecord
  rw [← h]
  rfl

section
variable (now : s.emitNow = some (p, r)) (moving : s.chanP.state = .moving) (timer : s.chanP.stepTimer.isSome)
include now moving timer

theorem emit_steps {u : State} (step : s.stepEmit p r = u) : exec (.stepTimerExpiry .p) s = finish u :=
  (exec_stepTimerExpiry_emit now moving timer).trans (congrArg finish step)

theorem emit_within (phase : r.phase = .printing) (inside : r.stepsInLine + 1 ≠ p.stepsPerLine) :
    Leads (.stepTimerExpiry .p) s ((s.withChanP { s.chanP.step with
      stepTimer := some (intervalAt s.profiles[p.profile] s.chanP.k) }).withEmitRecord
        { r with stepsInLine := r.stepsInLine + 1 }) := by
  have step : s.stepEmit p r = s.stepPrinting p r := by simp only [State.stepEmit, phase]
  exact leads_of_finish (emit_steps now moving timer (step.trans (if_neg inside)))

theorem emit_at_boundary (boundary : r.phase = .printing ∧ r.stepsInLine + 1 = p.stepsPerLine) :
    exec (.stepTimerExpiry .p) s = finish ((s.withChanP { s.chanP.step with
      stepTimer := some (intervalAt s.profiles[p.profile] s.chanP.k) }).printBoundary p { r with stepsInLine := 0 }) := by
  have step : s.stepEmit p r = s.stepPrinting p r := by simp only [State.stepEmit, boundary.1]
  exact emit_steps now moving timer (step.trans (if_pos boundary.2))

theorem emit_lost (boundary : r.phase = .printing ∧ r.stepsInLine + 1 = p.stepsPerLine) (lost : r.paperLost = true) :
    ∃ t, exec (.stepTimerExpiry .p) s = .next t ∧ t.chanP.phase = s.chanP.step.phase ∧ t.chanP.state ≠ .moving
      ∧ t.bands = s.bands.set p.band { s.bands[p.band] with draining := 0 }
      ∧ t.emit.storeA = PrintStore.none ∧ t.emit.storeB = PrintStore.none
      ∧ (t.running .p).map (fun x => (x.result, x.figures)) = some (.paperOut, [wordNat r.printed, 3]) := by
  have run := emit_at_boundary now moving timer boundary
  generalize hv : s.withChanP { s.chanP.step with
    stepTimer := some (intervalAt s.profiles[p.profile] s.chanP.k) } = v at run
  generalize hu : v.revertLines p.band = u
  have stops : v.printBoundary p { r with stepsInLine := 0 }
      = (u.withChanP u.chanP.hardStop).emitDecide { r with stepsInLine := 0 } .paperOut .paperOut := by
    rw [← hu]
    exact if_pos lost
  have chan : u.chanP = { s.chanP.step with stepTimer := some (intervalAt s.profiles[p.profile] s.chanP.k) } := by
    rw [← hu, ← hv]
    rfl
  have stopped := Channel.hardStop_moving_stopped (x := u.chanP) (by rw [chan]; exact moving)
  have intake : u.intake = s.intake := by
    rw [← hu, State.revertLines_intake, ← hv]
    rfl
  have active : u.activeWork .p = some (.emit p) := by
    rw [State.activeWork, State.running, intake]
    exact (State.emitNow_iff.mp now).1
  obtain ⟨t, ht, phase, state, bands, emit, outcome⟩ := emitEnds (p := p) (run.trans (congrArg finish stops)) active stopped.2
  refine ⟨t, ht, phase.trans (stopped.1.trans (congrArg Channel.phase chan :)), not_moving_of_stopped state,
    bands.trans ?_, ?_, ?_, outcome⟩
  · rw [← hu, ← hv]
    rfl
  all_goals
    rw [emit, ← hu]
    rfl

theorem emit_tails (boundary : r.phase = .printing ∧ r.stepsInLine + 1 = p.stepsPerLine) (paper : r.paperLost = false)
    (ends : s.EmitEnds p r) :
    (p.tailFeed = 0 → ∃ t, exec (.stepTimerExpiry .p) s = .next t ∧ t.chanP.phase = s.chanP.step.phase
      ∧ t.chanP.state ≠ .moving ∧ (t.running .p).map (fun x => (x.result, x.figures))
        = some (.ok, [wordNat r.printed, if p.lineCount ≠ 0 then 0 else if s.bands[p.band].role = .copy then 2 else 1]))
    ∧ (p.tailFeed ≠ 0 → Leads (.stepTimerExpiry .p) s ((s.withChanP (Channel.ramped
        { s.chanP.step with r := p.tailFeed, atLevel := 0, paced := none } s.profiles[p.profile])).withEmitRecord
        { r with stepsInLine := 0, phase := .tail })) := by
  have run := emit_at_boundary now moving timer boundary
  generalize hv : s.withChanP { s.chanP.step with
    stepTimer := some (intervalAt s.profiles[p.profile] s.chanP.k) } = v at run
  have enters : v.printBoundary p { r with stepsInLine := 0 } = v.enterTail p { r with stepsInLine := 0 } :=
    (State.printBoundary_paper (by exact paper)).1 (by rw [← hv]; exact ends)
  rw [enters, State.enterTail] at run
  constructor
  · intro none
    rw [if_pos none] at run
    have stopped := v.chanP.enterHolding_stopped
    obtain ⟨t, ht, phase, state, -, -, outcome⟩ := emitEnds run (u := v) (by rw [← hv]; exact (State.emitNow_iff.mp now).1)
      stopped.2
    rw [stopped.1] at phase
    refine ⟨t, ht, phase.trans (by rw [← hv]; rfl), not_moving_of_stopped state, outcome.trans ?_⟩
    rw [State.okReason_code, ← hv]
    rfl
  · intro some
    have motion : v.chanP.state = .moving := by rw [← hv]; exact moving
    rw [if_neg some, if_pos motion, ← hv] at run
    exact leads_of_finish run

theorem emit_goes_on (boundary : r.phase = .printing ∧ r.stepsInLine + 1 = p.stepsPerLine) (paper : r.paperLost = false)
    (going : ¬ s.EmitEnds p r) : exec (.stepTimerExpiry .p) s = finish (if s.bands[p.band].c = 0
      then (s.withChanP { s.chanP.step with
        state := .paused, asked := s.chanP.holdLevel, holdTimer := none, stepTimer := none
        pauseTimer := if p.pauseLimit = 0 then none else some p.pauseLimit }).withEmitRecord { r with stepsInLine := 0 }
      else ((s.withChanP (s.chanP.step.waiting (min (min (s.chanP.k + 1) (topLevel s.profiles[p.profile]))
        (s.bands[p.band].c - 1)))).withEmitRecord { r with stepsInLine := 0 }).tryLatch) := by
  have run := emit_at_boundary now moving timer boundary
  generalize hv : s.withChanP { s.chanP.step with
    stepTimer := some (intervalAt s.profiles[p.profile] s.chanP.k) } = v at run
  have waits := (State.printBoundary_paper (s := v) (p := p) (r := { r with stepsInLine := 0 }) (by exact paper)).2
    (by rw [← hv]; exact going)
  rw [waits] at run
  refine run.trans (congrArg finish ?_)
  subst hv
  exact if_congr Iff.rfl rfl rfl

theorem emit_waits (boundary : r.phase = .printing ∧ r.stepsInLine + 1 = p.stepsPerLine) (paper : r.paperLost = false)
    (going : ¬ s.EmitEnds p r) (supply : s.bands[p.band].c ≠ 0) : ∃ t, exec (.stepTimerExpiry .p) s = .next t
      ∧ t.chanP = s.chanP.step.waiting (min (min (s.chanP.k + 1) (topLevel s.profiles[p.profile])) (s.bands[p.band].c - 1))
      ∧ t.emit.record = some { r with stepsInLine := 0 }
      ∧ ∀ i, s.emit.strobing = none → s.emit.shifted = some i →
        (t.emit.store i).state = .strobing ∧ t.emit.group = 0 ∧ t.emit.latch = s.emit.shiftReg
          ∧ s.emit.latchPulse t.emit = true := by
  have run := emit_goes_on now moving timer boundary paper going
  rw [if_neg supply] at run
  generalize hw : (s.withChanP (s.chanP.step.waiting (min (min (s.chanP.k + 1) (topLevel s.profiles[p.profile]))
    (s.bands[p.band].c - 1)))).withEmitRecord { r with stepsInLine := 0 } = w at run
  obtain ⟨t, ht, f⟩ := leads_of_finish run
  have chan : w.tryLatch.chanP = s.chanP.step.waiting (min (min (s.chanP.k + 1) (topLevel s.profiles[p.profile]))
      (s.bands[p.band].c - 1)) := by
    rw [State.tryLatch_chanP, ← hw]
    rfl
  have stands := f.chanP.stands (by rw [chan]; nofun)
  have record : w.tryLatch.emit.record = some { r with stepsInLine := 0 } := by
    rw [State.tryLatch_record, ← hw]
    rfl
  refine ⟨t, ht, stands.trans chan, (congrArg EmitEngine.record f.emit).trans record, fun i cold shifted => ?_⟩
  have emit : w.emit = { s.emit with record := some { r with stepsInLine := 0 } } := by
    rw [← hw]
    rfl
  have latches := State.tryLatch_latches (s := w) (i := i) (by rw [emit]; exact cold) (by rw [emit]; exact shifted)
  obtain ⟨strobes, group, latch, -, pulse⟩ := w.emit.latchStore_strobes i
  have engine : t.emit = w.emit.latchStore i := by rw [f.emit, latches]; rfl
  rw [engine]
  refine ⟨strobes, group, latch.trans (by rw [emit]), ?_⟩
  have pulses := pulse (by rw [emit]; exact cold)
  rw [EmitEngine.latchPulse, show w.emit.strobing = s.emit.strobing by rw [emit]; rfl] at pulses
  exact pulses

theorem emit_tail (phase : r.phase = .tail) :
    (2 ≤ s.chanP.r → Leads (.stepTimerExpiry .p) s
      (s.withChanP (s.chanP.step.countStep.ramped s.profiles[p.profile])))
    ∧ (s.chanP.r ≤ 1 → ∃ t, exec (.stepTimerExpiry .p) s = .next t ∧ t.chanP.phase = s.chanP.step.phase
      ∧ t.chanP.state ≠ .moving ∧ (t.running .p).map (fun x => (x.result, x.figures))
        = some (.ok, [wordNat r.printed, if p.lineCount ≠ 0 then 0 else if s.bands[p.band].role = .copy then 2 else 1])) := by
  obtain ⟨active, record⟩ := State.emitNow_iff.mp now
  have step : s.stepEmit p r = s.stepTail p r := by simp only [State.stepEmit, phase]
  have left : (s.withChanP s.chanP.step.countStep).chanP.r = s.chanP.r - 1 := rfl
  constructor
  · intro more
    have run := emit_steps now moving timer (step.trans (if_neg (by rw [left]; omega)))
    rw [State.withEmitRecord_same (by exact record)] at run
    exact leads_of_finish run
  · intro last
    have run := emit_steps now moving timer (step.trans (if_pos (by rw [left]; omega)))
    have stopped := s.chanP.step.countStep.enterHolding_stopped
    obtain ⟨t, ht, phase, state, -, -, outcome⟩ := emitEnds (u := s) (x := s.chanP.step.countStep.enterHolding) run active
      stopped.2
    rw [stopped.1] at phase
    refine ⟨t, ht, phase, not_moving_of_stopped state, outcome.trans ?_⟩
    rw [State.okReason_code]

theorem emit_pauses (boundary : r.phase = .printing ∧ r.stepsInLine + 1 = p.stepsPerLine) (paper : r.paperLost = false)
    (going : ¬ s.EmitEnds p r) (supply : s.bands[p.band].c = 0) : Leads (.stepTimerExpiry .p) s ((s.withChanP { s.chanP.step with
        state := .paused, asked := s.chanP.holdLevel, holdTimer := none, stepTimer := none
        pauseTimer := if p.pauseLimit = 0 then none else some p.pauseLimit }).withEmitRecord { r with stepsInLine := 0 }) := by
  have run := emit_goes_on now moving timer boundary paper going
  rw [if_pos supply] at run
  exact leads_of_finish run

end

end Sys2Proof.Machine
end

section
/-! EMIT: the end of an open emit of a COPY band as a CAPTURE leaves the D queue (R116). -/

namespace Sys2Proof.Machine

open Sys2Proof

variable {s t u : State} {o : Order} {q : QueueId}

/-! ### What the other engines leave of the Emit Engine -/

/-- Channel P and the Emit Engine stand. -/
structure LeavesEmit (s t : State) : Prop where
  chanP : t.chanP = s.chanP
  emit : t.emit = s.emit

namespace LeavesEmit

theorem refl (s : State) : LeavesEmit s s := ⟨rfl, rfl⟩

theorem after (k : LeavesEmit t u) (chanP : t.chanP = s.chanP) (emit : t.emit = s.emit) : LeavesEmit s u :=
  ⟨k.chanP.trans chanP, k.emit.trans emit⟩

theorem endOrder (q : QueueId) (block : Block) (r : Result) (figures : List Word) :
    LeavesEmit s (s.endOrder q block r figures) :=
  ⟨State.chanP_of_besideReports (State.endOrder_besideReports ..), State.emit_of_besideReports (State.endOrder_besideReports ..)⟩

theorem captureFinish : LeavesEmit s s.captureFinish := by
  unfold State.captureFinish
  (repeat' split) <;> first
    | exact endOrder ..
    | exact refl s

theorem captureDecide (r : CaptureRecord) (result : Result) : LeavesEmit s (s.captureDecide r result) :=
  captureFinish.after (t := s.withCaptureRecord (r.decided result)) rfl rfl

theorem captureStop (r : CaptureRecord) (result : Result) : LeavesEmit s (s.captureStop r result) :=
  (captureDecide r result).after (t := s.withChanD s.chanD.hardStop) rfl rfl

theorem beginLine (p : CaptureParams) (r : CaptureRecord) : LeavesEmit s (s.beginLine p r) := by
  unfold State.beginLine
  split <;> exact ⟨rfl, rfl⟩

theorem paceCapture (p : CaptureParams) (r : CaptureRecord) : LeavesEmit s (s.paceCapture p r) := by
  unfold State.paceCapture
  split
  · exact ⟨rfl, rfl⟩
  · unfold State.captureProceed
    exact (beginLine ..).after rfl rfl

theorem enterEject (p : CaptureParams) (r : CaptureRecord) : LeavesEmit s (s.enterEject p r) := by
  unfold State.enterEject
  split
  · exact (captureDecide ..).after rfl rfl
  · exact ⟨rfl, rfl⟩

theorem tailBoundary (p : CaptureParams) (r : CaptureRecord) : LeavesEmit s (s.tailBoundary p r) := by
  unfold State.tailBoundary
  (repeat' split)
  · exact enterEject ..
  · exact enterEject ..
  · exact paceCapture ..

theorem scanBoundary (p : CaptureParams) (r : CaptureRecord) : LeavesEmit s (s.scanBoundary p r) := by
  unfold State.scanBoundary
  (repeat' split)
  · exact tailBoundary ..
  · exact enterEject ..
  · exact captureStop ..
  · exact paceCapture ..

theorem enterSkip (p : CaptureParams) (r : CaptureRecord) : LeavesEmit s (s.enterSkip p r) := by
  unfold State.enterSkip
  dsimp only
  split
  · unfold State.enterPaced
    exact (scanBoundary ..).after rfl rfl
  · exact ⟨rfl, rfl⟩

theorem startCapture (p : CaptureParams) : LeavesEmit s (s.startCapture p) := by
  unfold State.startCapture
  dsimp only
  (repeat' split)
  · exact captureDecide ..
  · exact captureDecide ..
  · exact (enterSkip ..).after rfl rfl
  · exact ⟨rfl, rfl⟩

theorem startMove (p : MoveParams) : LeavesEmit s (s.startMove .d p) := by
  unfold State.startMove
  split
  · exact endOrder ..
  · exact ⟨rfl, rfl⟩

end LeavesEmit

/-- An order of another queue than that of channel P leaves channel P and its engine as it starts. -/
theorem State.startOrder_leavesEmit (away : o.work.queue ≠ .p) : LeavesEmit s (s.startOrder q o) := by
  unfold State.startOrder
  split
  · exact LeavesEmit.endOrder ..
  · cases hw : o.work with
    | capture p => exact LeavesEmit.startCapture p
    | emit p => exact absurd (by rw [hw]; rfl) away
    | transfer p => exact ⟨rfl, rfl⟩
    | move p =>
      cases hc : p.chan with
      | d =>
        change LeavesEmit s (s.startMove p.chan p)
        rw [hc]
        exact LeavesEmit.startMove p
      | p =>
        refine absurd ?_ away
        rw [hw, Work.queue, hc]
        rfl

theorem State.startNext_leavesEmit (own : s.WaitersOwn) (away : q ≠ .p) : LeavesEmit s (s.startNext q) := by
  unfold State.startNext
  split
  · next o rest _ first =>
    have queue := own q o (by rw [first]; exact List.mem_cons_self)
    exact (State.startOrder_leavesEmit (queue ▸ away)).after (t := s.withQueue q { running := some o.first, waiting := rest })
      rfl rfl
  · exact LeavesEmit.refl s

/-- With an order running in the P queue, the order in the dispatch place leaves channel P and its engine. -/
theorem State.dispatch_leavesEmit (own : s.WaitersOwn) (busy : s.running .p ≠ none) : LeavesEmit s s.dispatch := by
  cases place : s.intake.dispatch with
  | none =>
    rw [State.dispatch_empty place]
    exact LeavesEmit.refl s
  | some x =>
    by_cases room : (s.intake.queue x.work.queue).waiting.length < 4
    · rw [State.dispatch_room place room]
      by_cases same : x.work.queue = .p
      · have running : (s.withIntake (s.intake.placed x)).running x.work.queue = s.running x.work.queue :=
          (congrArg Queue.running (Intake.placed_queue (o := x) s.intake) :)
        rw [State.startNext_running (by rw [running, same]; exact busy)]
        exact ⟨rfl, rfl⟩
      · exact (State.startNext_leavesEmit (State.placed_waiters own) same).after rfl rfl
    · rw [State.dispatch_full place (Nat.not_lt.mp room)]
      exact LeavesEmit.refl s

/-! ### Stopped channels -/

theorem Channel.stopped_enterHolding (x : Channel) : x.Stopped x.enterHolding := by
  unfold Channel.enterHolding Channel.startHold
  split
  · exact ⟨.inr rfl, ⟨rfl, rfl⟩, rfl⟩
  · exact ⟨.inl rfl, ⟨rfl, rfl⟩, rfl⟩

theorem Channel.Stopped.follows {c d x : Channel} (h : x.Stopped c) (f : c.Follows d) : x.Stopped d := by
  rcases f with rfl | rfl
  · exact h
  · unfold Channel.deEnergise
    split
    · exact ⟨.inr rfl, ⟨rfl, rfl⟩, h.phase⟩
    · exact h

/-! ### A CAPTURE leaves (R116, R36, R33) -/

section
variable {p : EmitParams} {r : EmitRecord} {ro : Running} {pc : CaptureParams} (now : s.emitNow = some (p, r))
  (paused : s.chanP.state = .paused) (opens : p.lineCount = 0) (work : ro.order.work = .capture pc)
  (copy : s.bands[p.band].role = .copy) (empty : s.bands[p.band].c = 0)
  (others : ∀ o ∈ s.intake.dQueue.waiting, ∀ y, o.work = .capture y → y.band ≠ p.band)

/-- The state in which the ended CAPTURE has left its queue, before the open emit tests its end. -/
def State.captureLeft (s : State) (ro : Running) : State :=
  let v := (s.withSlot ro.order.slot { s.intake.slot ro.order.slot with state := .free }).withRunning .d none
  v.withCapture { v.capture with record := none }

theorem State.captureLeft_emitNow : (s.captureLeft ro).emitNow = s.emitNow := rfl

include now paused opens work copy empty others

theorem State.left_tails : s.left .d ro = (s.captureLeft ro).enterTail p r := by
  have here : (s.captureLeft ro).emitNow = some (p, r) := now
  have gone : (s.captureLeft ro).CaptureGone p.band := by
    rintro o (runs | waits)
    · cases runs
    · exact others o waits
  have ends : (s.captureLeft ro).openEnds p r = true := State.openEnds_iff.mpr ⟨empty, .inr ⟨copy, gone⟩⟩
  have left : s.left .d ro = (s.captureLeft ro).testOpenEnd := by
    simp only [State.left, work]
    rfl
  rw [left]
  simp only [State.testOpenEnd, here]
  exact if_pos ⟨paused, opens, ends⟩

/-- The open emit ends, or enters TAIL at level 0 (R116, R117). -/
theorem State.left_emit :
    (p.tailFeed = 0 → (s.left .d ro).chanP = s.chanP.enterHolding
      ∧ ((s.left .d ro).running .p).map (fun x => (x.result, x.figures)) = some (.ok, [wordNat r.printed, 2]))
    ∧ (p.tailFeed ≠ 0 → (s.left .d ro).emit = { s.emit with record := some { r with phase := .tail } }
      ∧ (s.left .d ro).chanP = { s.chanP with
        k := 0, r := p.tailFeed, atLevel := 0, paced := none, state := .moving, asked := s.chanP.runLevel
        holdTimer := none, pauseTimer := none, stepTimer := some (intervalAt s.profiles[p.profile] 0) }) := by
  rw [State.left_tails now paused opens work copy empty others, State.enterTail]
  constructor
  · intro none
    rw [if_pos none]
    obtain ⟨beside, outcome⟩ := State.emitDecide_ends (s := (s.captureLeft ro).withChanP s.chanP.enterHolding) (p := p)
      (State.emitNow_iff.mp now).1 r .ok ((s.captureLeft ro).okReason p)
    refine ⟨(State.chanP_of_besideReports beside).trans rfl, outcome.trans ?_⟩
    rw [State.okReason_code, if_neg (not_not.mpr opens), if_pos (show (s.captureLeft ro).bands[p.band].role = .copy from copy)]
  · intro some
    have still : ¬ (s.captureLeft ro).chanP.state = .moving := by
      rw [show (s.captureLeft ro).chanP = s.chanP from rfl, paused]
      nofun
    rw [if_neg some, if_neg still]
    exact ⟨rfl, rfl⟩

end

theorem State.left_waiters (legal : QueuesLegal s) {ro : Running} : (s.left q ro).WaitersOwn := by
  intro r o mem
  have orders := congrArg Prod.snd (State.left_orders (s := s) (q := q) (ro := ro) r)
  rw [show ((s.left q ro).intake.queue r).waiting = _ from orders] at mem
  split at mem
  · next same => exact legal.waiting r o (same ▸ mem)
  · exact legal.waiting r o mem

/-- As an ended order leaves the D queue, the order that runs in the P queue stands with channel P and its engine. -/
theorem State.leaveQueue_leavesEmit (legal : QueuesLegal s) {ro : Running} (busy : s.running .p ≠ none) :
    LeavesEmit (s.left .d ro) (s.leaveQueue .d ro) ∧ (s.leaveQueue .d ro).running .p = (s.left .d ro).running .p := by
  have own := State.left_waiters (q := .d) legal (ro := ro)
  have starts := State.startNext_leavesEmit own (q := .d) nofun
  have queue := State.startNext_queue_other own (q := .d) (r := .p) nofun
  have running : ((s.left .d ro).startNext .d).running .p = (s.left .d ro).running .p := congrArg Queue.running queue
  have orders := State.left_orders (s := s) (q := .d) (ro := ro) .p
  rw [if_neg nofun] at orders
  have still : ((s.left .d ro).startNext .d).running .p ≠ none := by
    rw [running, ne_eq, State.running_eq_none_iff, orders, ← State.running_eq_none_iff]
    exact busy
  have own' : ((s.left .d ro).startNext .d).WaitersOwn := by
    intro r o mem
    by_cases same : r = .d
    · subst same
      have prefixed : o ∈ ((s.left .d ro).intake.queue .d).waiting := by
        revert mem
        unfold State.startNext
        split
        · next o' rest _ first =>
          intro mem
          have orders := congrArg Prod.snd (State.startOrder_orders (s := (s.left .d ro).withQueue .d
            { running := some o'.first, waiting := rest }) (q := .d) (o := o') .d)
          rw [show (((s.left .d ro).withQueue .d { running := some o'.first, waiting := rest }).orders .d).2 = rest
            from rfl] at orders
          rw [first]
          exact List.mem_cons_of_mem _ (orders ▸ mem)
        · exact id
      exact own _ o prefixed
    · rw [State.startNext_queue_other own same] at mem
      exact own r o mem
  have dispatched := State.dispatch_leavesEmit own' still
  refine ⟨⟨dispatched.chanP.trans starts.chanP, dispatched.emit.trans starts.emit⟩, ?_⟩
  rw [State.leaveQueue_eq, (State.dispatch_stands own' still).1, running]

/-- Settles O54. -/
theorem emitsStepAndPace : Obligations.EmitsStepAndPace := by
  refine ⟨fun s p r now moving timer => ?steps, fun s p r ro pc w legal now paused opens copy empty grant owner running
    entered work others => ?left⟩
  case steps =>
    exact ⟨emit_within now moving timer, emit_lost now moving timer, emit_tails now moving timer,
      fun boundary running supply => emit_pauses now moving timer boundary running.1 running.2 supply,
      fun boundary running supply => emit_waits now moving timer boundary running.1 running.2 supply,
      (fun phase => (emit_tail now moving timer phase).1), fun phase => (emit_tail now moving timer phase).2⟩
  case left =>
    have run := exec_finalWriteEnd_final grant
    generalize hv : (s.store (wordBytes (s.slotAddr w.slot) (orderHead w.kind .done w.result))).freePort = v at run
    have here : v.running .d = some ro := by rw [← hv]; exact running
    have leaves : v.endFinalWrite w = v.leaveQueue .d ro := by
      simp only [State.endFinalWrite, owner, here, if_pos entered]
    have others' : ∀ o ∈ v.intake.dQueue.waiting, ∀ y, o.work = .capture y → y.band ≠ p.band := by
      rw [← hv]
      intro o mem y hy
      rcases others o mem with ⟨m, hm, -⟩ | ⟨z, hz, away⟩
      · rw [hm] at hy; cases hy
      · rw [hz] at hy; cases hy; exact away
    have now' : v.emitNow = some (p, r) := by rw [← hv]; exact now
    obtain ⟨ends, tails⟩ := State.left_emit (s := v) (ro := ro) now' (by rw [← hv]; exact paused) opens work
      (by rw [← hv]; exact copy) (by rw [← hv]; exact empty) others'
    obtain ⟨ro', running', -, -⟩ := State.running_of_active (State.emitNow_iff.mp now').1
    obtain ⟨stands, outcome⟩ := State.leaveQueue_leavesEmit (s := v) (ro := ro) (legal.congr (by rw [← hv]; rfl))
      (by rw [running']; nofun)
    have chanP : v.chanP = s.chanP := by rw [← hv]; rfl
    have emit : v.emit = s.emit := by rw [← hv]; rfl
    have profiles : v.profiles = s.profiles := by rw [← hv]; rfl
    rw [leaves] at run
    obtain ⟨t, ht, f⟩ := leads_of_finish run
    refine ⟨fun none => ?_, fun some => ?_⟩
    · obtain ⟨chan, fixed⟩ := ends none
      have stopped : s.chanP.Stopped (v.leaveQueue .d ro).chanP := by
        rw [stands.chanP, chan, chanP]
        exact Channel.stopped_enterHolding _
      refine ⟨t, ht, stopped.follows f.chanP, ?_⟩
      rw [f.running (q := .p) nofun, outcome]
      exact fixed
    · obtain ⟨engine, chan⟩ := tails some
      have moves : (v.leaveQueue .d ro).chanP.state ≠ .holding := by
        rw [stands.chanP, chan]
        nofun
      refine ⟨t, ht, ?_, ?_⟩
      · rw [f.emit, stands.emit, engine]
      · rw [f.chanP.stands moves, stands.chanP, chan, chanP, profiles]

end Sys2Proof.Machine
end

section
/-! CLOCKING_END and WRITE_BACK_END (R55, R94, R97): the pixels of a line, its write-back, and the request that follows. -/

namespace Sys2Proof.Machine

open Sys2Proof

variable {s t : State} {p : CaptureParams} {r : CaptureRecord} {i : StoreId} {line : Nat} {words : List Word}

/-! ### Pixels (R94) -/

/-- A number read off bit by bit, the first bit the highest. -/
theorem foldl_bits_testBit (f : Nat → Bool) (m j : Nat) :
    ((List.range m).foldl (fun acc i => 2 * acc + (f i).toNat) 0).testBit j = (decide (j < m) && f (m - 1 - j)) := by
  induction m generalizing j with
  | zero => simp
  | succ m ih =>
    rw [List.range_succ, List.foldl_append]
    simp only [List.foldl_cons, List.foldl_nil]
    cases j with
    | zero =>
      cases h : f m <;> simp [h]
    | succ j =>
      have half (n : Nat) : (2 * n + (f m).toNat) / 2 = n := by
        have := Bool.toNat_lt (f m)
        omega
      rw [Nat.testBit_succ, half, ih]
      congr 1
      · simp
      · congr 1
        omega

/-- Pixel n of a word stands at bit 15 - n. -/
theorem pixelWord_bit (pixels : List Bool) (m : Nat) {k : Nat} (hk : k < 16) :
    (pixelWord pixels m).getLsbD (15 - k) = pixelAt pixels (16 * m + k) := by
  have bits := foldl_bits_testBit (fun i => pixelAt pixels (16 * m + i)) 16 (15 - k)
  have place : 16 - 1 - (15 - k) = k := by omega
  rw [place, decide_eq_true (show 15 - k < 16 by omega), Bool.true_and] at bits
  rw [pixelWord, wordNat, BitVec.getLsbD_ofNat, decide_eq_true (show 15 - k < 16 by omega), Bool.true_and]
  exact bits

theorem pixelWords_bit (pixels : List Bool) (width : Nat) {n : Nat} (hn : n < 16 * (pixelWords pixels width).length) :
    ((pixelWords pixels width).getD (n / 16) 0).getLsbD (15 - n % 16)
      = if n < pixels.length then pixels.getD n false else Config.unsampledPixel n := by
  have within : n / 16 < width / 2 := by
    rw [pixelWords, List.length_map, List.length_range] at hn
    omega
  have word : (pixelWords pixels width).getD (n / 16) 0 = pixelWord pixels (n / 16) := by
    simp [pixelWords, List.getD_eq_getElem?_getD, within]
  rw [word, pixelWord_bit pixels _ (Nat.mod_lt n (by omega)), Nat.div_add_mod, pixelAt]
  split
  · next h => simp [List.getD_eq_getElem?_getD, h]
  · next h => exact List.getD_eq_default _ _ (Nat.not_lt.mp h)

/-! ### The request of a write-back (R97) -/

theorem State.settleCapture_side (s : State) : s.settleCapture.settleEmit.settleProcessor.port.captureReq
    = s.settleCapture.port.captureReq := by
  obtain ⟨r', hr'⟩ := s.settleCapture.settleEmit_eq
  obtain ⟨r'', hr''⟩ := s.settleCapture.settleEmit.settleProcessor_eq
  rw [hr'', hr']
  rfl

theorem State.settleIntake_captureReq (s : State) : s.settleIntake.port.captureReq = s.port.captureReq := by
  unfold State.settleIntake State.requestFetch
  dsimp only
  (repeat' split) <;> rfl

theorem State.settleLapse_captureReq (s : State) : s.settleLapse.port.captureReq = s.port.captureReq := by
  unfold State.settleLapse
  dsimp only
  (repeat' split) <;> rfl

/-- With no request and no grant the Capture Engine asks the write-back of the WRITING store with the older claim. -/
theorem State.settle_captureReq (free : s.port.captureReq = none) (grant : ∀ j, s.port.grant ≠ some (.writeBack j)) :
    s.settle.port.captureReq = s.capture.writeBackStore := by
  have port := s.settleMover_leaves.port
  have request : s.settleMover.port.captureReq = none := (congrArg Port.captureReq port).trans free
  have granted : s.settleMover.captureGranted = false := by
    have same : s.settleMover.port.grant = s.port.grant := (congrArg Port.grant port :)
    rw [State.captureGranted, same]
    split
    · next h => exact absurd h (grant _)
    · rfl
  have asks : s.settleMover.settleCapture.port.captureReq = s.settleMover.capture.writeBackStore := by
    rw [State.settleCapture, request, granted]
    rfl
  have settled : s.settle.port.captureReq = s.settleMover.settleCapture.port.captureReq := by
    unfold State.settle
    rw [State.settleLapse_captureReq, State.settleIntake_captureReq, State.settleTake_port, State.settleCapture_side]
  rw [settled, asks, (State.settleMover_follows s).capture]

theorem CaptureEngine.writeBackStore_of {c : CaptureEngine} (writes : c.store i = .writing line words)
    (alone : ∀ l ws, c.store i.other ≠ .writing l ws) : c.writeBackStore = some i := by
  unfold CaptureEngine.writeBackStore
  by_cases first : c.older = i
  · rw [first, writes]
  · have second : c.older = i.other := by cases i <;> cases h : c.older <;> simp_all [StoreId.other]
    have back : i.other.other = i := by cases i <;> rfl
    rw [second, back, writes]
    cases h : c.store i.other with
    | writing l ws => exact absurd h (alone l ws)
    | clocking l => rfl
    | empty => rfl

theorem CaptureEngine.writeBackStore_none {c : CaptureEngine} (one : ∀ l ws, c.store i ≠ .writing l ws)
    (other : ∀ l ws, c.store i.other ≠ .writing l ws) : c.writeBackStore = none := by
  have both (j : StoreId) : ∀ l ws, c.store j ≠ .writing l ws := by
    cases i <;> cases j <;> assumption
  unfold CaptureEngine.writeBackStore
  split
  · next l ws h => exact absurd h (both _ l ws)
  · next l ws h _ => exact absurd h (both _ l ws)
  · rfl

/-! ### The line is captured (R55, R97) -/

theorem CaptureEngine.store_withStore (c : CaptureEngine) (i : StoreId) (x : CaptureStore) :
    (c.withStore i x).store i = x ∧ (c.withStore i x).store i.other = c.store i.other := by
  cases i <;> exact ⟨rfl, rfl⟩

theorem exec_clockingEnd (now : s.captureNow = some (p, r)) (clocks : s.capture.clocking = some i)
    (store : s.capture.store i = .clocking line) (pixels : List Bool) : exec (.clockingEnd pixels) s
      = finish (s.withCapture (s.capture.withStore i (.writing line (pixelWords pixels s.bands[p.band].width)))) := by
  change execClockingEnd pixels s = _
  simp only [execClockingEnd, State.clockingLine, now, clocks, store]

/-- The memory after the write-back of a line, the memory free for the next grant (R97). -/
def State.written (s : State) (b : Fin 4) (line : Nat) (words : List Word) : State :=
  (s.store (wordTransfers (s.lineAddr b line) words).flatten).freePort

theorem exec_writeBackEnd (now : s.captureNow = some (p, r)) (grant : s.port.grant = some (.writeBack i))
    (store : s.capture.store i = .writing line words) :
    exec .writeBackEnd s = finish ((s.written p.band line words).lineCaptured p r i words) := by
  change execWriteBackEnd s = _
  simp only [execWriteBackEnd, State.writtenLine, now, grant, store]
  simp only [State.endGrant, State.grantTransfers, State.writeBackTransfers, now, store]
  rfl

/-- The marks of a band. -/
def Band.marks (b : Band) : Nat × Nat × Nat × Nat × Nat := (b.c, b.f, b.d, b.filling, b.draining)

/-- The notice test leaves all of a band but whether it is armed (R67). -/
theorem Band.noticeTest_keeps (b : Band) (up : Bool) : ∃ armed, (b.noticeTest up).1 = { b with armed := armed } := by
  by_cases high : b.raisesHigh up
  · exact ⟨_, congrArg Prod.fst (Band.noticeTest_high high)⟩
  · by_cases low : b.raisesLow up
    · exact ⟨_, congrArg Prod.fst (Band.noticeTest_low low)⟩
    · by_cases arms : b.armsAgain up
      · exact ⟨_, congrArg Prod.fst (Band.noticeTest_arms arms)⟩
      · exact ⟨b.armed, congrArg Prod.fst (Band.noticeTest_none high low arms)⟩

theorem State.withCount_bands (b : Fin 4) (y : Band) (up : Bool) :
    ∃ armed, (s.withCount b y up).bands = s.bands.set b { y with armed := armed } := by
  obtain ⟨armed, test⟩ := y.noticeTest_keeps up
  refine ⟨armed, (State.bands_of_besideReports (State.withCount_beside b y up)).trans ?_⟩
  rw [test]
  rfl

end Sys2Proof.Machine
end

section
/-! WRITE_BACK_END as a command (R16, R55, R66, R97). -/

namespace Sys2Proof.Machine

open Sys2Proof

variable {s t : State} {p : CaptureParams} {r : CaptureRecord} {i : StoreId} {line : Nat} {words : List Word}

/-! ### Operations beside the captured line -/

/-- A state without the Emit Engine, channel P, the Intake and the reports. -/
def State.besidePrint (s : State) : State :=
  { s with emit := EmitEngine.reset, chanP := Channel.reset, intake := Intake.reset, reports := Reports.reset }

theorem State.resumeP_besidePrint (b : Fin 4) : (s.resumeP b).besidePrint = s.besidePrint := by
  unfold State.resumeP State.emitProceed State.tryLatch
  (repeat' split) <;> rfl

theorem State.captureFinish_besideReports : s.captureFinish.besideReports = s.besideReports := by
  unfold State.captureFinish
  (repeat' split) <;> simp

/-- The end of a capture and the resumption of channel P leave the bands, the Capture Engine, the memory port and the
processor's access. -/
theorem State.resume_finish (b : Fin 4) : ((s.resumeP b).captureFinish).bands = s.bands
    ∧ ((s.resumeP b).captureFinish).capture = s.capture ∧ ((s.resumeP b).captureFinish).port = s.port
    ∧ ((s.resumeP b).captureFinish).passage.cpu = s.passage.cpu := by
  have finish : (s.resumeP b).captureFinish.besideReports = (s.resumeP b).besideReports := State.captureFinish_besideReports
  have resume := s.resumeP_besidePrint b
  exact ⟨(State.bands_of_besideReports finish).trans (congrArg State.bands resume :),
    (State.capture_of_besideReports finish).trans (congrArg State.capture resume :),
    (State.port_of_besideReports finish).trans (congrArg State.port resume :),
    (State.cpu_of_besideReports finish).trans (congrArg (fun v : State => v.passage.cpu) resume :)⟩

theorem State.releaseMover_sides (b : Fin 4) (line : Nat) : (s.releaseMover b line).bands = s.bands
    ∧ (s.releaseMover b line).capture = s.capture ∧ (s.releaseMover b line).port = s.port
    ∧ (s.releaseMover b line).passage = s.passage := by
  unfold State.releaseMover
  split <;> exact ⟨rfl, rfl, rfl, rfl⟩

theorem State.releaseLine_sides (b : Fin 4) (line : Nat) : (s.releaseLine b line).bands = s.bands
    ∧ (s.releaseLine b line).capture = s.capture ∧ (s.releaseLine b line).port = s.port := by
  have cpu : (s.releaseLine b line).besideFault = (s.releaseMover b line).besideFault := State.releaseCpu_besideFault _
  obtain ⟨bands, capture, port, -⟩ := s.releaseMover_sides b line
  exact ⟨(State.bands_of_besideFault cpu).trans bands, (State.capture_of_besideFault cpu).trans capture,
    (State.port_of_besideFault cpu).trans port⟩

/-! ### The line is captured -/

/-- The state with the line's marks moved and its store EMPTY (R55, R97). -/
def State.lineCounted (s : State) (p : CaptureParams) (r : CaptureRecord) (i : StoreId) (words : List Word) : State :=
  (s.withCapture { s.capture.withStore i .empty with record := some (r.lineWritten words) }).withCount p.band
    s.bands[p.band].writeBackEnd true

theorem State.lineCaptured_eq : s.lineCaptured p r i words
    = ((if s.bands[p.band].role = .capture then (s.lineCounted p r i words).releaseLine p.band s.bands[p.band].f
        else s.lineCounted p r i words).resumeP p.band).captureFinish := rfl

theorem State.withCount_port_captureReq (b : Fin 4) (y : Band) (up : Bool) :
    (s.withCount b y up).port.captureReq = s.port.captureReq ∧ (s.withCount b y up).port.grant = s.port.grant := by
  have port := State.port_of_besideReports (s.withCount_beside b y up)
  rw [port]
  exact ⟨rfl, rfl⟩

theorem State.lineCaptured_sides : ∃ armed,
    (s.lineCaptured p r i words).bands = s.bands.set p.band { s.bands[p.band].writeBackEnd with armed := armed }
    ∧ (s.lineCaptured p r i words).capture = { s.capture.withStore i .empty with record := some (r.lineWritten words) }
    ∧ (s.lineCaptured p r i words).port.captureReq = s.port.captureReq
    ∧ (s.lineCaptured p r i words).port.grant = s.port.grant := by
  obtain ⟨armed, bands⟩ := State.withCount_bands (s := s.withCapture { s.capture.withStore i .empty with
    record := some (r.lineWritten words) }) p.band s.bands[p.band].writeBackEnd true
  have capture : (s.lineCounted p r i words).capture
      = { s.capture.withStore i .empty with record := some (r.lineWritten words) } := State.withCount_capture ..
  obtain ⟨request, grant⟩ := State.withCount_port_captureReq (s := s.withCapture { s.capture.withStore i .empty with
    record := some (r.lineWritten words) }) p.band s.bands[p.band].writeBackEnd true
  refine ⟨armed, ?_⟩
  rw [State.lineCaptured_eq]
  split
  · obtain ⟨bands', capture', port'⟩ := (s.lineCounted p r i words).releaseLine_sides p.band s.bands[p.band].f
    obtain ⟨bands'', capture'', port'', -⟩ :=
      ((s.lineCounted p r i words).releaseLine p.band s.bands[p.band].f).resume_finish p.band
    exact ⟨bands''.trans (bands'.trans bands), capture''.trans (capture'.trans capture),
      (congrArg Port.captureReq (port''.trans port')).trans request, (congrArg Port.grant (port''.trans port')).trans grant⟩
  · obtain ⟨bands'', capture'', port'', -⟩ := (s.lineCounted p r i words).resume_finish p.band
    exact ⟨bands''.trans bands, capture''.trans capture, (congrArg Port.captureReq port'').trans request,
      (congrArg Port.grant port'').trans grant⟩

/-! ### A processor access held on the line (R16, R66) -/

/-- A line that is FULL lets an access of a CAPTURE band pass. -/
theorem Band.judge_full {x : Band} (role : x.role = .capture) {line offset : Nat} (full : x.lineState line = .full)
    (b : Fin 4) (op : AccessOp) : ∃ obs, x.judge b line offset op = .pass obs := by
  by_cases closing : x.closing offset op = true ∧ opIsWrite op = false
  · exact ⟨_, Band.judge_capture_closing role full closing.1 closing.2⟩
  · refine ⟨_, Band.judge_capture_plain role full ?_⟩
    rcases not_and_or.mp closing with inside | writes
    · exact .inl (Bool.eq_false_iff.mpr inside)
    · exact .inr (by simpa using writes)

/-- Where an address lies in the lines does not rest on the marks (R10, R51). -/
theorem State.bandPlace_marks {b : Fin 4} {y : Band} (windows : t.windows = s.windows) (bands : t.bands = s.bands.set b y)
    (role : y.role = s.bands[b].role) (entry : y.entry = s.bands[b].entry) (lines : y.lines = s.bands[b].lines)
    (pitch : y.pitch = s.bands[b].pitch) (a : Nat) : t.bandPlace a = s.bandPlace a := by
  have layout (n : Fin 4) : t.bands[n].role = s.bands[n].role ∧ t.bands[n].entry = s.bands[n].entry
      ∧ t.bands[n].lines = s.bands[n].lines ∧ t.bands[n].pitch = s.bands[n].pitch := by
    rw [bands]
    by_cases same : n = b
    · subst same
      simp [role, entry, lines, pitch]
    · have away : (s.bands.set b y)[n] = s.bands[n] := Vector.getElem_set_ne _ _ fun e => same (Fin.ext e.symm)
      rw [away]
      exact ⟨rfl, rfl, rfl, rfl⟩
  have at' : t.windowAt a = s.windowAt a := by rw [State.windowAt, windows, State.windowAt]
  simp only [State.bandPlace, at', windows]
  cases s.windowAt a with
  | none => rfl
  | some e =>
    obtain ⟨role, entry, lines, pitch⟩ := layout s.windows[e].band
    simp only [role, entry, lines, pitch]

theorem State.ReachesWindows.congr {a : Access} (h : s.ReachesWindows a)
    (same : { t.passage with cpu := none, unposted := 0 } = { s.passage with cpu := none, unposted := 0 }) : t.ReachesWindows a := by
  have mode : t.passage.mode = s.passage.mode :=
    (congrArg Passage.mode same :)
  have overlay : t.passage.overlayLength = s.passage.overlayLength :=
    (congrArg Passage.overlayLength same :)
  have guard : t.passage.guard = s.passage.guard :=
    (congrArg Passage.guard same :)
  have image : t.passage.imageLength = s.passage.imageLength :=
    (congrArg Passage.imageLength same :)
  have memory : t.passage.installedMb = s.passage.installedMb :=
    (congrArg Passage.installedMb same :)
  refine ⟨?_, h.rom, ?_, ?_⟩
  · rw [State.Overlaid, mode, overlay]
    exact h.overlay
  · rw [State.installed, memory]
    exact h.memory
  · rw [mode, guard, image]
    exact h.image

/-- What the count of the line leaves of the judgement of a processor access. -/
theorem State.lineCounted_sides : ∃ armed,
    (s.lineCounted p r i words).bands = s.bands.set p.band { s.bands[p.band].writeBackEnd with armed := armed }
    ∧ (s.lineCounted p r i words).windows = s.windows ∧ (s.lineCounted p r i words).power = s.power
    ∧ { (s.lineCounted p r i words).passage with cpu := none, unposted := 0 } = { s.passage with cpu := none, unposted := 0 } := by
  obtain ⟨armed, bands⟩ := State.withCount_bands (s := s.withCapture { s.capture.withStore i .empty with
    record := some (r.lineWritten words) }) p.band s.bands[p.band].writeBackEnd true
  have beside := State.withCount_beside (s := s.withCapture { s.capture.withStore i .empty with
    record := some (r.lineWritten words) }) p.band s.bands[p.band].writeBackEnd true
  exact ⟨armed, bands, (congrArg State.windows beside :), (congrArg State.power beside :),
    (congrArg (fun v : State => { v.passage with cpu := none, unposted := 0 }) beside :)⟩

section
variable {x : CpuAccess} {e : Fin 8} {offset : Nat} (legal : s.bands[p.band].Legal) (role : s.bands[p.band].role = .capture)
  (fills : 0 < s.bands[p.band].filling) (hx : s.passage.cpu = some x) (held : x.status = .held (.line p.band s.bands[p.band].f))
  (reaches : s.ReachesWindows x.acc) (rest : s.restAddress ≠ some x.acc.at) (window : s.windowAt x.acc.at = some e)
  (kind : s.windows[e].kind = .band) (place : s.bandPlace x.acc.at = some (p.band, s.bands[p.band].f, offset))
include legal role fills hx held reaches rest window kind place

/-- A processor access held on the line of a CAPTURE band passes once the line is FULL. -/
theorem State.lineCaptured_releases : ∃ obs,
    s.bands[p.band].writeBackEnd.judge p.band s.bands[p.band].f offset x.acc.op = .pass obs
    ∧ ((s.lineCaptured p r i words).passage.cpu).map (fun y => (y.acc, y.status))
      = some (x.acc, .passing (.band p.band (some obs))) := by
  have fits : s.bands[p.band].f < s.bands[p.band].lines := by
    have room := legal.room
    rw [legal.ring]
    exact Nat.mod_lt _ (by omega)
  have full := legal.lineState_writeBackEnd fits fills
  rw [if_pos rfl] at full
  have role' : s.bands[p.band].writeBackEnd.role = .capture := by rw [Band.writeBackEnd_of fills]; exact role
  obtain ⟨obs, judge⟩ := Band.judge_full role' full (offset := offset) p.band x.acc.op
  refine ⟨obs, judge, ?_⟩
  obtain ⟨armed, bands, windows, power, passage⟩ := State.lineCounted_sides (s := s) (p := p) (r := r) (i := i) (words := words)
  have cpu : (s.lineCounted p r i words).passage.cpu = some x := by
    have beside := State.withCount_beside (s := s.withCapture { s.capture.withStore i .empty with
      record := some (r.lineWritten words) }) p.band s.bands[p.band].writeBackEnd true
    refine (State.cpu_of_besideReports beside).trans (State.judgeAnew_cpu_stays (by exact hx) (.inl fun judged h => ?_))
    rw [held] at h
    cases h
  generalize hw : s.lineCounted p r i words = w at bands windows power passage cpu
  obtain ⟨bands', -, -, passage'⟩ := w.releaseMover_sides p.band s.bands[p.band].f
  have windows' : (w.releaseMover p.band s.bands[p.band].f).windows = w.windows := by
    unfold State.releaseMover
    split <;> rfl
  have power' : (w.releaseMover p.band s.bands[p.band].f).power = w.power := by
    unfold State.releaseMover
    split <;> rfl
  generalize hv : w.releaseMover p.band s.bands[p.band].f = v at bands' passage' windows' power'
  have at' : v.windowAt x.acc.at = some e := by
    rw [State.windowAt, windows', windows]
    exact window
  have place' : v.bandPlace x.acc.at = some (p.band, s.bands[p.band].f, offset) := by
    rw [State.bandPlace_marks (s := s) (windows'.trans windows) (bands'.trans bands)]
    · exact place
    all_goals rw [Band.writeBackEnd_of fills]
  have judged : v.bands[p.band].judge p.band s.bands[p.band].f offset x.acc.op = .pass obs := by
    have same : v.bands[p.band] = { s.bands[p.band].writeBackEnd with armed := armed } := by
      rw [bands', bands]
      simp
    rw [same]
    exact judge
  have rests : v.restAddress ≠ some x.acc.at := by
    rw [State.restAddress, power', power]
    exact rest
  have passes : v.classify .processor x.acc = .pass (.band p.band (some obs)) := by
    rw [State.classify_band (reaches.congr (by rw [passage']; exact passage)) rests at'
      (by rw [windows', windows]; exact kind), State.bandTreatment_pass place' judged]
  have released := State.releaseCpu_passes (s := v) (by rw [passage']; exact cpu) held passes
  rw [State.lineCaptured_eq, if_pos role, hw, (State.resume_finish p.band).2.2.2, State.releaseLine, hv, released]
  rfl

end

/-- Settles O53. -/
theorem linesAreCaptured : Obligations.LinesAreCaptured := by
  intro s p r i now
  refine ⟨fun line pixels clocks store => ?pixels, fun line pixels clocks store free grant alone => ?asks,
    fun line words grant store free => ⟨fun l ws other => ?older, fun alone => ?none⟩,
    fun line words grant store => ?written, fun line words x e offset grant store legal role fills hx held reaches rest
      window kind place => ?released⟩
  case pixels =>
    refine ⟨_, leads_of_finish (exec_clockingEnd now clocks store pixels), ?_, fun n hn => pixelWords_bit _ _ hn⟩
    rw [pixelWords, List.length_map, List.length_range]
  case asks =>
    refine ⟨_, exec_clockingEnd now clocks store pixels, ?_⟩
    obtain ⟨own, other⟩ := s.capture.store_withStore i (.writing line (pixelWords pixels s.bands[p.band].width))
    rw [State.settle_captureReq (by exact free) (by exact grant)]
    exact CaptureEngine.writeBackStore_of own fun l ws h => alone l ws (other.symm.trans h)
  all_goals
    have run := exec_writeBackEnd now grant store
    obtain ⟨armed, bands, capture, request, granted⟩ := State.lineCaptured_sides (s := s.written p.band line words) (p := p)
      (r := r) (i := i) (words := words)
  case older =>
    obtain ⟨own, next⟩ := s.capture.store_withStore i .empty
    refine ⟨_, run, ?_⟩
    rw [State.settle_captureReq (request.trans free) (by rw [granted]; nofun), capture]
    have back : i.other.other = i := by cases i <;> rfl
    refine CaptureEngine.writeBackStore_of (line := l) (words := ws) ((next.trans other :)) fun l' ws' h => ?_
    rw [back] at h
    cases own.symm.trans h
  case none =>
    obtain ⟨own, next⟩ := s.capture.store_withStore i .empty
    refine ⟨_, run, ?_⟩
    rw [State.settle_captureReq (request.trans free) (by rw [granted]; nofun), capture]
    exact CaptureEngine.writeBackStore_none (i := i) (fun l ws h => by cases own.symm.trans h) fun l ws h =>
      alone l ws (next.symm.trans h)
  case written =>
    obtain ⟨t, ht, f⟩ := leads_of_finish run
    have dram : (State.lineCaptured (s.written p.band line words) p r i words).dram = (s.written p.band line words).dram :=
      congrArg Outside.dram (State.lineCaptured_outside ..)
    refine ⟨t, ht, f.dram.trans dram, ?_, ?_, fun b => ?_⟩
    · rw [f.capture, capture]
      exact (s.capture.store_withStore i .empty).1
    · rw [f.capture, capture]
      rfl
    · rw [f.bands, bands]
      by_cases same : b = p.band
      · subst same
        rw [if_pos rfl]
        simp [State.written, State.store, State.freePort]
      · have away : ((s.written p.band line words).bands.set p.band
            { (s.written p.band line words).bands[p.band].writeBackEnd with armed := armed })[b] = s.bands[b] :=
          Vector.getElem_set_ne _ _ fun e => same (Fin.ext e.symm)
        rw [if_neg same, away]
        exact ⟨rfl, rfl, rfl, rfl, rfl⟩
  case released =>
    obtain ⟨t, ht, f⟩ := leads_of_finish run
    obtain ⟨obs, judge, passes⟩ := State.lineCaptured_releases (s := s.written p.band line words) (r := r) (i := i)
      (words := words) legal role fills hx held (reaches.congr rfl) rest window kind place
    exact ⟨t, obs, ht, judge, by rw [f.cpu]; exact passes⟩

end Sys2Proof.Machine
end

section
/-! The fetch request of the Emit Engine (R110): what asks it, and the events of the Memory Port and the printhead that
withdraw none. -/

namespace Sys2Proof.Machine

open Sys2Proof

variable {s t u : State} {p : EmitParams} {r : EmitRecord}

/-! ### What follows of itself asks a fetch -/

theorem State.settleIntake_fetchReq (s : State) : s.settleIntake.port.fetchReq = s.port.fetchReq := by
  unfold State.settleIntake State.requestFetch
  dsimp only
  (repeat' split) <;> rfl

theorem State.settleLapse_fetchReq (s : State) : s.settleLapse.port.fetchReq = s.port.fetchReq := by
  unfold State.settleLapse
  dsimp only
  (repeat' split) <;> rfl

theorem State.emitNow_of_running (running : t.running .p = s.running .p) (emit : t.emit = s.emit) : t.emitNow = s.emitNow := by
  simp only [State.emitNow, State.activeWork, running, emit]

theorem State.wantsFetch_congr (now : t.emitNow = s.emitNow) (emit : t.emit = s.emit) (bands : t.bands = s.bands) :
    t.wantsFetch = s.wantsFetch := by
  unfold State.wantsFetch
  rw [now, emit, bands]

/-- A fetch is asked where one waits or the conditions of R110 hold. -/
theorem State.settle_fetchReq (s : State) : s.settle.port.fetchReq = true ↔ s.port.fetchReq = true ∨ s.wantsFetch = true := by
  have f := s.settleMover_follows
  have request : s.settleMover.port.fetchReq = s.port.fetchReq := (congrArg Port.fetchReq s.settleMover_leaves.port :)
  have wants : s.settleMover.wantsFetch = s.wantsFetch := State.wantsFetch_congr
    (State.emitNow_of_running (f.running (q := .p) nofun) f.emit) f.emit f.bands
  obtain ⟨captureReq, capture⟩ := s.settleMover.settleCapture_eq
  obtain ⟨procReq, processor⟩ := s.settleMover.settleCapture.settleEmit.settleProcessor_eq
  have emit : s.settle.port.fetchReq = s.settleMover.settleCapture.settleEmit.port.fetchReq := by
    unfold State.settle
    rw [State.settleLapse_fetchReq, State.settleIntake_fetchReq, State.settleTake_port, processor]
    rfl
  have request' : s.settleMover.settleCapture.port.fetchReq = s.port.fetchReq := by
    rw [capture]
    exact request
  have wants' : s.settleMover.settleCapture.wantsFetch = s.wantsFetch := by
    rw [capture]
    exact wants
  rw [emit, State.settleEmit, wants']
  split
  · next h => simp [h, State.withPort]
  · next h => simp [request', h]

theorem EmitEngine.freeStore_isSome {e : EmitEngine} :
    e.freeStore.isSome = true ↔ e.storeA.state = .empty ∨ e.storeB.state = .empty := by
  unfold EmitEngine.freeStore
  by_cases first : e.storeA.state = .empty <;> by_cases second : e.storeB.state = .empty <;> simp [first, second]

/-- The conditions of R110. -/
theorem State.wantsFetch_iff : s.wantsFetch = true ↔ ∃ p q, s.emitNow = some (p, q) ∧ q.phase = .printing
    ∧ (s.emit.storeA.state = .empty ∨ s.emit.storeB.state = .empty)
    ∧ s.bands[p.band].draining < s.bands[p.band].c ∧ s.bands[p.band].draining < 2
    ∧ q.paperLost = false ∧ q.stopAsked = false
    ∧ (p.lineCount = 0 ∨ q.printed + s.bands[p.band].draining < p.lineCount) := by
  unfold State.wantsFetch
  split
  · next p q now =>
    have free := EmitEngine.freeStore_isSome (e := s.emit)
    simp only [now, Option.some.injEq, Prod.mk.injEq, Bool.and_eq_true, Bool.or_eq_true, decide_eq_true_eq, free,
      Band.canFetch, Bool.not_eq_true']
    constructor
    · rintro ⟨⟨⟨⟨⟨phase, store⟩, ready, two⟩, paper⟩, stop⟩, count⟩
      exact ⟨p, q, ⟨rfl, rfl⟩, phase, store, ready, two, paper, stop, count⟩
    · rintro ⟨_, _, ⟨rfl, rfl⟩, phase, store, ready, two, paper, stop, count⟩
      exact ⟨⟨⟨⟨⟨phase, store⟩, ready, two⟩, paper⟩, stop⟩, count⟩
  · next none => simp [none]

/-! ### Events that leave the fetch request and the emit order -/

/-- What the fetch request rests on beside the engine and the band: the request that waits and the running order of the
P queue. -/
def State.fetchSide (s : State) : Bool × Option Running := (s.port.fetchReq, s.running .p)

theorem State.fetchSide_of (port : t.port.fetchReq = s.port.fetchReq) (intake : t.intake = s.intake) :
    t.fetchSide = s.fetchSide := by
  simp only [State.fetchSide, State.running, port, intake]

theorem State.fetchSide_of_besideEnd {q : QueueId} (port : t.port.fetchReq = s.port.fetchReq)
    (intake : t.besideEnd q = s.besideEnd q) (other : QueueId.p ≠ q) : t.fetchSide = s.fetchSide := by
  have queue := Intake.queue_of_besideEnd intake other
  simp only [State.fetchSide, State.running, port, queue]

/-- An event that leaves the fetch request and the emit order: a fetch is asked exactly where one waits or R110 gives it. -/
theorem fetchAsked {c : Instr} (now : s.emitNow = some (p, r)) (run : exec c s = finish u) (side : u.fetchSide = s.fetchSide)
    (ht : exec c s = .next t) : t.port.fetchReq = true ↔ s.port.fetchReq = true
      ∨ ∃ q, t.emitNow = some (p, q) ∧ q.phase = .printing
      ∧ (t.emit.storeA.state = .empty ∨ t.emit.storeB.state = .empty)
      ∧ t.bands[p.band].draining < t.bands[p.band].c ∧ t.bands[p.band].draining < 2
      ∧ q.paperLost = false ∧ q.stopAsked = false
      ∧ (p.lineCount = 0 ∨ q.printed + t.bands[p.band].draining < p.lineCount) := by
  have settled : u.settle = t := Host.Outcome.next.inj (run.symm.trans ht)
  have f : Follows u t := settled ▸ State.settle_follows u
  obtain ⟨request, running⟩ := Prod.mk.inj side
  have now' : t.emitNow = u.emitNow := State.emitNow_of_running (f.running (q := .p) nofun) f.emit
  have same {p' q} (h : u.emitNow = some (p', q)) : p' = p := by
    have active : u.activeWork .p = s.activeWork .p := by rw [State.activeWork, running, State.activeWork]
    rw [(State.emitNow_iff.mp h).1, (State.emitNow_iff.mp now).1] at active
    cases active
    rfl
  have asks := u.settle_fetchReq
  rw [settled, request, State.wantsFetch_iff, ← now', ← f.emit, ← f.bands] at asks
  rw [asks]
  refine or_congr_right ⟨?_, fun ⟨q, h⟩ => ⟨p, q, h⟩⟩
  rintro ⟨p', q, h, more⟩
  cases same (now' ▸ h)
  exact ⟨q, h, more⟩

section
variable {b : Fin 4} {line : Nat}

theorem State.raiseFault_fetchSide (f : PassageFault) : (s.raiseFault f).fetchSide = s.fetchSide :=
  State.fetchSide_of (congrArg Port.fetchReq (State.raiseFault_port f)) (by simp)

theorem State.withCount_fetchSide (y : Band) (up : Bool) : (s.withCount b y up).fetchSide = s.fetchSide := by
  refine State.fetchSide_of ?_ (State.withCount_intake ..)
  rw [State.port_of_besideReports (s.withCount_beside b y up)]
  rfl

theorem State.resumeP_fetchSide : (s.resumeP b).fetchSide = s.fetchSide := by
  unfold State.resumeP State.emitProceed State.tryLatch
  (repeat' split) <;> rfl

theorem State.beginLine_fetchSide (p : CaptureParams) (q : CaptureRecord) : (s.beginLine p q).fetchSide = s.fetchSide := by
  unfold State.beginLine
  split <;> rfl

theorem State.resumeD_fetchSide : (s.resumeD b).fetchSide = s.fetchSide := by
  unfold State.resumeD State.captureProceed
  (repeat' split) <;> first
    | rfl
    | exact State.beginLine_fetchSide ..

theorem State.applyObs_fetchSide (obs : Obs) (who : Requester) (op : AccessOp) (addr : Nat) :
    (s.applyObs obs who op addr).fetchSide = s.fetchSide := by
  unfold State.applyObs
  (repeat' split) <;> first
    | rfl
    | exact State.resumeP_fetchSide.trans (State.withCount_fetchSide ..)
    | exact State.resumeD_fetchSide.trans (State.withCount_fetchSide ..)
    | exact State.raiseFault_fetchSide _

theorem State.observeCpu_fetchSide (x : CpuAccess) : (s.observeCpu x).fetchSide = s.fetchSide := by
  unfold State.observeCpu State.observeHead
  (repeat' split) <;> first
    | rfl
    | exact State.raiseFault_fetchSide _

theorem State.releaseLine_fetchSide : (s.releaseLine b line).fetchSide = s.fetchSide := by
  refine State.fetchSide_of (congrArg Port.fetchReq (s.releaseLine_sides b line).2.2) ?_
  rw [State.releaseLine, State.releaseCpu_intake, State.releaseMover_intake]

theorem State.endOrder_fetchSide {q : QueueId} (other : QueueId.p ≠ q) (block : Block) (result : Result) (figures : List Word) :
    (s.endOrder q block result figures).fetchSide = s.fetchSide :=
  State.fetchSide_of_besideEnd (congrArg Port.fetchReq (State.port_of_besideReports (State.endOrder_besideReports ..)))
    (State.endOrder_besideEnd ..) other

theorem State.stopTransfer_fetchSide : s.stopTransfer.fetchSide = s.fetchSide :=
  State.endOrder_fetchSide (q := .mover) nofun ..

theorem State.endMoverGrant_fetchSide (n : Nat) (obs : Obs) : (s.endMoverGrant n obs).fetchSide = s.fetchSide := by
  unfold State.endMoverGrant
  dsimp only
  (repeat' split) <;> first
    | rfl
    | exact State.stopTransfer_fetchSide
    | exact State.stopTransfer_fetchSide.trans (State.applyObs_fetchSide ..)
    | exact State.applyObs_fetchSide ..

theorem State.lineCaptured_fetchSide {pc : CaptureParams} {rc : CaptureRecord} {i : StoreId} {words : List Word} :
    (s.lineCaptured pc rc i words).fetchSide = s.fetchSide := by
  have finish (v : State) : v.captureFinish.fetchSide = v.fetchSide := State.fetchSide_of_besideEnd
    (congrArg Port.fetchReq (State.port_of_besideReports State.captureFinish_besideReports)) State.captureFinish_besideEnd nofun
  rw [State.lineCaptured_eq, finish, State.resumeP_fetchSide]
  split
  · exact State.releaseLine_fetchSide.trans (State.withCount_fetchSide ..)
  · exact State.withCount_fetchSide ..

end

end Sys2Proof.Machine
end

section
/-! The line stores of the Emit Engine at the ends of a fetch, a shift and a strobe (R60, R108, R110 to R112). -/

namespace Sys2Proof.Machine

open Sys2Proof

variable {s t u : State} {p : EmitParams} {r : EmitRecord} {e : EmitEngine} {i j : StoreId}

/-! ### Which store is SHIFTING, SHIFTED, STROBING -/

theorem EmitEngine.shifting_state (h : e.shifting = some i) : (e.store i).state = .shifting := by
  unfold EmitEngine.shifting at h
  split at h
  · next first => cases h; exact first
  · split at h
    · next second => cases h; exact second
    · cases h

theorem EmitEngine.shifting_isSome : e.shifting.isSome = true ↔ ∃ i, (e.store i).state = .shifting := by
  constructor
  · intro h
    obtain ⟨i, hi⟩ := Option.isSome_iff_exists.mp h
    exact ⟨i, EmitEngine.shifting_state hi⟩
  · rintro ⟨i, h⟩
    unfold EmitEngine.shifting
    by_cases first : e.storeA.state = .shifting
    · rw [if_pos first]
      rfl
    · cases i with
      | a => exact absurd h first
      | b => rw [if_neg first, if_pos (show e.storeB.state = .shifting from h)]; rfl

theorem EmitEngine.shifted_isSome : e.shifted.isSome = true ↔ ∃ i, (e.store i).state = .shifted := by
  unfold EmitEngine.shifted
  constructor
  · intro h
    split at h
    · next first => exact ⟨.a, first⟩
    · split at h
      · next second => exact ⟨.b, second⟩
      · cases h
  · rintro ⟨i, h⟩
    by_cases first : e.storeA.state = .shifted
    · rw [if_pos first]
      rfl
    · cases i with
      | a => exact absurd h first
      | b => rw [if_neg first, if_pos (show e.storeB.state = .shifted from h)]; rfl

theorem StoreId.eq_or_other (i j : StoreId) : j = i ∨ j = i.other := by
  cases i <;> cases j <;> simp [StoreId.other]

/-- One store in place of another, neither of them in a state, leaves which stores are in that state. -/
theorem EmitEngine.exists_withStore {x : PrintStore} {q : PrintState} (was : (e.store i).state ≠ q) (now : x.state ≠ q) :
    (∃ j, ((e.withStore i x).store j).state = q) ↔ ∃ j, (e.store j).state = q := by
  refine exists_congr fun j => ?_
  rcases StoreId.eq_or_other i j with rfl | rfl
  · rw [EmitEngine.store_withStore_same]
    exact iff_of_false now was
  · rw [EmitEngine.store_withStore_other]

/-- A store that comes to a state other than SHIFTING and SHIFTED, from one other than these, leaves the register. -/
theorem EmitEngine.register_withStore {x : PrintStore} (was : (e.store i).state ≠ .shifting ∧ (e.store i).state ≠ .shifted)
    (now : x.state ≠ .shifting ∧ x.state ≠ .shifted) :
    ((e.withStore i x).shifting.isSome = e.shifting.isSome) ∧ ((e.withStore i x).shifted.isSome = e.shifted.isSome) := by
  constructor <;> rw [Bool.eq_iff_iff]
  · rw [EmitEngine.shifting_isSome, EmitEngine.shifting_isSome]
    exact EmitEngine.exists_withStore was.1 now.1
  · rw [EmitEngine.shifted_isSome, EmitEngine.shifted_isSome]
    exact EmitEngine.exists_withStore was.2 now.2

/-! ### The shift that begins (R111) -/

/-- With the register free the oldest FETCHED store begins its shift. -/
theorem EmitEngine.beginShift_of (free : e.shifting = none) (none : e.shifted = none) (fetched : e.fetched = some i) :
    e.beginShift = { e.withStore i { e.store i with state := .shifting } with shiftReg := Option.none } := by
  simp only [EmitEngine.beginShift, free, none, fetched]

/-- With a line in the register no shift begins. -/
theorem EmitEngine.beginShift_busy (busy : e.shifting.isSome = true ∨ e.shifted.isSome = true) : e.beginShift = e := by
  unfold EmitEngine.beginShift
  split
  · next free none _ => simp [free, none] at busy
  · rfl

theorem EmitEngine.fetched_alone (fetched : (e.store i).state = .fetched) (alone : (e.store i.other).state ≠ .fetched) :
    e.fetched = some i := by
  unfold EmitEngine.fetched
  rcases StoreId.eq_or_other i e.older with same | other
  · rw [same, if_pos fetched]
  · have back : i.other.other = i := by cases i <;> rfl
    rw [other, if_neg alone, back, if_pos fetched]

theorem EmitEngine.fetched_older (one : (e.store i).state = .fetched) (other : (e.store i.other).state = .fetched) :
    e.fetched = some e.older ∧ (e.store e.older.other).state = .fetched := by
  have both (j : StoreId) : (e.store j).state = .fetched := by
    rcases StoreId.eq_or_other i j with rfl | rfl
    · exact one
    · exact other
  exact ⟨if_pos (both _), both _⟩

/-- The engine with the words of a fetched line in its LOADING store (R110). -/
def EmitEngine.loaded (e : EmitEngine) (i : StoreId) (words : List Word) : EmitEngine :=
  e.withStore i { e.store i with state := .fetched, words := words }

section
variable {words : List Word} (loading : (e.store i).state = .loading)
include loading

theorem EmitEngine.loaded_register : (e.loaded i words).shifting.isSome = e.shifting.isSome
    ∧ (e.loaded i words).shifted.isSome = e.shifted.isSome :=
  EmitEngine.register_withStore (by rw [loading]; exact ⟨nofun, nofun⟩) ⟨nofun, nofun⟩

omit loading in
theorem EmitEngine.loaded_store : (e.loaded i words).store i = { e.store i with state := .fetched, words := words } :=
  EmitEngine.store_withStore_same ..

omit loading in
theorem EmitEngine.loaded_other : (e.loaded i words).store i.other = e.store i.other := EmitEngine.store_withStore_other ..

omit loading in
theorem EmitEngine.loaded_older : (e.loaded i words).older = e.older := by cases i <;> rfl

omit loading in
theorem EmitEngine.beginShift_words (e : EmitEngine) (i : StoreId) : (e.beginShift.store i).words = (e.store i).words := by
  rcases e.beginShift_cases with same | ⟨j, -, shifts⟩
  · rw [same]
  · rw [shifts]
    cases i <;> cases j <;> rfl

omit loading in
theorem EmitEngine.beginShift_register (free : e.shifting = none) (none : e.shifted = none) (fetched : e.fetched = some j) :
    (e.beginShift.store j).state = .shifting ∧ e.beginShift.store j.other = e.store j.other := by
  rw [EmitEngine.beginShift_of free none fetched]
  cases j <;> exact ⟨rfl, rfl⟩

/-- The states of the stores once a line is fetched, by what the register and the other store hold (R110, R111). -/
theorem EmitEngine.loaded_shifts :
    (e.shifting = none → e.shifted = none → (e.store i.other).state ≠ .fetched →
      ((e.loaded i words).beginShift.store i).state = .shifting)
    ∧ (e.shifting = none → e.shifted = none → (e.store i.other).state = .fetched →
      ((e.loaded i words).beginShift.store e.older).state = .shifting
        ∧ ((e.loaded i words).beginShift.store e.older.other).state = .fetched)
    ∧ (e.shifting.isSome ∨ e.shifted.isSome → ((e.loaded i words).beginShift.store i).state = .fetched) := by
  obtain ⟨shifting, shifted⟩ := EmitEngine.loaded_register loading (words := words)
  have own : ((e.loaded i words).store i).state = .fetched := by rw [EmitEngine.loaded_store]
  have free (h : e.shifting = none) : (e.loaded i words).shifting = none := by
    rw [h] at shifting
    exact Option.not_isSome_iff_eq_none.mp (by rw [shifting]; nofun)
  have nothing (h : e.shifted = none) : (e.loaded i words).shifted = none := by
    rw [h] at shifted
    exact Option.not_isSome_iff_eq_none.mp (by rw [shifted]; nofun)
  refine ⟨fun h h' alone => ?_, fun h h' other => ?_, fun busy => ?_⟩
  · have fetched := EmitEngine.fetched_alone own (by rw [EmitEngine.loaded_other]; exact alone)
    exact (EmitEngine.beginShift_register (free h) (nothing h') fetched).1
  · obtain ⟨fetched, younger⟩ := EmitEngine.fetched_older own (by rw [EmitEngine.loaded_other]; exact other)
    obtain ⟨first, second⟩ := EmitEngine.beginShift_register (free h) (nothing h') fetched
    rw [EmitEngine.loaded_older] at first second younger
    exact ⟨first, second ▸ younger⟩
  · rw [EmitEngine.beginShift_busy (by rw [shifting, shifted]; exact busy)]
    exact own

end

/-! ### FETCH_GRANT_END and SHIFT_END -/

theorem exec_fetchGrantEnd (now : s.emitNow = some (p, r)) (grant : s.port.grant = some (.fetch i)) :
    exec .fetchGrantEnd s = finish (if (s.emit.store i).state = .loading
      then s.freePort.withEmit (s.emit.loaded i (s.lineWords p.band (s.emit.store i).line)).beginShift else s.freePort) := by
  have ended : s.endGrant (.fetch i) = s.freePort := rfl
  have now' : s.freePort.emitNow = some (p, r) := now
  have run : exec .fetchGrantEnd s = finish ((s.endGrant (.fetch i)).lineFetched i) := by
    change execFetchGrantEnd s = _
    simp only [execFetchGrantEnd, grant]
  have words : s.freePort.lineWords p.band (s.emit.store i).line = s.lineWords p.band (s.emit.store i).line :=
    State.dramWords_congr fun _ _ _ => rfl
  rw [run, ended, State.lineFetched, now', ← words]
  rfl

/-- The engine with a line that has been shifted whole into the register (R108, R111). -/
def EmitEngine.lineShifted (e : EmitEngine) (i : StoreId) : EmitEngine :=
  { e.withStore i { e.store i with state := .shifted } with shiftReg := some (e.store i).words }

theorem exec_shiftEnd (shifting : s.emit.shifting = some i) : exec .shiftEnd s = finish
    (if s.chanP.state = .boundaryWait then (s.withEmit (s.emit.lineShifted i)).tryLatch
      else s.withEmit (s.emit.lineShifted i)) := by
  change execShiftEnd s = _
  simp only [execShiftEnd, shifting]
  rfl

/-- The line shifted is the only one that is SHIFTED, and no line is under heat by it. -/
theorem EmitEngine.lineShifted_register (shifting : e.shifting = some i) (cold : e.strobing = none) (none : e.shifted = none) :
    (e.lineShifted i).strobing = Option.none ∧ (e.lineShifted i).shifted = some i := by
  have was := EmitEngine.shifting_state shifting
  have cold' (j : StoreId) : (e.store j).state ≠ .strobing := fun h => by
    have := EmitEngine.strobing_of h
    simp [cold] at this
  have none' (j : StoreId) : (e.store j).state ≠ .shifted := fun h => by
    have := EmitEngine.shifted_isSome.mpr ⟨j, h⟩
    simp [none] at this
  have a := cold' .a
  have b := cold' .b
  have a' := none' .a
  have b' := none' .b
  cases i <;> simp_all [EmitEngine.lineShifted, EmitEngine.strobing, EmitEngine.shifted, EmitEngine.store, EmitEngine.withStore]

end Sys2Proof.Machine
end

section
/-! STROBE_GROUP_END (R60, R66, R108, R112, R120), and the lines of an emit as they are printed. -/

namespace Sys2Proof.Machine

open Sys2Proof

variable {s t u : State} {p : EmitParams} {r : EmitRecord} {i : StoreId} {b : Fin 4}

/-! ### What the strobe end leaves before channel P goes on -/

/-- What the print side of a strobe end rests on: the Emit Engine, channel P, the profiles, and the fetch side. -/
structure PrintSide (s t : State) : Prop where
  emit : t.emit = s.emit
  chanP : t.chanP = s.chanP
  profiles : t.profiles = s.profiles
  fetch : t.fetchSide = s.fetchSide
  marks : ∀ n : Fin 4, t.bands[n].c = s.bands[n].c ∧ t.bands[n].f = s.bands[n].f ∧ t.bands[n].d = s.bands[n].d
    ∧ t.bands[n].draining = s.bands[n].draining

theorem PrintSide.refl (s : State) : PrintSide s s := ⟨rfl, rfl, rfl, rfl, fun _ => ⟨rfl, rfl, rfl, rfl⟩⟩

theorem PrintSide.trans (h : PrintSide s t) (h' : PrintSide t u) : PrintSide s u where
  emit := h'.emit.trans h.emit
  chanP := h'.chanP.trans h.chanP
  profiles := h'.profiles.trans h.profiles
  fetch := h'.fetch.trans h.fetch
  marks n := by
    obtain ⟨c, f, d, draining⟩ := h.marks n
    obtain ⟨c', f', d', draining'⟩ := h'.marks n
    exact ⟨c'.trans c, f'.trans f, d'.trans d, draining'.trans draining⟩

theorem State.releaseLine_printSide (line : Nat) : PrintSide s (s.releaseLine b line) := by
  have cpu : (s.releaseLine b line).besideFault = (s.releaseMover b line).besideFault := State.releaseCpu_besideFault _
  have mover : (s.releaseMover b line).emit = s.emit ∧ (s.releaseMover b line).chanP = s.chanP
      ∧ (s.releaseMover b line).profiles = s.profiles := by
    unfold State.releaseMover
    split <;> exact ⟨rfl, rfl, rfl⟩
  obtain ⟨emit, chanP, profiles⟩ := mover
  refine ⟨(State.emit_of_besideFault cpu).trans emit, (State.chan_of_besideFault cpu .p).trans chanP,
    (State.profiles_of_besideFault cpu).trans profiles, State.releaseLine_fetchSide, fun n => ?_⟩
  rw [(s.releaseLine_sides b line).1]
  exact ⟨rfl, rfl, rfl, rfl⟩

theorem Band.claim_marks (x : Band) : x.claim.c = x.c ∧ x.claim.f = x.f ∧ x.claim.d = x.d
    ∧ x.claim.draining = x.draining := by
  unfold Band.claim
  (repeat' split) <;> exact ⟨rfl, rfl, rfl, rfl⟩

theorem State.beginLine_printSide (pc : CaptureParams) (q : CaptureRecord) : PrintSide s (s.beginLine pc q) := by
  unfold State.beginLine
  split
  · refine ⟨rfl, rfl, rfl, rfl, fun n => ?_⟩
    change (s.bands.set pc.band s.bands[pc.band].claim)[n].c = _ ∧ (s.bands.set pc.band s.bands[pc.band].claim)[n].f = _
      ∧ (s.bands.set pc.band s.bands[pc.band].claim)[n].d = _ ∧ (s.bands.set pc.band s.bands[pc.band].claim)[n].draining = _
    by_cases same : n = pc.band
    · subst same
      simpa using Band.claim_marks _
    · have away : (s.bands.set pc.band s.bands[pc.band].claim)[n] = s.bands[n] :=
        Vector.getElem_set_ne _ _ fun e => same (Fin.ext e.symm)
      rw [away]
      exact ⟨rfl, rfl, rfl, rfl⟩
  · exact ⟨rfl, rfl, rfl, rfl, fun _ => ⟨rfl, rfl, rfl, rfl⟩⟩

theorem State.withChanD_printSide (c : Channel) : PrintSide s (s.withChanD c) :=
  ⟨rfl, rfl, rfl, rfl, fun _ => ⟨rfl, rfl, rfl, rfl⟩⟩

theorem State.captureProceed_printSide (pc : CaptureParams) (q : CaptureRecord) (level : Nat) :
    PrintSide s (s.captureProceed pc q level) := by
  unfold State.captureProceed
  exact (State.withChanD_printSide _).trans (State.beginLine_printSide ..)

theorem State.resumeD_printSide : PrintSide s (s.resumeD b) := by
  unfold State.resumeD
  split
  · next pc q _ =>
    split
    · exact State.captureProceed_printSide ..
    · exact .refl s
  · exact .refl s

/-- The state once line D is EMPTY and counted, its store EMPTY, before channel P goes on (R60, R66, R112). -/
def State.lineEmptied (s : State) (p : EmitParams) (r : EmitRecord) (i : StoreId) : State :=
  (((s.withEmit { s.emit.withStore i PrintStore.none with group := 0, record := some r.linePrinted }).withCount p.band
    s.bands[p.band].strobeEnd false).releaseLine p.band s.bands[p.band].d).resumeD p.band

theorem State.lineStrobed_eq : s.lineStrobed p r i = if r.stopAsked then (s.lineEmptied p r i).emitStop p r.linePrinted .aborted .abort
    else (s.lineEmptied p r i).withChanP
      ((s.lineEmptied p r i).chanP.enterMoving (intervalAt (s.lineEmptied p r i).profiles[p.profile] (s.lineEmptied p r i).chanP.k)) :=
  rfl

theorem Band.strobeEnd_f (x : Band) : x.strobeEnd.f = x.f := by
  unfold Band.strobeEnd
  split <;> rfl

theorem State.lineEmptied_sides :
    (s.lineEmptied p r i).emit = { s.emit.withStore i PrintStore.none with group := 0, record := some r.linePrinted }
    ∧ (s.lineEmptied p r i).chanP = s.chanP ∧ (s.lineEmptied p r i).profiles = s.profiles
    ∧ (s.lineEmptied p r i).fetchSide = s.fetchSide
    ∧ (s.lineEmptied p r i).bands[p.band].c = s.bands[p.band].strobeEnd.c
    ∧ (s.lineEmptied p r i).bands[p.band].f = s.bands[p.band].f
    ∧ (s.lineEmptied p r i).bands[p.band].d = s.bands[p.band].strobeEnd.d
    ∧ (s.lineEmptied p r i).bands[p.band].draining = s.bands[p.band].strobeEnd.draining := by
  have side := (State.releaseLine_printSide (s := (s.withEmit { s.emit.withStore i PrintStore.none with
    group := 0, record := some r.linePrinted }).withCount p.band s.bands[p.band].strobeEnd false) (b := p.band)
    s.bands[p.band].d).trans (State.resumeD_printSide (b := p.band))
  obtain ⟨armed, bands⟩ := State.withCount_bands (s := s.withEmit { s.emit.withStore i PrintStore.none with
    group := 0, record := some r.linePrinted }) p.band s.bands[p.band].strobeEnd false
  have profiles := (congrArg State.profiles (State.withCount_beside (s := s.withEmit { s.emit.withStore i PrintStore.none with
    group := 0, record := some r.linePrinted }) p.band s.bands[p.band].strobeEnd false) :)
  have marks := side.marks p.band
  rw [bands] at marks
  simp only [Fin.getElem_fin, Vector.getElem_set_self, Band.strobeEnd_f] at marks
  obtain ⟨c, f, d, draining⟩ := marks
  exact ⟨side.emit.trans (State.withCount_emit ..), side.chanP.trans (State.withCount_chanP ..), side.profiles.trans profiles,
    side.fetch.trans (State.withCount_fetchSide ..), c, f, d, draining⟩

theorem exec_strobeGroupEnd (now : s.emitNow = some (p, r)) (strobing : s.emit.strobing = some i) :
    exec .strobeGroupEnd s = if s.emit.group + 1 < p.groups
      then .next (s.withEmit { s.emit with group := s.emit.group + 1 }) else finish (s.lineStrobed p r i) := by
  change execStrobeGroupEnd s = _
  simp only [execStrobeGroupEnd, State.strobedLine, now, strobing]

/-! ### The line is printed -/

theorem Channel.hardStop_boundaryWait {x : Channel} (waits : x.state = .boundaryWait) : x.hardStop = x.enterHolding := by
  rw [Channel.hardStop, if_pos (by simp only [Channel.inMotion, waits])]

theorem State.activeWork_congr {q : QueueId} (intake : t.intake = s.intake) : t.activeWork q = s.activeWork q := by
  simp only [State.activeWork, State.running, intake]

/-- An emit stops: its lines are given back, channel P stops hard, and its end is decided (R61, R118 to R120). -/
theorem State.emitStop_sides (active : s.activeWork .p = some (.emit p)) (r : EmitRecord) (result : Result) (reason : EndReason) :
    (s.emitStop p r result reason).besideReports = (((s.revertLines p.band).withChanP s.chanP.hardStop).withEmitRecord
        { r with phase := .done, result := result, endReason := some reason }).besideReports
      ∧ ((s.emitStop p r result reason).running .p).map (fun x => (x.result, x.figures))
        = some (result, [wordNat r.printed, wordNat reason.code]) := by
  have chanP : (s.revertLines p.band).chanP = s.chanP := rfl
  have active' : ((s.revertLines p.band).withChanP s.chanP.hardStop).activeWork .p = some (.emit p) :=
    (State.activeWork_congr (State.revertLines_intake p.band)).trans active
  rw [State.emitStop, chanP]
  generalize (s.revertLines p.band).withChanP s.chanP.hardStop = v at *
  exact State.emitDecide_ends active' r result reason

/-- Once an emit has stopped, no line is in a store and no fetch is asked. -/
theorem State.emitStop_follows (active : s.activeWork .p = some (.emit p)) (r : EmitRecord) (result : Result)
    (reason : EndReason) (f : Follows (s.emitStop p r result reason) t) : t.emit.storeA = PrintStore.none
    ∧ t.emit.storeB = PrintStore.none
    ∧ t.emit.record = some { r with phase := .done, result := result, endReason := some reason }
    ∧ t.bands = s.bands.set p.band s.bands[p.band].revert
    ∧ (t.running .p).map (fun x => (x.result, x.figures)) = some (result, [wordNat r.printed, wordNat reason.code]) := by
  obtain ⟨beside, outcome⟩ := State.emitStop_sides active r result reason
  rw [f.emit, State.emit_of_besideReports beside, f.running (q := .p) nofun]
  exact ⟨rfl, rfl, rfl, f.bands.trans (State.bands_of_besideReports beside), outcome⟩

/-- An emit that is decided asks no fetch. -/
theorem State.settle_asks_none (decided : ∀ r, s.emit.record = some r → r.phase = .done) (none : s.port.fetchReq = false) :
    s.settle.port.fetchReq = false := by
  rw [← Bool.not_eq_true, State.settle_fetchReq, none]
  rintro (request | wants)
  · cases request
  · obtain ⟨_, q, now, phase, -⟩ := State.wantsFetch_iff.mp wants
    have ended := decided q (State.emitNow_iff.mp now).2
    rw [phase] at ended
    cases ended

theorem State.emitStop_fetchReq (active : s.activeWork .p = some (.emit p)) (r : EmitRecord) (result : Result)
    (reason : EndReason) : (s.emitStop p r result reason).settle.port.fetchReq = false := by
  obtain ⟨beside, -⟩ := State.emitStop_sides active r result reason
  refine State.settle_asks_none (fun q hq => ?_) (congrArg Port.fetchReq (State.port_of_besideReports beside))
  rw [State.emit_of_besideReports beside] at hq
  cases hq
  rfl

theorem State.emitStop_chanP (active : s.activeWork .p = some (.emit p)) (r : EmitRecord) (result : Result)
    (reason : EndReason) : (s.emitStop p r result reason).chanP = s.chanP.hardStop :=
  State.chanP_of_besideReports (State.emitStop_sides active r result reason).1

section
variable (now : s.emitNow = some (p, r)) (strobing : s.emit.strobing = some i) (last : p.groups ≤ s.emit.group + 1)
include now strobing last

/-- The last group of a line has been strobed, and the emit goes on. -/
theorem strobeEnd_moves (going : r.stopAsked = false) : ∃ t, exec .strobeGroupEnd s = .next t ∧ t.emit.store i = PrintStore.none
    ∧ t.emit.record.map (·.printed) = some (if 65535 ≤ r.printed + 1 then 65535 else r.printed + 1)
    ∧ t.chanP = { s.chanP with
      state := .moving, asked := s.chanP.runLevel, holdTimer := none, pauseTimer := none
      stepTimer := some (intervalAt s.profiles[p.profile] s.chanP.k) }
    ∧ t.bands[p.band].c = s.bands[p.band].strobeEnd.c ∧ t.bands[p.band].d = s.bands[p.band].strobeEnd.d
    ∧ t.bands[p.band].f = s.bands[p.band].f ∧ t.bands[p.band].draining = s.bands[p.band].strobeEnd.draining := by
  have run := (exec_strobeGroupEnd now strobing).trans (if_neg (Nat.not_lt.mpr last))
  rw [State.lineStrobed_eq, if_neg (by rw [going]; nofun)] at run
  obtain ⟨emit, chanP, profiles, -, c, f, d, draining⟩ := State.lineEmptied_sides (s := s) (p := p) (r := r) (i := i)
  generalize s.lineEmptied p r i = v at *
  obtain ⟨t, ht, g⟩ := leads_of_finish run
  have chan := g.chanP.stands nofun
  refine ⟨t, ht, ?_, ?_, ?_, by rw [g.bands]; exact ⟨c, d, f, draining⟩⟩
  · rw [g.emit]
    change v.emit.store i = _
    rw [emit]
    exact EmitEngine.store_withStore_same ..
  · rw [g.emit]
    change v.emit.record.map _ = _
    rw [emit]
    rfl
  · rw [chan]
    change v.chanP.enterMoving _ = _
    rw [profiles, chanP]
    rfl

/-- The last group of a line has been strobed, and the emit was told to stop (R120). -/
theorem strobeEnd_stops (stop : r.stopAsked = true) : 
    let printed := if 65535 ≤ r.printed + 1 then 65535 else r.printed + 1
    ∃ t, exec .strobeGroupEnd s = .next t
      ∧ t.emit.storeA = PrintStore.none ∧ t.emit.storeB = PrintStore.none ∧ t.port.fetchReq = false
      ∧ t.emit.record = some
        { r with printed := printed, phase := .done, result := .aborted, endReason := some .abort }
      ∧ t.bands[p.band].c = s.bands[p.band].strobeEnd.c ∧ t.bands[p.band].d = s.bands[p.band].strobeEnd.d
      ∧ t.bands[p.band].f = s.bands[p.band].f ∧ t.bands[p.band].draining = 0
      ∧ (s.chanP.state = .boundaryWait → s.chanP.Stopped t.chanP)
      ∧ (t.running .p).map (fun x => (x.result, x.figures)) = some (.aborted, [wordNat printed, 5]) := by
  have run := (exec_strobeGroupEnd now strobing).trans (if_neg (Nat.not_lt.mpr last))
  rw [State.lineStrobed_eq, if_pos stop] at run
  obtain ⟨emit, chanP, -, fetch, c, f, d, -⟩ := State.lineEmptied_sides (s := s) (p := p) (r := r) (i := i)
  generalize s.lineEmptied p r i = v at *
  have active : v.activeWork .p = some (.emit p) := by
    rw [State.activeWork, (Prod.mk.inj fetch).2]
    exact (State.emitNow_iff.mp now).1
  have chan : s.chanP.state = .boundaryWait → s.chanP.Stopped v.chanP.hardStop := fun waits => by
    rw [chanP, Channel.hardStop_boundaryWait waits]
    exact Channel.stopped_enterHolding _
  have g := (v.emitStop p r.linePrinted .aborted .abort).settle_follows
  obtain ⟨storeA, storeB, record, bands, outcome⟩ := State.emitStop_follows active r.linePrinted .aborted .abort g
  have own : (v.bands.set p.band v.bands[p.band].revert)[p.band] = v.bands[p.band].revert := Vector.getElem_set_self _
  refine ⟨_, run, storeA, storeB, State.emitStop_fetchReq active .., record, ?_, ?_, ?_, ?_, fun waits => ?_, outcome⟩
  · rw [bands, own]
    exact c
  · rw [bands, own]
    exact d
  · rw [bands, own]
    exact f
  · rw [bands, own]
    rfl
  · have stopped := chan waits
    rw [← State.emitStop_chanP active r.linePrinted .aborted .abort] at stopped
    exact stopped.follows g.chanP

end

/-! ### The outputs of the head (R108) -/

theorem EmitEngine.latchPulse_none {e f : EmitEngine} (cold : f.strobing = none) : e.latchPulse f = false := by
  rw [EmitEngine.latchPulse, cold]
  exact Bool.and_false _

theorem EmitEngine.strobeOutput_iff {e : EmitEngine} {j : Nat} : e.strobeOutput j = true ↔ e.strobing ≠ none ∧ j = e.group := by
  rw [EmitEngine.strobeOutput, Bool.and_eq_true, decide_eq_true_eq, Option.isSome_iff_ne_none, eq_comm (a := e.group)]

theorem EmitEngine.heats_iff {e : EmitEngine} {groups dot : Nat} : e.heats groups dot = true ↔ ∃ ws, e.latch = some ws
    ∧ (ws.getD (dot / 16) 0).getLsbD (15 - dot % 16) = true ∧ e.strobing ≠ none
    ∧ dot / (16 * ws.length / groups) = e.group := by
  unfold EmitEngine.heats
  split
  · next ws latch =>
    rw [Bool.and_eq_true, EmitEngine.strobeOutput_iff, latch]
    constructor
    · rintro ⟨black, on, group⟩
      exact ⟨ws, rfl, black, on, group⟩
    · rintro ⟨_, ⟨⟩, black, on, group⟩
      exact ⟨black, on, group⟩
  · next none => simp [none]

/-! ### Every command that may let a fetch be asked -/

/-- The commands after which a fetch is asked exactly where one waits or R110 gives it leave the fetch side. -/
theorem fetchSide_of_event {c : Instr} (now : s.emitNow = some (p, r))
    (event : c = .fetchGrantEnd ∧ s.port.grant = some (.fetch i) ∨ c = .shiftEnd ∧ s.emit.shifting = some i
      ∨ c = .strobeGroupEnd ∧ s.emit.strobing = some i ∧ p.groups ≤ s.emit.group + 1 ∧ r.stopAsked = false
      ∨ c = .processorGrantEnd ∧ (∃ obs, s.port.grant = some (.processor obs)) ∧ s.passage.cpu ≠ none
      ∨ c = .moverGrantEnd ∧ (∃ n obs, s.port.grant = some (.mover n obs))
      ∨ c = .writeBackEnd ∧ (∃ j l ws, s.port.grant = some (.writeBack j) ∧ s.capture.store j = .writing l ws)
        ∧ s.captureNow ≠ none) : ∃ u, exec c s = finish u ∧ u.fetchSide = s.fetchSide := by
  rcases event with ⟨rfl, grant⟩ | ⟨rfl, shifting⟩ | ⟨rfl, strobing, last, going⟩ | ⟨rfl, ⟨obs, grant⟩, access⟩
    | ⟨rfl, n, obs, grant⟩ | ⟨rfl, ⟨j, l, ws, grant, store⟩, captures⟩
  · refine ⟨_, exec_fetchGrantEnd now grant, ?_⟩
    split <;> rfl
  · refine ⟨_, exec_shiftEnd shifting, ?_⟩
    unfold State.tryLatch
    (repeat' split) <;> rfl
  · refine ⟨_, (exec_strobeGroupEnd now strobing).trans (if_neg (Nat.not_lt.mpr last)), ?_⟩
    rw [State.lineStrobed_eq, if_neg (by rw [going]; nofun)]
    exact State.lineEmptied_sides.2.2.2.1
  · obtain ⟨x, hx⟩ := Option.ne_none_iff_exists'.mp access
    exact ⟨_, exec_processorGrantEnd grant hx, (State.applyObs_fetchSide ..).trans (State.observeCpu_fetchSide x)⟩
  · refine ⟨(s.endGrant (.mover n obs)).endMoverGrant n obs, ?_, State.endMoverGrant_fetchSide ..⟩
    change execMoverGrantEnd s = _
    simp only [execMoverGrantEnd, grant]
  · obtain ⟨⟨pc, rc⟩, captures⟩ := Option.ne_none_iff_exists'.mp captures
    exact ⟨_, exec_writeBackEnd captures grant store, State.lineCaptured_fetchSide⟩

/-- Settles O55. -/
theorem linesArePrinted : Obligations.LinesArePrinted := by
  intro s p r i now
  refine ⟨fun grant loading => ?fetched, fun shifting waits => ?shifted, fun shifting waits cold none => ?latched,
    fun shifting n _ => ?serial, fun t _ _ cold => EmitEngine.latchPulse_none cold, fun strobing more => ?group,
    fun strobing last going => strobeEnd_moves now strobing last going,
    fun strobing last stop => strobeEnd_stops now strobing last stop, fun c t ht event => ?asks,
    fun j => EmitEngine.strobeOutput_iff, fun groups dot => EmitEngine.heats_iff⟩
  case fetched =>
    have run := (exec_fetchGrantEnd now grant).trans (congrArg finish (if_pos loading))
    obtain ⟨t, ht, f⟩ := leads_of_finish run
    have shifts := EmitEngine.loaded_shifts loading (words := s.lineWords p.band (s.emit.store i).line)
    have emit : t.emit = (s.emit.loaded i (s.lineWords p.band (s.emit.store i).line)).beginShift := f.emit
    rw [← emit] at shifts
    refine ⟨t, ht, ?_, f.grant, f.dram, shifts⟩
    rw [emit]
    exact (EmitEngine.beginShift_words ..).trans (congrArg PrintStore.words EmitEngine.loaded_store)
  case shifted => exact leads_of_finish ((exec_shiftEnd shifting).trans (congrArg finish (if_neg waits)))
  case latched =>
    obtain ⟨cold', shifted⟩ := EmitEngine.lineShifted_register shifting cold none
    have run := (exec_shiftEnd shifting).trans (congrArg finish ((if_pos waits).trans (State.tryLatch_latches cold' shifted)))
    obtain ⟨t, ht, f⟩ := leads_of_finish run
    obtain ⟨store, group, latch, -, -⟩ := (s.emit.lineShifted i).latchStore_strobes i
    have emit : t.emit = (s.emit.lineShifted i).latchStore i := f.emit
    rw [← emit] at store group latch
    refine ⟨t, ht, store, group, latch, ?_⟩
    rw [EmitEngine.latchPulse, cold, EmitEngine.strobing_of store]
    rfl
  case serial => simp only [EmitEngine.serialData, shifting, pixelOf]
  case group => exact (exec_strobeGroupEnd now strobing).trans (if_pos more)
  case asks =>
    obtain ⟨u, run, side⟩ := fetchSide_of_event now event
    exact fetchAsked now run side ht

end Sys2Proof.Machine
end

section
/-! The Block Mover between its grants (R136 to R139, R141): its acts up to the next burst, the next hold, or the end. -/

namespace Sys2Proof.Machine

open Sys2Proof

variable {s t u : State} {a : Access} {r : Result}

/-! ### Acts in a row -/

theorem State.runMover_act (free : s.moverFree = true) (n : Nat) : s.runMover (n + 1) = s.moverAct.runMover n := if_pos free

theorem State.runMover_stopped (stopped : s.moverFree = false) (n : Nat) : s.runMover n = s := by
  cases n with
  | zero => rfl
  | succ n => exact if_neg (by rw [stopped]; nofun)

/-- The fuel of a transfer allows at least seven acts after the first. -/
theorem State.settleMover_act (free : s.moverFree = true) : ∃ n, s.settleMover = s.moverAct.runMover (n + 7) :=
  ⟨_, (if_pos free).trans (State.runMover_act free _)⟩

/-- One act after which the mover has nothing to go on with. -/
theorem State.settleMover_once (free : s.moverFree = true) (stopped : s.moverAct.moverFree = false) :
    s.settleMover = s.moverAct := by
  obtain ⟨n, act⟩ := State.settleMover_act free
  rw [act, State.runMover_stopped stopped]

/-- Two acts after which the mover has nothing to go on with. -/
theorem State.settleMover_twice (free : s.moverFree = true) (goes : s.moverAct.moverFree = true)
    (stopped : s.moverAct.moverAct.moverFree = false) : s.settleMover = s.moverAct.moverAct := by
  obtain ⟨n, act⟩ := State.settleMover_act free
  rw [act, State.runMover_act goes, State.runMover_stopped stopped]

theorem State.settle_of_settleMover (stopped : s.settleMover.moverFree = false) : s.settle = s.settleMover.settle := by
  unfold State.settle
  rw [State.settleMover_quiet stopped]

theorem State.moverFree_iff : s.moverFree = true
    ↔ (s.mover.state = .reading ∨ s.mover.state = .writing) ∧ s.port.moverReq = none ∧ s.moverGranted = false := by
  simp [State.moverFree, and_assoc]

theorem State.moverGranted_of_none (grant : s.port.grant = none) : s.moverGranted = false := by
  rw [State.moverGranted, grant]

/-! ### The next word (R137 to R139) -/

section
variable (within : s.mover.next < s.mover.chunkEnd) (access : s.mover.access s.mover.next = some a)
include within access

theorem State.moverAct_asks {path : Path} (passes : s.classify .mover a = .pass path) : s.moverAct = s.withPort
    { s.port with moverReq := some (s.moverBurst (s.mover.chunkEnd - s.mover.next) s.mover.next) } := by
  simp only [State.moverAct, if_neg (Nat.not_le.mpr within), access, passes]

theorem State.moverAct_holds {b : Fin 4} {line : Nat} (holds : s.classify .mover a = .hold (.line b line)) :
    s.moverAct = s.holdMover b line := by
  simp only [State.moverAct, if_neg (Nat.not_le.mpr within), access, holds]

theorem State.moverAct_drops {code : PassageCode} {reason : GuardReason} {addr : Nat} {data : Option Word}
    (drops : s.classify .mover a = .drop code reason addr data) :
    s.moverAct = (s.withMover s.mover.skip).raiseFault ⟨code, reason, .mover, a.op, addr, 0⟩ := by
  simp only [State.moverAct, if_neg (Nat.not_le.mpr within), access, drops]

/-- A word that passes: a burst is asked for it. -/
theorem State.settle_asksBurst (free : s.moverFree = true) {path : Path} (passes : s.classify .mover a = .pass path) :
    s.settle.mover = s.mover ∧ s.settle.port.moverReq ≠ none := by
  have asks := State.settleMover_asks free within access passes
  obtain ⟨mover, request⟩ := s.settle_mover
  rw [mover, request, asks]
  exact ⟨rfl, nofun⟩

/-- A word held by the Band Unit: the mover is HELD on it. -/
theorem State.settle_holds (free : s.moverFree = true) {b : Fin 4} {line : Nat}
    (holds : s.classify .mover a = .hold (.line b line)) : s.settle.port.moverReq = none
      ∧ s.settle.mover = { s.mover with
        state := .held, heldOn := some (b, line), heldWrite := decide (s.mover.state = .writing) } := by
  have act := State.moverAct_holds within access holds
  have once := State.settleMover_once free (by rw [act]; rfl)
  obtain ⟨mover, request⟩ := s.settle_mover
  rw [mover, request, once, act]
  exact ⟨rfl, rfl⟩

/-- A word that is dropped: its fault is raised, the mover being the requester. -/
theorem State.settle_drops (free : s.moverFree = true) {code : PassageCode} {reason : GuardReason} {addr : Nat}
    {data : Option Word} (drops : s.classify .mover a = .drop code reason addr data) (area : s.hasReports = true)
    (room : s.reports.pending.length < 8) :
    s.reports.pending ++ [passageReport ⟨code, reason, .mover, a.op, addr, 0⟩ s.passage.unposted] <+: s.settle.reports.pending := by
  obtain ⟨n, acts⟩ := State.settleMover_act free
  have went := s.moverAct.runMover_follows (n + 7)
  rw [← acts] at went
  have settled : s.settle = s.settleMover.settleCapture.settleEmit.settleProcessor.settleTake.settleIntake.settleLapse := rfl
  have rest : Follows s.settleMover s.settle := settled ▸
    (State.settleCapture_follows _).trans ((State.settleEmit_follows _).trans ((State.settleProcessor_follows _).trans
      ((State.settleTake_follows _).trans ((State.settleIntake_follows _).trans (State.settleLapse_follows _)))))
  have entered := State.raiseFault_enters (s := s.withMover s.mover.skip) area room ⟨code, reason, .mover, a.op, addr, 0⟩
  have pending : s.moverAct.reports.pending
      = s.reports.pending ++ [passageReport ⟨code, reason, .mover, a.op, addr, 0⟩ s.passage.unposted] := by
    rw [State.moverAct_drops within access drops, entered]
    rfl
  rw [← pending]
  exact went.pending.trans rest.pending

end

/-! ### The turn of a chunk, and the end (R136, R141) -/

/-- A chunk that is done: the mover turns to other words, and the first of them passes. -/
theorem State.settle_turns {m : Mover} {path : Path} (free : s.moverFree = true) (done : s.mover.chunkEnd ≤ s.mover.next)
    (turns : s.turnChunk = s.withMover m) (goes : m.state = .reading ∨ m.state = .writing) (within : m.next < m.chunkEnd)
    (access : m.access m.next = some a) (passes : s.classify .mover a = .pass path) :
    s.settle.mover = m ∧ s.settle.port.moverReq ≠ none := by
  obtain ⟨-, request, granted⟩ := State.moverFree_iff.mp free
  have act : s.moverAct = s.withMover m := (if_pos done).trans turns
  have free' : (s.withMover m).moverFree = true := State.moverFree_iff.mpr ⟨goes, request, granted⟩
  have asks := State.moverAct_asks (s := s.withMover m) within access passes
  have twice := State.settleMover_twice free (by rw [act]; exact free') (by rw [act, asks]; simp [State.moverFree])
  obtain ⟨mover, request'⟩ := s.settle_mover
  rw [mover, request', twice, act, asks]
  exact ⟨rfl, nofun⟩

/-- The end of a transfer, once what follows has followed. -/
theorem State.endTransfer_settles {ro : Running} (running : s.running .mover = some ro) (r : Result) :
    (s.endTransfer r).settle.mover.state = .ending ∧ (s.endTransfer r).settle.port.moverReq = none
      ∧ (s.endTransfer r).settle.mover.buffer = s.mover.buffer ∧ (s.endTransfer r).settle.dram = s.dram
      ∧ ((s.endTransfer r).settle.running .mover).map (fun x => (x.result, x.figures))
        = some (r, [wordNat (s.mover.moved / 65536), wordNat s.mover.moved, s.mover.sum]) := by
  have ended := s.endTransfer_mover r
  have outcome := State.endOrder_outcome (s := (s.withPort { s.port with moverReq := none }).withMover
    { s.mover with state := .ending, heldOn := none, aborting := false }) (q := .mover) running .mover r s.mover.figures
  have beside : (s.endTransfer r).besideReports = ((s.withPort { s.port with moverReq := none }).withMover
    { s.mover with state := .ending, heldOn := none, aborting := false }).besideReports := State.endOrder_besideReports ..
  have request : (s.endTransfer r).port.moverReq = none := congrArg Port.moverReq (State.port_of_besideReports beside)
  have dram : (s.endTransfer r).dram = s.dram := (congrArg State.dram beside :)
  have eq : (s.endTransfer r) = ((s.withPort { s.port with moverReq := none }).withMover
    { s.mover with state := .ending, heldOn := none, aborting := false }).endOrder .mover .mover r s.mover.figures := rfl
  rw [← eq] at outcome
  generalize s.endTransfer r = e at *
  have f := e.settle_follows
  have stopped : e.moverFree = false := by simp [State.moverFree, ended]
  obtain ⟨mover, request', -, -, queue⟩ := f.quiet stopped
  have running' : e.settle.running .mover = e.running .mover := congrArg Queue.running queue
  rw [mover, request', f.dram, running', ended]
  exact ⟨rfl, request, rfl, dram, outcome⟩

/-- The last chunk is done: the transfer ends. -/
theorem State.settle_ends (free : s.moverFree = true) (done : s.mover.chunkEnd ≤ s.mover.next)
    (turns : s.turnChunk = s.endTransfer r) : s.settle = (s.endTransfer r).settle := by
  have act : s.moverAct = s.endTransfer r := (if_pos done).trans turns
  have stopped : (s.endTransfer r).moverFree = false := by simp [State.moverFree, State.endTransfer_mover]
  have once := State.settleMover_once free (by rw [act]; exact stopped)
  rw [State.settle_of_settleMover (by rw [once, act]; exact stopped), once, act]

end Sys2Proof.Machine
end

section
/-! MOVER_GRANT_END (R57, R58, R65, R137, R138, R142): the words done, and the observation of the last of them. -/

namespace Sys2Proof.Machine

open Sys2Proof

variable {s t u : State} {n : Nat} {obs : Obs} {r : Result}

/-! ### The words of a grant -/

/-- Word `i` of the segment, as a read finds it (R14). -/
def State.moverSource (s : State) (i : Nat) : Word :=
  if 0xE00000 ≤ s.mover.sourceAddr i then s.romWord (s.mover.sourceAddr i - 0xE00000) else s.dramWord (s.mover.sourceAddr i)

/-- The words that a grant of `n` words writes. -/
def Mover.granted (m : Mover) (n : Nat) : List Word := (List.range n).map fun j => (m.wordToWrite (m.next + j)).getD 0

/-- The mover after a grant of `n` words read. -/
def State.moverRead (s : State) (n : Nat) : Mover :=
  { s.mover with
    buffer := s.mover.buffer ++ (List.range n).map fun j => some (s.moverSource (s.mover.next + j)), next := s.mover.next + n }

/-- The mover after a grant of `n` words written. -/
def Mover.wrote (m : Mover) (n : Nat) : Mover :=
  { m with moved := m.moved + n, sum := (m.granted n).foldl (· + ·) m.sum, next := m.next + n }

/-- The DRAM after a grant of words written. -/
def State.moverStored (s : State) (n : Nat) : List Host.Cell :=
  Memory.writeAll s.dram (wordTransfers (s.mover.destAddr s.mover.next) (s.mover.granted n)).flatten

/-- A list built upwards from `i`, as a map over the numbers below its length. -/
theorem map_range_offset {α : Type} (f : Nat → α) (i n : Nat) :
    (List.range (n + 1)).map (fun j => f (i + j)) = f i :: (List.range n).map fun j => f (i + 1 + j) := by
  rw [List.range_succ_eq_map, List.map_cons, List.map_map, Nat.add_zero]
  congr 1
  exact List.map_congr_left fun j _ => congrArg f (by simp only [Nat.succ_eq_add_one]; omega)

theorem Mover.destWords_eq (m : Mover) (i n : Nat) :
    m.destWords i n = (List.range n).map fun j => (m.wordToWrite (i + j)).getD 0 := by
  induction n generalizing i with
  | zero => rfl
  | succ n ih => rw [Mover.destWords, ih, map_range_offset fun j => (m.wordToWrite j).getD 0]

theorem State.sourceWords_eq (s : State) (i n : Nat) :
    s.sourceWords i n = (List.range n).map fun j => s.moverSource (i + j) := by
  induction n generalizing i with
  | zero => rfl
  | succ n ih =>
    rw [State.sourceWords, ih, map_range_offset s.moverSource]
    rfl

/-- The mover reads the words of its chunk, also where a word of it is HELD (R135). -/
theorem Mover.work_reading {m : Mover} (h : m.state = .reading ∨ m.state = .held ∧ m.heldWrite = false) : m.work = .reading := by
  rcases h with state | ⟨state, reads⟩
  · simp only [Mover.work, state]
  · simp [Mover.work, state, reads]

theorem Mover.work_writing {m : Mover} (h : m.state = .writing ∨ m.state = .held ∧ m.heldWrite = true) : m.work = .writing := by
  rcases h with state | ⟨state, writes⟩
  · simp only [Mover.work, state]
  · simp [Mover.work, state, writes]

/-- What the end of a grant makes of a state in which its words stand in memory, the mover's words being done. -/
def State.wordsDone (v : State) (n : Nat) (obs : Obs) (m : Mover) : State :=
  match v.mover.access (v.mover.next + n - 1) with
  | some a => (v.withMover m.passCancelled).applyObs obs .mover a.op a.addr
  | none => v.withMover m.passCancelled

theorem State.endMoverGrant_eq (v : State) : v.endMoverGrant n obs = if (v.wordsDone n obs (v.moverDone n)).mover.aborting
    then (v.wordsDone n obs (v.moverDone n)).stopTransfer else v.wordsDone n obs (v.moverDone n) := rfl

theorem exec_moverGrantEnd (grant : s.port.grant = some (.mover n obs)) :
    exec .moverGrantEnd s = finish ((s.endGrant (.mover n obs)).endMoverGrant n obs) := by
  change execMoverGrantEnd s = _
  simp only [execMoverGrantEnd, grant]

/-- A grant of words read ends. -/
theorem exec_moverGrantEnd_read (grant : s.port.grant = some (.mover n obs)) (reads : s.mover.work = .reading) :
    exec .moverGrantEnd s = finish
      (if (s.freePort.wordsDone n obs (s.moverRead n)).mover.aborting
        then (s.freePort.wordsDone n obs (s.moverRead n)).stopTransfer
        else s.freePort.wordsDone n obs (s.moverRead n)) := by
  have ended : s.endGrant (.mover n obs) = s.freePort := by
    have none : s.moverTransfers n = [] := if_neg (by rw [reads]; nofun)
    rw [State.endGrant, State.grantTransfers, none]
    rfl
  have done : s.freePort.moverDone n = s.moverRead n := by
    have work : s.freePort.mover.work = .reading := reads
    rw [State.moverDone]
    simp only [work, State.sourceWords_eq, List.map_map]
    rfl
  rw [exec_moverGrantEnd grant, ended, State.endMoverGrant_eq, done]

/-- A grant of words written ends. -/
theorem exec_moverGrantEnd_write (grant : s.port.grant = some (.mover n obs)) (writes : s.mover.work = .writing) :
    exec .moverGrantEnd s = finish
      (if ((s.freePort.withDram (s.moverStored n)).wordsDone n obs (s.mover.wrote n)).mover.aborting
        then ((s.freePort.withDram (s.moverStored n)).wordsDone n obs (s.mover.wrote n)).stopTransfer
        else (s.freePort.withDram (s.moverStored n)).wordsDone n obs (s.mover.wrote n)) := by
  have ended : s.endGrant (.mover n obs) = s.freePort.withDram (s.moverStored n) := by
    rw [State.endGrant, State.grantTransfers, State.moverTransfers, if_pos writes, Mover.destWords_eq]
    rfl
  have done : (s.freePort.withDram (s.moverStored n)).moverDone n = s.mover.wrote n := by
    have work : (s.freePort.withDram (s.moverStored n)).mover.work = .writing := writes
    rw [State.moverDone]
    simp only [work, Mover.destWords_eq]
    rfl
  rw [exec_moverGrantEnd grant, ended, State.endMoverGrant_eq, done]

/-! ### The observation leaves the mover -/

section
variable {b : Fin 4} (who : Requester) (op : AccessOp) (addr : Nat)

/-- What an observation leaves for the mover: its record, whether it waits for a grant, and the Intake. -/
structure MoverStands (s t : State) : Prop where
  mover : t.mover = s.mover
  request : s.port.moverReq = none → t.port.moverReq = none
  grant : t.port.grant = s.port.grant
  intake : t.intake = s.intake

theorem MoverStands.refl (s : State) : MoverStands s s := ⟨rfl, id, rfl, rfl⟩

theorem MoverStands.trans (h : MoverStands s t) (h' : MoverStands t u) : MoverStands s u :=
  ⟨h'.mover.trans h.mover, h'.request ∘ h.request, h'.grant.trans h.grant, h'.intake.trans h.intake⟩

theorem State.withLines_moverStands (y : Band) : MoverStands s (s.withLines b y) := by
  refine ⟨rfl, fun h => ?_, rfl, rfl⟩
  change s.port.moverReq.map _ = none
  rw [h]
  rfl

theorem State.withCount_moverStands (y : Band) (up : Bool) : MoverStands s (s.withCount b y up) := by
  have beside := s.withCount_beside b y up
  have lines := State.withLines_moverStands (s := s) (b := b) (y.noticeTest up).1
  exact ⟨(State.mover_of_besideReports beside).trans lines.mover,
    fun h => (congrArg Port.moverReq (State.port_of_besideReports beside)).trans (lines.request h),
    (congrArg Port.grant (State.port_of_besideReports beside)).trans lines.grant, State.withCount_intake ..⟩

theorem State.resumeP_moverStands : MoverStands s (s.resumeP b) := by
  have beside := s.resumeP_besidePrint b
  exact ⟨(congrArg State.mover beside :), (congrArg (fun v : State => v.port.moverReq) beside).trans,
    (congrArg (fun v : State => v.port.grant) beside :), by unfold State.resumeP; (repeat' split) <;> simp⟩

theorem State.withCapture_moverStands (c : CaptureEngine) : MoverStands s (s.withCapture c) := ⟨rfl, id, rfl, rfl⟩

theorem State.withChanD_moverStands (c : Channel) : MoverStands s (s.withChanD c) := ⟨rfl, id, rfl, rfl⟩

theorem State.beginLine_moverStands (p : CaptureParams) (q : CaptureRecord) : MoverStands s (s.beginLine p q) := by
  unfold State.beginLine
  split
  · exact (State.withCapture_moverStands _).trans (State.withLines_moverStands _)
  · exact ⟨rfl, id, rfl, rfl⟩

theorem State.captureProceed_moverStands (p : CaptureParams) (q : CaptureRecord) (level : Nat) :
    MoverStands s (s.captureProceed p q level) := by
  unfold State.captureProceed
  exact (State.withChanD_moverStands _).trans (State.beginLine_moverStands ..)

theorem State.resumeD_moverStands : MoverStands s (s.resumeD b) := by
  unfold State.resumeD
  (repeat' split) <;> first
    | exact .refl s
    | exact State.captureProceed_moverStands ..

theorem State.raiseFault_moverStands (f : PassageFault) : MoverStands s (s.raiseFault f) :=
  ⟨State.raiseFault_mover f, fun h => (congrArg Port.moverReq (State.raiseFault_port f)).trans h,
    congrArg Port.grant (State.raiseFault_port f), by simp⟩

theorem State.applyObs_moverStands (obs : Obs) : MoverStands s (s.applyObs obs who op addr) := by
  unfold State.applyObs
  (repeat' split) <;> first
    | exact .refl s
    | exact (State.withCount_moverStands ..).trans State.resumeP_moverStands
    | exact (State.withCount_moverStands ..).trans State.resumeD_moverStands
    | exact State.raiseFault_moverStands _

end

section
variable {m : Mover}

/-- The words done stand in the mover's record whatever is observed of them. -/
theorem State.wordsDone_stands (v : State) : MoverStands (v.withMover m.passCancelled) (v.wordsDone n obs m) := by
  unfold State.wordsDone
  split
  · exact State.applyObs_moverStands ..
  · exact .refl _

theorem State.wordsDone_dram (v : State) : (v.wordsDone n obs m).dram = v.dram := by
  unfold State.wordsDone
  split
  · exact congrArg Outside.dram (State.applyObs_outside (s := v.withMover m.passCancelled) ..)
  · rfl

theorem State.wordsDone_nothing (v : State) : v.wordsDone n .nothing m = v.withMover m.passCancelled := by
  unfold State.wordsDone
  split <;> rfl

theorem State.wordsDone_observed {a : Access} (v : State) (access : v.mover.access (v.mover.next + n - 1) = some a)
    (plain : m.passOver = false) : v.wordsDone n obs m = (v.withMover m).applyObs obs .mover a.op a.addr := by
  have stands : m.passCancelled = m := if_neg (by rw [plain]; nofun)
  simp only [State.wordsDone, access, stands]

theorem Mover.passCancelled_keeps (m : Mover) : m.passCancelled.aborting = m.aborting ∧ m.passCancelled.moved = m.moved
    ∧ m.passCancelled.sum = m.sum := by
  unfold Mover.passCancelled Mover.skip
  split <;> exact ⟨rfl, rfl, rfl⟩

/-- A grant that an ABORT waited for: the transfer ends ABORTED, its chunk buffer empty (R142; log 44). -/
theorem State.wordsDone_stopped (v : State) {ro : Running} (running : v.running .mover = some ro) :
    (v.wordsDone n obs m).stopTransfer.settle.mover.state = .ending
      ∧ (v.wordsDone n obs m).stopTransfer.settle.port.moverReq = none
      ∧ (v.wordsDone n obs m).stopTransfer.settle.mover.buffer = []
      ∧ (v.wordsDone n obs m).stopTransfer.settle.dram = v.dram
      ∧ ((v.wordsDone n obs m).stopTransfer.settle.running .mover).map (fun x => (x.result, x.figures))
        = some (.aborted, [wordNat (m.moved / 65536), wordNat m.moved, m.sum]) := by
  have stands := v.wordsDone_stands (n := n) (obs := obs) (m := m)
  have dram := v.wordsDone_dram (n := n) (obs := obs) (m := m)
  obtain ⟨-, moved, sum⟩ := m.passCancelled_keeps
  generalize v.wordsDone n obs m = w at *
  have runs : (w.withMover { w.mover with buffer := [] }).running .mover = some ro := by
    rw [← running]
    exact congrArg (fun i : Intake => (i.queue .mover).running) stands.intake
  obtain ⟨state, request, buffer, dram', outcome⟩ := State.endTransfer_settles runs .aborted
  refine ⟨state, request, buffer, dram'.trans dram, outcome.trans ?_⟩
  have mover : w.mover = m.passCancelled := stands.mover
  change some (Result.aborted, [wordNat (w.mover.moved / 65536), wordNat w.mover.moved, w.mover.sum]) = _
  rw [mover, moved, sum]

end

end Sys2Proof.Machine
end

section
/-! What the Block Mover goes on with when its grant ends (R65, R136 to R142). -/

namespace Sys2Proof.Machine

open Sys2Proof

variable {s t u : State} {n : Nat} {obs : Obs} {r : Result} {m : Mover} {d : List Host.Cell} {a : Access}

/-! ### The turn of a chunk (R136) -/

theorem Mover.beginChunk_eq (m : Mover) (first : Nat) : m.beginChunk first
    = { m with
      chunkFirst := first, chunkSize := min 16 (m.segWords - first), next := first, buffer := []
      state := if m.params.mode = .copy then .reading else .writing } := by
  unfold Mover.beginChunk
  cases m.params.mode <;> rfl

theorem Mover.beginChunk_goes (m : Mover) {first : Nat} (left : first < m.segWords) :
    ((m.beginChunk first).state = .reading ∨ (m.beginChunk first).state = .writing)
      ∧ (m.beginChunk first).next < (m.beginChunk first).chunkEnd := by
  rw [Mover.beginChunk_eq, Mover.chunkEnd]
  refine ⟨?_, ?_⟩
  · dsimp only
    split
    · exact .inl rfl
    · exact .inr rfl
  · dsimp only
    omega

theorem State.turnChunk_read (state : s.mover.state = .reading) :
    s.turnChunk = s.withMover { s.mover with state := .writing, next := s.mover.chunkFirst } := by
  simp only [State.turnChunk, state]

theorem State.turnChunk_next (state : s.mover.state = .writing) (more : s.mover.chunkEnd < s.mover.segWords) :
    s.turnChunk = s.withMover (s.mover.beginChunk s.mover.chunkEnd) := by
  simp only [State.turnChunk, state, if_pos more]

section
variable (state : s.mover.state = .writing) (last : s.mover.segWords ≤ s.mover.chunkEnd)
include state last

theorem State.turnChunk_segment (first : s.mover.segment = 1) (second : s.mover.params.seg2.length ≠ 0) :
    s.turnChunk = s.withMover ({ s.mover with segment := 2 }.beginChunk 0) := by
  have two : s.mover.segment = 1 ∧ s.mover.params.seg2.length ≠ 0 := ⟨first, second⟩
  simp only [State.turnChunk, state, if_neg (Nat.not_lt.mpr last), if_pos two]

theorem State.turnChunk_ends (none : s.mover.segment ≠ 1 ∨ s.mover.params.seg2.length = 0) :
    s.turnChunk = s.endTransfer .ok := by
  have two : ¬ (s.mover.segment = 1 ∧ s.mover.params.seg2.length ≠ 0) := fun h => none.elim (· h.1) h.2
  simp only [State.turnChunk, state, if_neg (Nat.not_lt.mpr last), if_neg two]

end

/-! ### The words done -/

/-- The mover's record and the DRAM after a grant of `n` words, the mover READING or WRITING. -/
def State.GrantDone (s : State) (n : Nat) (m : Mover) (d : List Host.Cell) : Prop :=
  s.mover.state = .reading ∧ m = s.moverRead n ∧ d = s.dram
    ∨ s.mover.state = .writing ∧ m = s.mover.wrote n ∧ d = s.moverStored n

/-- The state once the words of a grant are done and nothing of them is observed. -/
def State.moved (s : State) (m : Mover) (d : List Host.Cell) : State := (s.freePort.withDram d).withMover m

theorem State.wordsDone_aborting (v : State) : (v.wordsDone n obs m).mover.aborting = m.aborting :=
  (congrArg Mover.aborting v.wordsDone_stands.mover :).trans m.passCancelled_keeps.1

namespace State.GrantDone
variable (done : s.GrantDone n m d)
include done

theorem keeps : m.state = s.mover.state ∧ m.next = s.mover.next + n ∧ m.chunkFirst = s.mover.chunkFirst
    ∧ m.chunkSize = s.mover.chunkSize ∧ m.params = s.mover.params ∧ m.segment = s.mover.segment
    ∧ m.aborting = s.mover.aborting ∧ m.passOver = s.mover.passOver := by
  rcases done with ⟨-, rfl, -⟩ | ⟨-, rfl, -⟩ <;> exact ⟨rfl, rfl, rfl, rfl, rfl, rfl, rfl, rfl⟩

theorem run (grant : s.port.grant = some (.mover n obs)) : exec .moverGrantEnd s = finish
    (if ((s.freePort.withDram d).wordsDone n obs m).mover.aborting
      then ((s.freePort.withDram d).wordsDone n obs m).stopTransfer else (s.freePort.withDram d).wordsDone n obs m) := by
  rcases done with ⟨state, rfl, rfl⟩ | ⟨state, rfl, rfl⟩
  · exact exec_moverGrantEnd_read grant (Mover.work_reading (.inl state))
  · exact exec_moverGrantEnd_write grant (Mover.work_writing (.inl state))

theorem goes (grant : s.port.grant = some (.mover n obs)) (going : s.mover.aborting = false) :
    exec .moverGrantEnd s = finish ((s.freePort.withDram d).wordsDone n obs m) := by
  obtain ⟨-, -, -, -, -, -, aborting, -⟩ := done.keeps
  rw [done.run grant, if_neg (by rw [State.wordsDone_aborting, aborting, going]; nofun)]

theorem plain (grant : s.port.grant = some (.mover n .nothing)) (going : s.mover.aborting = false)
    (whole : s.mover.passOver = false) : exec .moverGrantEnd s = finish (s.moved m d) := by
  obtain ⟨-, -, -, -, -, -, -, passOver⟩ := done.keeps
  have stands : m.passCancelled = m := if_neg (by rw [passOver, whole]; nofun)
  rw [done.goes grant going, State.wordsDone_nothing, stands]
  rfl

theorem free (request : s.port.moverReq = none) : (s.moved m d).moverFree = true := by
  have state := done.keeps.1
  refine State.moverFree_iff.mpr ⟨?_, request, State.moverGranted_of_none rfl⟩
  change m.state = .reading ∨ m.state = .writing
  rw [state]
  rcases done with ⟨state, -⟩ | ⟨state, -⟩
  · exact .inl state
  · exact .inr state

end State.GrantDone

/-- The mover's words are judged as before the grant ended. -/
theorem State.classify_moved (a : Access) : (s.moved m d).classify .mover a = s.classify .mover a := by
  have windows : (s.moved m d).windowTreatment .mover a = s.windowTreatment .mover a :=
    State.windowTreatment_mover_congr rfl rfl (fun _ => rfl) rfl
  unfold State.classify
  rw [windows]
  rfl

end Sys2Proof.Machine
end

section
/-! MOVER_GRANT_END settled. -/

namespace Sys2Proof.Machine

open Sys2Proof

variable {s t u : State} {n : Nat} {obs : Obs} {r : Result} {m : Mover} {d : List Host.Cell} {a : Access}

/-! ### Words read and written, with nothing observed -/

theorem Mover.passCancelled_plain (whole : m.passOver = false) : m.passCancelled = m := if_neg (by rw [whole]; nofun)

theorem moverGrant_reads (grant : s.port.grant = some (.mover n .nothing)) (reads : s.mover.work = .reading)
    (going : s.mover.aborting = false) :
    Leads .moverGrantEnd s (s.freePort.withMover (s.moverRead n).passCancelled) := by
  have run := exec_moverGrantEnd_read grant reads
  rw [if_neg (by rw [State.wordsDone_aborting]; exact Bool.eq_false_iff.mp going), State.wordsDone_nothing] at run
  exact leads_of_finish run

theorem moverGrant_writes (grant : s.port.grant = some (.mover n .nothing)) (writes : s.mover.work = .writing)
    (going : s.mover.aborting = false) :
    Leads .moverGrantEnd s ((s.freePort.withDram (s.moverStored n)).withMover (s.mover.wrote n).passCancelled) := by
  have run := exec_moverGrantEnd_write grant writes
  rw [if_neg (by rw [State.wordsDone_aborting]; exact Bool.eq_false_iff.mp going), State.wordsDone_nothing] at run
  exact leads_of_finish run

/-- A word cancelled meanwhile is passed over (R18, R139). -/
theorem Mover.passCancelled_over (cancelled : m.passOver = true) : m.passCancelled
    = { m with
      next := m.next + 1, buffer := if m.state = .reading then m.buffer ++ [none] else m.buffer, passOver := false } :=
  if_pos cancelled

/-! ### The next word of the chunk -/

section
variable (done : s.GrantDone n m d) (grant : s.port.grant = some (.mover n .nothing)) (going : s.mover.aborting = false)
  (whole : s.mover.passOver = false) (request : s.port.moverReq = none)
include done grant going whole request

theorem moverGrant_next (within : m.next < m.chunkEnd) (access : m.access m.next = some a) :
    ∃ t, exec .moverGrantEnd s = .next t
      ∧ (∀ path, s.classify .mover a = .pass path → t.mover = m ∧ t.port.moverReq ≠ none)
      ∧ (∀ b line, s.classify .mover a = .hold (.line b line) → t.port.moverReq = none ∧ t.mover = { m with
        state := .held, heldOn := some (b, line), heldWrite := decide (s.mover.state = .writing) })
      ∧ (∀ code reason addr data, s.classify .mover a = .drop code reason addr data → s.hasReports = true →
        s.reports.pending.length < 8 → t.mover.moved = m.moved ∧ t.mover.sum = m.sum
          ∧ s.reports.pending ++ [passageReport ⟨code, reason, .mover, a.op, addr, 0⟩ s.passage.unposted]
            <+: t.reports.pending) := by
  have run := done.plain grant going whole
  have free := done.free request
  have judged (x : Access) : (s.moved m d).classify .mover x = s.classify .mover x := State.classify_moved x
  have state := done.keeps.1
  have account := (s.moved m d).settle_account
  refine ⟨_, run, fun path passes => ?_, fun b line holds => ?_, fun code reason addr data drops area room => ?_⟩
  · exact State.settle_asksBurst (s := s.moved m d) within access free ((judged a).trans passes)
  · rw [← state]
    exact State.settle_holds (s := s.moved m d) within access free ((judged a).trans holds)
  · exact ⟨(congrArg (·.2.1) account :), (congrArg (·.2.2) account :),
      State.settle_drops (s := s.moved m d) within access free ((judged a).trans drops) area room⟩

/-- A chunk is done, and the first of the words that follow passes. -/
theorem moverGrant_turns {m' : Mover} {path : Path} (full : m.chunkEnd ≤ m.next)
    (turns : (s.moved m d).turnChunk = (s.moved m d).withMover m') (goes : m'.state = .reading ∨ m'.state = .writing)
    (within : m'.next < m'.chunkEnd) (access : m'.access m'.next = some a) (passes : s.classify .mover a = .pass path) :
    ∃ t, exec .moverGrantEnd s = .next t ∧ t.mover = m' ∧ t.port.moverReq ≠ none :=
  ⟨_, done.plain grant going whole, State.settle_turns (s := s.moved m d) (done.free request) full turns goes within access
    ((State.classify_moved a).trans passes)⟩

end

/-! ### The end of the transfer -/

section
variable {ro : Running} (running : s.running .mover = some ro)
include running

/-- An ABORT that waited for the grant (R142; log 44). -/
theorem moverGrant_aborts (done : s.GrantDone n m d) (grant : s.port.grant = some (.mover n obs))
    (stop : s.mover.aborting = true) : ∃ t, exec .moverGrantEnd s = .next t ∧ t.mover.state = .ending ∧ t.port.moverReq = none
      ∧ t.mover.buffer = [] ∧ t.dram = d ∧ (t.running .mover).map (fun x => (x.result, x.figures))
        = some (.aborted, [wordNat (m.moved / 65536), wordNat m.moved, m.sum]) := by
  have aborting : m.aborting = true := done.keeps.2.2.2.2.2.2.1.trans stop
  have run := (done.run grant).trans (congrArg finish (if_pos ((State.wordsDone_aborting _).trans aborting)))
  exact ⟨_, run, State.wordsDone_stopped (s.freePort.withDram d) running⟩

/-- The last chunk of the last segment has been written (R136, R141). -/
theorem moverGrant_ends (grant : s.port.grant = some (.mover n obs)) (state : s.mover.state = .writing)
    (going : s.mover.aborting = false) (whole : s.mover.passOver = false) (request : s.port.moverReq = none)
    (full : (s.mover.wrote n).chunkEnd = s.mover.next + n) (last : s.mover.segWords ≤ s.mover.next + n)
    (none : s.mover.segment ≠ 1 ∨ s.mover.params.seg2.length = 0) : ∃ t, exec .moverGrantEnd s = .next t
      ∧ t.mover.state = .ending ∧ t.port.moverReq = Option.none ∧ t.dram = s.moverStored n
      ∧ (t.running .mover).map (fun x => (x.result, x.figures)) = some (.ok,
        [wordNat ((s.mover.wrote n).moved / 65536), wordNat (s.mover.wrote n).moved, (s.mover.wrote n).sum]) := by
  have done : s.GrantDone n (s.mover.wrote n) (s.moverStored n) := .inr ⟨state, rfl, rfl⟩
  have run := done.goes grant going
  have stands := (s.freePort.withDram (s.moverStored n)).wordsDone_stands (n := n) (obs := obs) (m := s.mover.wrote n)
  have dram := (s.freePort.withDram (s.moverStored n)).wordsDone_dram (n := n) (obs := obs) (m := s.mover.wrote n)
  have mover := stands.mover
  rw [Mover.passCancelled_plain (by exact whole)] at stands mover
  generalize (s.freePort.withDram (s.moverStored n)).wordsDone n obs (s.mover.wrote n) = w at *
  have free : w.moverFree = true := by
    refine State.moverFree_iff.mpr ⟨.inr ?_, stands.request request, State.moverGranted_of_none stands.grant⟩
    rw [mover]
    exact state
  have ends : w.turnChunk = w.endTransfer .ok := by
    refine State.turnChunk_ends ?_ ?_ ?_ <;> rw [mover]
    · exact state
    · exact last.trans full.ge
    · exact none
  have settled := State.settle_ends free (by rw [mover]; exact full.le) ends
  have runs : w.running .mover = some ro := by
    rw [← running]
    exact congrArg (fun i : Intake => (i.queue .mover).running) stands.intake
  obtain ⟨ending, request', -, dram', outcome⟩ := State.endTransfer_settles runs .ok
  rw [← settled] at ending request' dram' outcome
  have mover' : w.mover = s.mover.wrote n := mover
  rw [mover'] at outcome
  exact ⟨_, run, ending, request', dram'.trans dram, outcome⟩

end

/-! ### The observation of the last word (R57, R58, R65) -/

theorem moverGrant_observes (done : s.GrantDone n m d) (grant : s.port.grant = some (.mover n obs))
    (going : s.mover.aborting = false) (whole : s.mover.passOver = false)
    (access : s.mover.access (s.mover.next + n - 1) = some a) :
    exec .moverGrantEnd s = finish ((s.moved m d).applyObs obs .mover a.op a.addr) := by
  have plain : m.passOver = false := done.keeps.2.2.2.2.2.2.2.trans whole
  rw [done.goes grant going, State.wordsDone_observed (s.freePort.withDram d) access plain]
  rfl

/-- Settles O56. -/
theorem moverGrantsDoTheirWords : Obligations.MoverGrantsDoTheirWords := by
  intro s n obs grant m v source written read wrote stored reads writes words ended
  refine ⟨fun nothing => ?plain, fun state going whole request full last none ro running => ?ended,
    fun state stop ro running => ?readAborted, fun state stop ro running => ?writeAborted,
    fun a m' d going whole access done => ?observed⟩
  case plain =>
    subst nothing
    refine ⟨fun reads going whole => ?reads, fun writes going whole => ?writes, fun state going cancelled => ?readOver,
      fun state going cancelled => ?writeOver, fun m' a going whole request done within access => ?next,
      fun going whole request some full => ?turns⟩
    case reads =>
      have done := moverGrant_reads grant (Mover.work_reading reads) going
      rw [Mover.passCancelled_plain (by exact whole)] at done
      exact done
    case writes =>
      have done := moverGrant_writes grant (Mover.work_writing writes) going
      rw [Mover.passCancelled_plain (by exact whole)] at done
      exact done
    case readOver =>
      have done := moverGrant_reads grant (Mover.work_reading (.inl state)) going
      rw [Mover.passCancelled_over (by exact cancelled), if_pos (by exact state)] at done
      exact done
    case writeOver =>
      have done := moverGrant_writes grant (Mover.work_writing (.inl state)) going
      have other : (s.mover.wrote n).state ≠ .reading := fun reading => by cases state.symm.trans reading
      rw [Mover.passCancelled_over (by exact cancelled), if_neg other] at done
      exact done
    case next =>
      obtain ⟨d, done⟩ : ∃ d, s.GrantDone n m' d := by
        rcases done with ⟨state, same⟩ | ⟨state, same⟩
        · exact ⟨_, .inl ⟨state, same, rfl⟩⟩
        · exact ⟨_, .inr ⟨state, same, rfl⟩⟩
      exact moverGrant_next done grant going whole request within access
    case turns =>
      intro begins chunk
      refine ⟨fun state => ?_, fun state more => ?_, fun state last first second => ?_⟩
      all_goals intro a path access passes
      · have done : s.GrantDone n (s.moverRead n) s.dram := .inl ⟨state, rfl, rfl⟩
        exact moverGrant_turns done grant going whole request full.ge (State.turnChunk_read (s := s.moved _ _) state) (.inr rfl)
          (Nat.lt_add_of_pos_right some) access passes
      all_goals have done : s.GrantDone n (s.mover.wrote n) (s.moverStored n) := .inr ⟨state, rfl, rfl⟩
      · have ends : (s.mover.wrote n).chunkEnd = s.mover.next + n := full.symm
        have turns := State.turnChunk_next (s := s.moved (s.mover.wrote n) (s.moverStored n)) state (lt_of_eq_of_lt ends more)
        obtain ⟨goes, within⟩ := (s.mover.wrote n).beginChunk_goes (first := (s.mover.wrote n).chunkEnd)
          (lt_of_eq_of_lt ends more)
        have same : (s.mover.wrote n).beginChunk (s.mover.wrote n).chunkEnd = chunk wrote (m.next + n) words := by
          rw [Mover.beginChunk_eq, ends]
          rfl
        rw [same] at goes within
        exact moverGrant_turns done grant going whole request full.ge (turns.trans (congrArg _ same)) goes within access passes
      · have ends : (s.mover.wrote n).chunkEnd = s.mover.next + n := full.symm
        have turns := State.turnChunk_segment (s := s.moved (s.mover.wrote n) (s.moverStored n)) state
          (last.trans ends.ge) first (by exact Nat.ne_of_gt (Nat.lt_of_lt_of_le Nat.zero_lt_two second))
        obtain ⟨goes, within⟩ := { s.mover.wrote n with segment := 2 }.beginChunk_goes (first := 0)
          (by exact Nat.div_pos second Nat.zero_lt_two)
        have same : { s.mover.wrote n with segment := 2 }.beginChunk 0
            = chunk { wrote with segment := 2 } 0 (m.params.seg2.length / 2) := Mover.beginChunk_eq ..
        rw [same] at goes within
        exact moverGrant_turns done grant going whole request full.ge (turns.trans (congrArg _ same)) goes within access passes
  case ended =>
    obtain ⟨t, ht, state', request', dram, outcome⟩ :=
      moverGrant_ends running grant state going whole request full.symm last none
    exact ⟨t, ht, state', request', nofun, dram.trans (if_pos state).symm, outcome⟩
  case readAborted =>
    have done : s.GrantDone n (s.moverRead n) s.dram := .inl ⟨state, rfl, rfl⟩
    obtain ⟨t, ht, state', request', buffer, dram, outcome⟩ := moverGrant_aborts running done grant stop
    have other : m.state ≠ .writing := fun writing => by cases state.symm.trans writing
    exact ⟨t, ht, state', request', fun _ => buffer, dram.trans (if_neg other).symm, outcome⟩
  case writeAborted =>
    have done : s.GrantDone n (s.mover.wrote n) (s.moverStored n) := .inr ⟨state, rfl, rfl⟩
    obtain ⟨t, ht, state', request', buffer, dram, outcome⟩ := moverGrant_aborts running done grant stop
    exact ⟨t, ht, state', request', fun _ => buffer, dram.trans (if_pos state).symm, outcome⟩
  case observed =>
    have run := moverGrant_observes done grant going whole access
    intro u
    refine ⟨fun b line fill => ⟨fun role next room quiet => ?_, fun left => ?_⟩,
      fun b line drain => ⟨fun role next ready quiet => ?_, fun left => ?_⟩, fun b order => ?_⟩ <;> subst_vars
    · have fills := State.applyObs_fill (s := s.moved m' d) (who := .mover) (op := a.op) (addr := a.addr) role rfl room quiet
      exact leads_of_finish (run.trans (congrArg finish fills))
    · rw [State.applyObs_fill_not_made (s := s.moved m' d) left] at run
      exact leads_of_finish run
    · have drains := State.applyObs_drain (s := s.moved m' d) (who := .mover) (op := a.op) (addr := a.addr) role rfl ready quiet
      exact leads_of_finish (run.trans (congrArg finish drains))
    · rw [State.applyObs_drain_not_made (s := s.moved m' d) left] at run
      exact leads_of_finish run
    · exact leads_of_finish run

end Sys2Proof.Machine
end

section
/-! The resumption of a paused channel (R125, R128). -/

namespace Sys2Proof.Machine

open Sys2Proof

variable {s t u v : State} {p : CaptureParams} {r : CaptureRecord} {b : Fin 4}

/-! ### Channel D -/

/-- Channel D moves again at level 0 (R125). -/
def Channel.resumed (x : Channel) (interval : Nat) : Channel :=
  { x with
    k := 0, state := .moving, asked := x.runLevel, holdTimer := none, pauseTimer := none, stepTimer := some interval }

/-- Channel D has resumed a CAPTURE: it moves at level 0, and the scan line is counted and begun, or overrun (R96, R125). -/
def LineResumed (s t : State) (p : CaptureParams) (r : CaptureRecord) : Prop :=
  t.chanD = s.chanD.resumed (intervalAt s.profiles[p.profile] 0)
  ∧ ∃ r', t.capture.record = some r' ∧ r'.scanLines = (if 65535 ≤ r.scanLines + 1 then 65535 else r.scanLines + 1)
    ∧ (∀ i, s.capture.freeStore = some i → s.capture.clocking = none → t.capture.store i ≠ .empty
      ∧ r'.overruns = r.overruns)
    ∧ (s.capture.freeStore = none ∨ s.capture.clocking ≠ none →
      r'.overruns = if 65535 ≤ r.overruns + 1 then 65535 else r.overruns + 1)

theorem LineResumed.after (h : LineResumed s u p r) (chanD : t.chanD = u.chanD) (capture : t.capture = u.capture) :
    LineResumed s t p r := by
  unfold LineResumed at h ⊢
  rw [chanD, capture]
  exact h

/-- What an event leaves of a paused CAPTURE: the engine, channel D, the order, and the notices that wait. -/
structure ScanStands (s v : State) : Prop where
  capture : v.capture = s.capture
  chanD : v.chanD = s.chanD
  profiles : v.profiles = s.profiles
  running : v.running .d = s.running .d
  notice : ∀ b, v.noticeWaits b = s.noticeWaits b

theorem ScanStands.trans (h : ScanStands s t) (h' : ScanStands t u) : ScanStands s u :=
  ⟨h'.capture.trans h.capture, h'.chanD.trans h.chanD, h'.profiles.trans h.profiles, h'.running.trans h.running,
    fun b => (h'.notice b).trans (h.notice b)⟩

theorem ScanStands.refl (s : State) : ScanStands s s := ⟨rfl, rfl, rfl, rfl, fun _ => rfl⟩

theorem ScanStands.captureNow (h : ScanStands s v) : v.captureNow = s.captureNow := by
  simp only [State.captureNow, State.activeWork, h.running, h.capture]

theorem State.captureProceed_resumes (h : ScanStands s v) : LineResumed s (v.captureProceed p r 0) p r := by
  have proceeds : v.captureProceed p r 0
      = (v.withChanD (s.chanD.resumed (intervalAt s.profiles[p.profile] 0))).beginLine p r.lined := by
    rw [← h.chanD, ← h.profiles]
    rfl
  rw [proceeds]
  refine ⟨State.beginLine_chanD, ?_⟩
  by_cases free : ∃ i, s.capture.freeStore = some i ∧ s.capture.clocking = none
  · obtain ⟨i, free, still⟩ := free
    obtain ⟨-, store, record, -⟩ := State.beginLine_claims
      (s := v.withChanD (s.chanD.resumed (intervalAt s.profiles[p.profile] 0))) (p := p) (q := r.lined) (i := i)
      (by rw [← h.capture] at free; exact free) (by rw [← h.capture] at still; exact still)
    refine ⟨_, record, rfl, fun j other _ => ?_, fun busy => ?_⟩
    · cases free.symm.trans other
      exact ⟨by rw [store]; nofun, rfl⟩
    · simp [free, still] at busy
  · have busy : s.capture.freeStore = none ∨ s.capture.clocking ≠ none := by
      cases store : s.capture.freeStore with
      | none => exact .inl rfl
      | some i => exact .inr fun still => free ⟨i, store, still⟩
    have overruns := State.beginLine_overruns
      (s := v.withChanD (s.chanD.resumed (intervalAt s.profiles[p.profile] 0))) (p := p) (q := r.lined)
      (by rw [← h.capture] at busy; exact busy)
    rw [overruns]
    exact ⟨_, rfl, rfl, fun i store still => absurd ⟨i, store, still⟩ free, fun _ => rfl⟩

section
variable (h : ScanStands s v) (now : s.captureNow = some (p, r)) (paused : s.chanD.state = .paused)
include h now paused

/-- With supply, and no notice of the band that waits, channel D resumes. -/
theorem State.resumeD_resumes (quiet : s.noticeWaits p.band = false) (supply : 0 < v.bands[p.band].captureSupply) :
    LineResumed s (v.resumeD p.band) p r := by
  have count : 0 < v.captureCount p.band := by
    rw [State.captureCount, h.notice, quiet, if_neg nofun]
    exact supply
  have now' : v.captureNow = some (p, r) := h.captureNow.trans now
  have resumes : v.resumeD p.band = v.captureProceed p r 0 := by
    simp only [State.resumeD, now']
    exact if_pos ⟨by rw [h.chanD]; exact paused, trivial, count⟩
  rw [resumes]
  exact State.captureProceed_resumes h

omit paused in
/-- While a notice of the band waits channel D stays as it is (R128). -/
theorem State.resumeD_waits (waits : s.noticeWaits p.band = true) : v.resumeD p.band = v := by
  have count : v.captureCount p.band = 0 := by rw [State.captureCount, h.notice, waits, if_pos rfl]
  simp only [State.resumeD, h.captureNow.trans now]
  exact if_neg fun k => by rw [count] at k; exact absurd k.2.2 (Nat.lt_irrefl 0)

/-- An event that frees a line of the band of a paused CAPTURE resumes it, but while a notice of the band waits. -/
theorem resumes_of {c : Instr} {e : State} (run : exec c e = finish u) (supply : 0 < v.bands[p.band].captureSupply)
    (chanD : u.chanD = (v.resumeD p.band).chanD) (capture : u.capture = (v.resumeD p.band).capture) :
    ∃ t, exec c e = .next t ∧ (s.noticeWaits p.band = false → LineResumed s t p r)
      ∧ (s.noticeWaits p.band = true → t.chanD = s.chanD) := by
  obtain ⟨t, ht, f⟩ := leads_of_finish run
  refine ⟨t, ht, fun quiet => ?_, fun waits => ?_⟩
  · have resumed := (State.resumeD_resumes h now paused quiet supply).after chanD capture
    exact resumed.after (f.chanD.stands (by rw [resumed.1, Channel.resumed]; nofun)) f.capture
  · have stays : u.chanD = s.chanD := by rw [chanD, State.resumeD_waits h now waits, h.chanD]
    exact (f.chanD.stands (by rw [stays, paused]; nofun)).trans stays

end

/-! ### Operations that leave a paused CAPTURE -/

theorem State.raiseFault_scanStands (f : PassageFault) : ScanStands s (s.raiseFault f) := by
  have same : (s.raiseFault f).besideFault = s.besideFault := State.raiseFault_besideFault f
  exact ⟨State.capture_of_besideFault same, State.chan_of_besideFault same .d, State.profiles_of_besideFault same,
    congrArg (fun i : Intake => (i.queue .d).running) (by simp), State.noticeWaits_of_besideFault same⟩

theorem State.consumeReport_scanStands : ScanStands s s.consumeReport := by
  refine ⟨rfl, rfl, rfl, rfl, fun b => ?_⟩
  unfold State.noticeWaits
  rfl

theorem State.observeCpu_scanStands (x : CpuAccess) : ScanStands s (s.observeCpu x) := by
  unfold State.observeCpu State.observeHead
  (repeat' split) <;> first
    | exact .refl s
    | exact State.consumeReport_scanStands
    | exact State.raiseFault_scanStands _
    | exact ⟨rfl, rfl, rfl, rfl, fun _ => rfl⟩

theorem State.releaseLine_scanStands (line : Nat) : ScanStands s (s.releaseLine b line) := by
  have mover : ScanStands s (s.releaseMover b line) := by
    unfold State.releaseMover
    split
    · exact ⟨rfl, rfl, rfl, rfl, fun _ => rfl⟩
    · exact .refl s
  have same : (s.releaseLine b line).besideFault = (s.releaseMover b line).besideFault := State.releaseCpu_besideFault _
  exact mover.trans ⟨State.capture_of_besideFault same, State.chan_of_besideFault same .d, State.profiles_of_besideFault same,
    congrArg (fun i : Intake => (i.queue .d).running) (State.releaseCpu_intake _), State.noticeWaits_of_besideFault same⟩

/-- A line taken from a band that a CAPTURE fills raises no notice (R67). -/
theorem Band.noticeTest_down {y : Band} (role : y.role = .capture ∨ y.role = .copy) : (y.noticeTest false).2 = none := by
  unfold Band.noticeTest
  rcases role with role | role <;> simp only [role] <;> split <;> rfl

theorem State.withCount_down {y : Band} (role : y.role = .capture ∨ y.role = .copy) :
    s.withCount b y false = s.withLines b (y.noticeTest false).1 := by
  simp only [State.withCount, Band.noticeTest_down role]

theorem State.withCount_scanStands {y : Band} (role : y.role = .capture ∨ y.role = .copy) :
    ScanStands s (s.withCount b y false) := by
  rw [State.withCount_down role]
  exact ⟨rfl, rfl, rfl, rfl, fun _ => rfl⟩

/-- The supply of a CAPTURE once the notice test has followed. -/
theorem State.withCount_captureSupply (y : Band) (up : Bool) :
    (s.withCount b y up).bands[b].captureSupply = y.captureSupply := by
  obtain ⟨armed, bands⟩ := s.withCount_bands b y up
  rw [bands]
  have own : (s.bands.set b { y with armed := armed })[b] = { y with armed := armed } := Vector.getElem_set_self _
  rw [own]
  rfl

/-! ### Channel P -/

section
variable {pe : EmitParams} {re : EmitRecord}

/-- Channel P waits before the latch at level 0 (R112, R125). -/
def Channel.waitsAgain (x : Channel) : Channel :=
  { x with
    k := 0, state := .boundaryWait, asked := x.runLevel, holdTimer := none, stepTimer := none, pauseTimer := none }

/-- With supply channel P resumes. -/
theorem State.resumeP_resumes (now : s.emitNow = some (pe, re)) (paused : s.chanP.state = .paused)
    (supply : 0 < s.bands[pe.band].c) : (s.resumeP pe.band).chanP = s.chanP.waitsAgain := by
  have resumes : s.resumeP pe.band = s.emitProceed re 0 := by
    simp only [State.resumeP, now]
    exact if_pos ⟨paused, trivial, supply⟩
  rw [resumes, State.emitProceed, State.tryLatch_chanP]
  rfl

theorem emitResumes_of {c : Instr} (run : exec c s = finish u) (chanP : u.chanP = s.chanP.waitsAgain) :
    ∃ t, exec c s = .next t ∧ t.chanP = s.chanP.waitsAgain := by
  obtain ⟨t, ht, f⟩ := leads_of_finish run
  exact ⟨t, ht, (f.chanP.stands (by rw [chanP, Channel.waitsAgain]; nofun)).trans chanP⟩

end

end Sys2Proof.Machine
end

section
/-! The ends of a pause (R125, R126, R128). -/

namespace Sys2Proof.Machine

open Sys2Proof

variable {s t u v : State} {p : CaptureParams} {r : CaptureRecord} {pe : EmitParams} {re : EmitRecord} {b : Fin 4}

/-! ### The pause limit (R126) -/

theorem Channel.hardStop_paused {x : Channel} (paused : x.state = .paused) : x.hardStop = x.enterHolding := by
  rw [Channel.hardStop, if_pos (by simp only [Channel.inMotion, paused])]

theorem exec_pauseTimerExpiry {c : Chan} (paused : (s.chan c).state = .paused) (timer : (s.chan c).pauseTimer.isSome) :
    exec (.pauseTimerExpiry c) s = finish (s.pauseExpired c) := if_pos ⟨paused, timer⟩

theorem exec_pauseTimerExpiry_stopped {c : Chan} (h : (s.chan c).state ≠ .paused ∨ (s.chan c).pauseTimer = none) :
    exec (.pauseTimerExpiry c) s = .next s := by
  refine if_neg fun k => ?_
  rcases h with h | h
  · exact h k.1
  · rw [h] at k
    cases k.2

theorem State.captureBreak_running {result : Result} (now : s.captureNow = some (p, r)) (running : r.phase ≠ .done) :
    s.captureBreak result = (s.withdrawClocking p.band).captureStop r result := by
  simp only [State.captureBreak, now]
  exact if_neg running

theorem State.withdrawClocking_none (b : Fin 4) (still : s.capture.clocking = none) : s.withdrawClocking b = s := by
  simp only [State.withdrawClocking, still]

/-- With lines still WRITING a decided capture waits (R105). -/
theorem State.captureDecide_waits (writes : ¬ (s.capture.storeA = .empty ∧ s.capture.storeB = .empty)) (result : Result) :
    s.captureDecide r result = s.withCaptureRecord (r.decided result) := by
  have stores : ¬ ((s.withCaptureRecord (r.decided result)).capture.storesEmpty = true) := by
    intro empty
    rw [CaptureEngine.storesEmpty, Bool.and_eq_true, decide_eq_true_eq, decide_eq_true_eq] at empty
    exact writes empty
  rw [State.captureDecide]
  change (s.withCaptureRecord (r.decided result)).captureFinish = _
  unfold State.captureFinish
  split
  · exact if_neg fun k => stores k.2
  · rfl

/-- The line being clocked is withdrawn: its store is EMPTY and its claim given up, and the other store stands (R56). -/
theorem State.withdrawClocking_sides {i : StoreId} (clocks : s.capture.clocking = some i) (b : Fin 4) :
    (s.withdrawClocking b).capture = s.capture.withStore i .empty
      ∧ (s.withdrawClocking b).bands = s.bands.set b s.bands[b].withdraw
      ∧ (s.withdrawClocking b).chanD = s.chanD := by
  simp only [State.withdrawClocking, clocks]
  split
  · obtain ⟨bands, capture, -⟩ := State.releaseLine_sides (s := (s.withCapture (s.capture.withStore i .empty)).withLines b
      s.bands[b].withdraw) b s.bands[b].withdrawLine
    exact ⟨capture, bands, (State.releaseLine_scanStands _).chanD⟩
  · exact ⟨rfl, rfl, rfl⟩

/-- What stands once a capture has been stopped. -/
theorem State.captureStop_besideReports (r : CaptureRecord) (result : Result) : (s.captureStop r result).besideReports
    = ((s.withChanD s.chanD.hardStop).withCaptureRecord (r.decided result)).besideReports :=
  State.captureDecide_besideReports r result

/-! ### Drains, and strobe ends on a COPY band (R125) -/

/-- A line drained from the band. -/
theorem Band.drain_supply {x : Band} (ready : x.c + x.filling ≤ x.lines ∧ 0 < x.c) (none : x.draining = 0) :
    0 < x.drain.captureSupply := by
  obtain ⟨fits, some⟩ := ready
  rw [Band.drain_of (by omega), Band.captureSupply]
  dsimp only
  omega

theorem Band.strobeEnd_supply {x : Band} (ready : x.c + x.filling ≤ x.lines ∧ 0 < x.c) (some : 0 < x.draining) :
    0 < x.strobeEnd.captureSupply := by
  obtain ⟨fits, ready⟩ := ready
  rw [Band.strobeEnd_of some ready, Band.captureSupply]
  dsimp only
  omega

theorem Band.drain_role (x : Band) : x.drain.role = x.role := by
  unfold Band.drain
  split <;> rfl

theorem Band.strobeEnd_role (x : Band) : x.strobeEnd.role = x.role := by
  unfold Band.strobeEnd
  split <;> rfl

/-- A drain that is observed. -/
theorem State.applyObs_drains {who : Requester} {op : AccessOp} {addr : Nat} (role : s.bands[b].role = .capture)
    (ready : 0 < s.bands[b].c) : s.applyObs (.drain b s.bands[b].d) who op addr
      = (s.withCount b s.bands[b].drain false).resumeD b := if_pos ⟨role, rfl, ready⟩

theorem State.applyObs_fills {who : Requester} {op : AccessOp} {addr : Nat} (role : s.bands[b].role = .emit)
    (room : s.bands[b].c < s.bands[b].lines) : s.applyObs (.fill b s.bands[b].f) who op addr
      = (s.withCount b s.bands[b].fill true).resumeP b := if_pos ⟨role, rfl, room⟩

/-- What a grant of the mover leaves of the engines when an ABORT that waited for it ends the transfer. -/
theorem State.stopTransfer_besideReports : s.stopTransfer.besideReports
    = ((s.withPort { s.port with moverReq := none }).withMover
      { s.mover with buffer := [], state := .ending, heldOn := none, aborting := false }).besideReports :=
  State.endOrder_besideReports ..

section
variable {n : Nat} {a : Access} {obs : Obs}

/-- The end of a mover grant whose last word is observed: the observation, and maybe the end of the transfer. -/
theorem exec_moverGrantEnd_observed (grant : s.port.grant = some (.mover n obs))
    (access : s.mover.access (s.mover.next + n - 1) = some a) : ∃ v u, ScanStands s v ∧ v.bands = s.bands
      ∧ v.emit = s.emit ∧ v.chanP = s.chanP ∧ v.running .p = s.running .p
      ∧ exec .moverGrantEnd s = finish u ∧ u.chanD = (v.applyObs obs .mover a.op a.addr).chanD
      ∧ u.chanP = (v.applyObs obs .mover a.op a.addr).chanP ∧ u.capture = (v.applyObs obs .mover a.op a.addr).capture := by
  let w := s.endGrant (.mover n obs)
  let v := w.withMover (w.moverDone n).passCancelled
  have done : w.wordsDone n obs (w.moverDone n) = v.applyObs obs .mover a.op a.addr := by
    have access' : w.mover.access (w.mover.next + n - 1) = some a := access
    simp only [State.wordsDone, access']
    rfl
  refine ⟨v, _, ⟨rfl, rfl, rfl, rfl, fun _ => rfl⟩, rfl, rfl, rfl, rfl,
    (exec_moverGrantEnd grant).trans (congrArg finish (State.endMoverGrant_eq w)), ?_⟩
  rw [done]
  generalize v.applyObs obs .mover a.op a.addr = y
  split
  · have beside := y.stopTransfer_besideReports
    exact ⟨(State.chanD_of_besideReports beside).trans rfl, (State.chanP_of_besideReports beside).trans rfl,
      (State.capture_of_besideReports beside).trans rfl⟩
  · exact ⟨rfl, rfl, rfl⟩

end

/-! ### Admission (R46, R128) -/

/-- The reports once the oldest pending one is posted, and what waits. -/
theorem Reports.posted_waiting (x : Reports) : x.posted.waiting = x.waiting := by
  unfold Reports.posted Reports.recompute
  split <;> rfl

/-- A notice that is admitted lets channel D count its supply again. -/
theorem State.admitOne_notice {note : Report} {others : List Waiting}
    (admits : admitNext s.reports.waiting = some (⟨.band, .notice b note⟩, others)) : ∃ v : State, s.admitOne = v.resumeD b
      ∧ ScanStands (s.withReports { s.reports with waiting := others }) v ∧ v.bands = s.bands := by
  refine ⟨(s.withReports { s.reports with waiting := others }).enter note, ?_, ?_⟩
  · simp only [State.admitOne, admits]
    rfl
  · unfold State.enter
    split <;> exact ⟨⟨rfl, rfl, rfl, rfl, fun _ => rfl⟩, rfl⟩

/-- With no other notice of the band in the wait, none of it waits. -/
theorem State.noticeWaits_none {others : List Waiting} (alone : ∀ w ∈ others, ∀ other, w.item ≠ .notice b other) :
    (s.withReports { s.reports with waiting := others }).noticeWaits b = false := by
  rw [← Bool.not_eq_true, State.noticeWaits_iff]
  rintro ⟨w, hw, r, item⟩
  exact alone w hw r item

/-! ### The events of Table 7-1 -/

theorem State.observeCpu_bands (x : CpuAccess) : (s.observeCpu x).bands = s.bands := by
  unfold State.observeCpu State.observeHead
  (repeat' split) <;> first
    | rfl
    | exact State.bands_of_besideFault (State.raiseFault_besideFault _)

theorem State.observeCpu_printing (x : CpuAccess) : (s.observeCpu x).emitNow = s.emitNow ∧ (s.observeCpu x).chanP = s.chanP := by
  have emit : (s.observeCpu x).emit = s.emit ∧ (s.observeCpu x).chanP = s.chanP := by
    unfold State.observeCpu State.observeHead
    (repeat' split) <;> first
      | exact ⟨rfl, rfl⟩
      | exact ⟨State.emit_of_besideFault (State.raiseFault_besideFault _),
          State.chan_of_besideFault (State.raiseFault_besideFault _) .p⟩
  exact ⟨State.emitNow_of_running (congrArg Prod.snd (State.observeCpu_fetchSide (s := s) x) :) emit.1, emit.2⟩

section
variable {who : Requester} {op : AccessOp} {addr : Nat}

/-- A drain that is observed frees a line, and channel D may resume. -/
theorem drain_resumes (stands : ScanStands s v) (bands : v.bands = s.bands) (role : s.bands[b].role = .capture)
    (ready : s.bands[b].c + s.bands[b].filling ≤ s.bands[b].lines ∧ 0 < s.bands[b].c) (none : s.bands[b].draining = 0) :
    ∃ w : State, v.applyObs (.drain b s.bands[b].d) who op addr = w.resumeD b ∧ ScanStands s w
      ∧ 0 < w.bands[b].captureSupply := by
  rw [← bands] at role ready none ⊢
  refine ⟨v.withCount b v.bands[b].drain false, State.applyObs_drains role ready.2,
    stands.trans (State.withCount_scanStands (.inl ((Band.drain_role _).trans role))), ?_⟩
  rw [State.withCount_captureSupply]
  exact Band.drain_supply ready none

/-- A fill that is observed makes a line ready, and channel P resumes. -/
theorem fill_resumes (now : s.emitNow = some (pe, re)) (paused : s.chanP.state = .paused) (emits : v.emitNow = s.emitNow)
    (chanP : v.chanP = s.chanP) (bands : v.bands = s.bands) (role : s.bands[pe.band].role = .emit)
    (room : s.bands[pe.band].c + s.bands[pe.band].filling < s.bands[pe.band].lines) :
    (v.applyObs (.fill pe.band s.bands[pe.band].f) who op addr).chanP = s.chanP.waitsAgain := by
  rw [← emits] at now
  rw [← chanP] at paused ⊢
  rw [← bands] at role room ⊢
  obtain ⟨armed, counted⟩ := v.withCount_bands pe.band v.bands[pe.band].fill true
  have own : (v.withCount pe.band v.bands[pe.band].fill true).bands[pe.band].c = v.bands[pe.band].c + 1 := by
    rw [counted]
    have own : (v.bands.set pe.band { v.bands[pe.band].fill with armed := armed })[pe.band]
      = { v.bands[pe.band].fill with armed := armed } := Vector.getElem_set_self _
    rw [own, Band.fill_of room]
  rw [State.applyObs_fills role (by omega), State.resumeP_resumes (by rw [State.withCount_emitNow]; exact now)
    (by rw [State.withCount_chanP]; exact paused) (by omega), State.withCount_chanP]

end

theorem State.emitDecide_besideReports (result : Result) (reason : EndReason) : (s.emitDecide re result reason).besideReports
    = (s.withEmitRecord { re with phase := .done, result := result, endReason := some reason }).besideReports :=
  State.endOrder_besideReports ..

theorem State.revertLines_scan (b : Fin 4) : (s.revertLines b).chanD = s.chanD ∧ (s.revertLines b).capture = s.capture :=
  ⟨rfl, rfl⟩

/-- An emit that stops leaves channel D and the Capture Engine. -/
theorem State.emitStop_scan (result : Result) (reason : EndReason) : (s.emitStop pe re result reason).chanD = s.chanD
    ∧ (s.emitStop pe re result reason).capture = s.capture := by
  obtain ⟨chanD, capture⟩ := State.revertLines_scan (s := s) pe.band
  rw [← chanD, ← capture, State.emitStop]
  generalize s.revertLines pe.band = v
  have beside := State.emitDecide_besideReports (s := v.withChanP v.chanP.hardStop) (re := re) result reason
  exact ⟨(State.chanD_of_besideReports beside).trans rfl, (State.capture_of_besideReports beside).trans rfl⟩

/-- A strobe end on a COPY band frees a line, and channel D may resume. -/
theorem strobe_resumes {i : StoreId} (role : s.bands[pe.band].role = .copy)
    (ready : s.bands[pe.band].c + s.bands[pe.band].filling ≤ s.bands[pe.band].lines ∧ 0 < s.bands[pe.band].c)
    (some : 0 < s.bands[pe.band].draining) : ∃ w : State, ScanStands s w ∧ 0 < w.bands[pe.band].captureSupply
      ∧ (s.lineStrobed pe re i).chanD = (w.resumeD pe.band).chanD
      ∧ (s.lineStrobed pe re i).capture = (w.resumeD pe.band).capture := by
  let e := { s.emit.withStore i PrintStore.none with group := 0, record := Option.some re.linePrinted }
  let v := (s.withEmit e).withCount pe.band s.bands[pe.band].strobeEnd false
  have stands : ScanStands s v := .trans (t := s.withEmit e) ⟨rfl, rfl, rfl, rfl, fun _ => rfl⟩
    (State.withCount_scanStands (.inr ((Band.strobeEnd_role _).trans role)))
  refine ⟨v.releaseLine pe.band s.bands[pe.band].d, stands.trans (State.releaseLine_scanStands _), ?_, ?_⟩
  · rw [(v.releaseLine_sides pe.band s.bands[pe.band].d).1, State.withCount_captureSupply]
    exact Band.strobeEnd_supply ready some
  · have emptied : s.lineEmptied pe re i = (v.releaseLine pe.band s.bands[pe.band].d).resumeD pe.band := rfl
    rw [State.lineStrobed_eq, emptied]
    generalize (v.releaseLine pe.band s.bands[pe.band].d).resumeD pe.band = w
    split
    · exact w.emitStop_scan .aborted .abort
    · exact ⟨rfl, rfl⟩

/-- A write-back end makes a line ready, and channel P resumes. -/
theorem writeBack_resumes {i : StoreId} {words : List Word} (now : s.emitNow = some (pe, re)) (paused : s.chanP.state = .paused)
    (same : p.band = pe.band) (fills : 0 < s.bands[p.band].filling) :
    (s.lineCaptured p r i words).chanP = s.chanP.waitsAgain := by
  have counted : PrintSide (s.lineCounted p r i words) (if s.bands[p.band].role = .capture
      then (s.lineCounted p r i words).releaseLine p.band s.bands[p.band].f else s.lineCounted p r i words) := by
    split
    · exact State.releaseLine_printSide _
    · exact .refl _
  have count : (s.lineCounted p r i words).bands[p.band].c = s.bands[p.band].c + 1 := by
    obtain ⟨armed, bands, -⟩ := State.lineCounted_sides (s := s) (p := p) (r := r) (i := i) (words := words)
    have own : (s.bands.set p.band { s.bands[p.band].writeBackEnd with armed := armed })[p.band]
      = { s.bands[p.band].writeBackEnd with armed := armed } := Vector.getElem_set_self _
    rw [bands, own, Band.writeBackEnd_of fills]
  have chanP : (s.lineCounted p r i words).chanP = s.chanP := State.withCount_chanP ..
  have emits : (s.lineCounted p r i words).emitNow = s.emitNow := State.withCount_emitNow ..
  rw [State.lineCaptured_eq, State.chanP_of_besideReports State.captureFinish_besideReports]
  generalize (if s.bands[p.band].role = .capture then (s.lineCounted p r i words).releaseLine p.band s.bands[p.band].f
    else s.lineCounted p r i words) = w at counted
  have emits' : w.emitNow = s.emitNow :=
    (State.emitNow_of_running (congrArg Prod.snd counted.fetch :) counted.emit).trans emits
  have chanP' : w.chanP = s.chanP := counted.chanP.trans chanP
  have ready := (counted.marks p.band).1.trans count
  have ready' : 0 < w.bands[pe.band].c := by
    simp only [← same]
    omega
  rw [same, State.resumeP_resumes (emits'.trans now) (by rw [chanP']; exact paused) ready', chanP']

/-- Settles O51. -/
theorem pauseLimitsStarve : Obligations.PauseLimitsStarve := by
  intro s held
  have held_eq (x : Channel) : held x = x.enterHolding := x.enterHolding_eq.symm
  refine ⟨fun c => exec_pauseTimerExpiry_stopped, fun p r now paused timer going => ?starved,
    fun p r now paused timer => ?emit, fun p r now paused => ?scans, fun p r now paused _ => ?prints⟩
  case starved =>
    have run := (exec_pauseTimerExpiry (c := .d) paused timer).trans
      (congrArg finish (State.captureBreak_running (result := .starved) now going))
    intro v
    have stopped : (s.withChanD s.chanD.hardStop).withCaptureRecord (r.decided .starved) = v := by
      rw [Channel.hardStop_paused paused, ← held_eq]
      rfl
    refine ⟨fun a b => ?_, fun still writes => ?_, fun i clocks => ?_⟩
    · have still : s.capture.clocking = none := by simp only [CaptureEngine.clocking, a, b]
      have work : (s.withChanD s.chanD.hardStop).activeWork .d = some (.capture p) := (State.captureNow_iff.mp now).1
      rw [State.withdrawClocking_none _ still, State.captureStop,
        State.captureDecide_ends work (CaptureEngine.storesEmpty_of a b), stopped] at run
      exact leads_of_finish run
    · rw [State.withdrawClocking_none _ still, State.captureStop,
        State.captureDecide_waits (s := s.withChanD s.chanD.hardStop) writes, stopped] at run
      exact leads_of_finish run
    · obtain ⟨capture, bands, -⟩ := s.withdrawClocking_sides clocks p.band
      obtain ⟨t, ht, f⟩ := leads_of_finish run
      have beside := (s.withdrawClocking p.band).captureStop_besideReports r .starved
      have capture' := State.capture_of_besideReports beside
      have bands' := State.bands_of_besideReports beside
      have own : (s.bands.set p.band s.bands[p.band].withdraw)[p.band] = s.bands[p.band].withdraw := Vector.getElem_set_self _
      refine ⟨t, ht, ?_, ?_, ?_⟩
      · rw [f.capture, capture']
        change (s.withdrawClocking p.band).capture.store i = _
        rw [capture]
        exact (s.capture.store_withStore i .empty).1
      · rw [f.bands, bands']
        change (s.withdrawClocking p.band).bands[p.band].filling = _
        rw [bands, own]
        rfl
      · rw [f.capture, capture']
        rfl
  case emit =>
    have run := exec_pauseTimerExpiry (c := .p) paused timer
    have stops : s.pauseExpired .p = s.emitStop p r .starved .pauseLimit := by simp only [State.pauseExpired, now]
    have held' : s.chanP.hardStop = held s.chanP := (Channel.hardStop_paused paused).trans (held_eq _).symm
    rw [stops] at run
    rw [← held']
    exact leads_of_finish run
  case scans =>
    intro b ready resumed
    refine ⟨fun x grant access role ready none => ?_, fun n a grant access role ready none => ?_,
      fun pe re i emits strobing last same role ready some => ?_, fun x rest note others grant _ admits alone room => ?_⟩
    · have stands : ScanStands s ((s.accessDone x).observeCpu x) :=
        .trans (t := s.accessDone x) ⟨rfl, rfl, rfl, rfl, fun _ => rfl⟩ (State.observeCpu_scanStands x)
      obtain ⟨w, resumes, stands', supply⟩ := drain_resumes (who := .processor) (op := x.acc.op) (addr := x.acc.at) stands
        (State.observeCpu_bands x) role ready none
      exact resumes_of stands' now paused ((exec_processorGrantEnd grant access).trans (congrArg finish resumes)) supply rfl rfl
    · obtain ⟨v, u, stands, bands, -, -, -, run, chanD, -, capture⟩ := exec_moverGrantEnd_observed grant access
      obtain ⟨w, resumes, stands', supply⟩ := drain_resumes (who := .mover) (op := a.op) (addr := a.addr) stands bands role
        ready none
      rw [resumes] at chanD capture
      exact resumes_of stands' now paused run supply chanD capture
    · have run := (exec_strobeGroupEnd emits strobing).trans (if_neg (Nat.not_lt.mpr last))
      obtain ⟨w, stands, supply, chanD, capture⟩ := strobe_resumes (s := s) (pe := pe) (re := re) (i := i)
        (by simp only [same]; exact role) (by simp only [same]; exact ready) (by simp only [same]; exact some)
      simp only [same] at supply chanD capture
      exact resumes_of stands now paused run supply chanD capture
    · have run : exec .reportPostEnd s
          = finish ((s.endGrant .report).withReports (s.endGrant .report).reports.posted).admitOne := if_pos grant
      obtain ⟨v, resumes, stands, bands⟩ := State.admitOne_notice
        (s := (s.endGrant .report).withReports (s.endGrant .report).reports.posted) (b := p.band) (note := note)
        (others := others) ((congrArg admitNext (Reports.posted_waiting _)).trans admits)
      have stands' : ScanStands (s.withReports { s.reports with waiting := others }) v := by
        refine ScanStands.trans ?_ stands
        exact ⟨rfl, rfl, rfl, rfl, fun _ => rfl⟩
      have supply : 0 < v.bands[p.band].captureSupply := by
        rw [bands]
        exact Nat.sub_pos_of_lt (by change b.filling < b.lines - b.c; omega)
      obtain ⟨t, ht, quiet, -⟩ := resumes_of stands' now paused (run.trans (congrArg finish resumes)) supply rfl rfl
      exact ⟨t, ht, quiet (State.noticeWaits_none alone)⟩
  case prints =>
    intro b resumed
    refine ⟨fun x grant access role room => ?_, fun n a grant access role room => ?_,
      fun pc rc i line words captures grant store same fills => ?_⟩
    · obtain ⟨emits, chanP⟩ := State.observeCpu_printing (s := s.accessDone x) x
      exact emitResumes_of (exec_processorGrantEnd grant access)
        (fill_resumes now paused emits chanP (State.observeCpu_bands x) role room)
    · obtain ⟨v, u, -, bands, emit, chanP, running, run, -, chanP', -⟩ := exec_moverGrantEnd_observed grant access
      exact emitResumes_of run
        (chanP'.trans (fill_resumes now paused (State.emitNow_of_running running emit) chanP bands role room))
    · exact emitResumes_of (exec_writeBackEnd captures grant store)
        (writeBack_resumes (s := s.written pc.band line words) (p := pc) now paused same (by simp only [same]; exact fills))

end Sys2Proof.Machine
end

section
/-! FRAME. What an event on channel D and the Capture Engine leaves of the rest, and what one on channel P and the Emit
Engine leaves of the rest (R90, R133): the deliveries of a debounced change to the two sides do not meet. -/

namespace Sys2Proof.Machine

open Sys2Proof

variable {s t u v : State} {b : Fin 4}

/-! ### The scan side left out -/

/-- A band without the lines that a CAPTURE fills. -/
def Band.unclaimed (x : Band) : Band := { x with filling := 0 }

/-- A state without channel D, the Capture Engine, its claims, the D queue, the reports, the mover and the accesses. -/
def State.besideScan (s : State) : State :=
  { s with
    capture := CaptureEngine.reset, chanD := Channel.reset, bands := s.bands.map Band.unclaimed, mover := Mover.reset
    passage := { s.passage with cpu := none, reply := none, unposted := 0 }, port := { s.port with moverReq := none }
    intake := { Intake.reset with pQueue := s.intake.pQueue }, reports := Reports.reset }

theorem State.besideScan_of (beside : t.besideReports = s.besideReports) (queue : t.intake.pQueue = s.intake.pQueue) :
    t.besideScan = s.besideScan := by
  change { t.besideReports.besideScan with intake := { Intake.reset with pQueue := t.intake.pQueue } } = _
  rw [beside, queue]
  rfl

theorem State.besideScan_of_besideFault (same : t.besideFault = s.besideFault) : t.besideScan = s.besideScan :=
  (congrArg State.besideScan same :)

@[simp] theorem State.withChanD_besideScan (c : Channel) : (s.withChanD c).besideScan = s.besideScan := rfl
@[simp] theorem State.withCapture_besideScan (c : CaptureEngine) : (s.withCapture c).besideScan = s.besideScan := rfl
@[simp] theorem State.withCaptureRecord_besideScan (r : CaptureRecord) : (s.withCaptureRecord r).besideScan = s.besideScan := rfl
@[simp] theorem State.withMover_besideScan (m : Mover) : (s.withMover m).besideScan = s.besideScan := rfl

/-- A list of bands, one of them replaced, reads the same where the replacement does. -/
theorem map_set_same {f : Band → Band} {bands : Vector Band 4} {y : Band} (same : f y = f bands[b]) :
    (bands.set b y).map f = bands.map f := by
  ext1 n hn
  rw [Vector.getElem_map, Vector.getElem_map, Vector.getElem_set]
  split
  · next eq =>
    subst eq
    exact same
  · rfl

theorem State.withLines_besideScan {y : Band} (same : y.unclaimed = s.bands[b].unclaimed) :
    (s.withLines b y).besideScan = s.besideScan := by
  have bands : (s.bands.set b y).map Band.unclaimed = s.bands.map Band.unclaimed := map_set_same same
  change { s.besideScan with bands := (s.bands.set b y).map Band.unclaimed } = _
  rw [bands]
  rfl

@[simp] theorem State.endOrder_besideScan (block : Block) (r : Result) (figures : List Word) :
    (s.endOrder .d block r figures).besideScan = s.besideScan :=
  State.besideScan_of (State.endOrder_besideReports ..)
    (Intake.queue_of_besideEnd (q := .d) (r := .p) (State.endOrder_besideEnd block r figures) nofun)

@[simp] theorem State.endMove_besideScan (r : Result) : (s.endMove .d r).besideScan = s.besideScan := by
  rw [State.endMove]
  exact State.endOrder_besideScan ..

@[simp] theorem State.edgeMove_besideScan (p : MoveParams) (x : Sensor) (rising : Bool) :
    (s.edgeMove .d p x rising).besideScan = s.besideScan := by
  unfold State.edgeMove
  dsimp only
  (repeat' split) <;> first
    | rfl
    | exact (State.endMove_besideScan _).trans (State.withChanD_besideScan _)

@[simp] theorem State.captureFinish_besideScan : s.captureFinish.besideScan = s.besideScan := by
  unfold State.captureFinish
  (repeat' split) <;> simp

@[simp] theorem State.captureDecide_besideScan (r : CaptureRecord) (result : Result) :
    (s.captureDecide r result).besideScan = s.besideScan := State.captureFinish_besideScan

@[simp] theorem State.captureStop_besideScan (r : CaptureRecord) (result : Result) :
    (s.captureStop r result).besideScan = s.besideScan := State.captureDecide_besideScan ..

theorem Band.claim_unclaimed (x : Band) : x.claim.unclaimed = x.unclaimed := by
  unfold Band.claim
  (repeat' split) <;> rfl

@[simp] theorem State.beginLine_besideScan (p : CaptureParams) (r : CaptureRecord) :
    (s.beginLine p r).besideScan = s.besideScan := by
  unfold State.beginLine
  split
  · exact (State.withLines_besideScan (Band.claim_unclaimed _)).trans (State.withCapture_besideScan _)
  · rfl

@[simp] theorem State.paceCapture_besideScan (p : CaptureParams) (r : CaptureRecord) :
    (s.paceCapture p r).besideScan = s.besideScan := by
  unfold State.paceCapture State.captureProceed
  split <;> simp

@[simp] theorem State.enterEject_besideScan (p : CaptureParams) (r : CaptureRecord) :
    (s.enterEject p r).besideScan = s.besideScan := by
  unfold State.enterEject
  split <;> simp

@[simp] theorem State.tailBoundary_besideScan (p : CaptureParams) (r : CaptureRecord) :
    (s.tailBoundary p r).besideScan = s.besideScan := by
  unfold State.tailBoundary
  (repeat' split) <;> simp

@[simp] theorem State.scanBoundary_besideScan (p : CaptureParams) (r : CaptureRecord) :
    (s.scanBoundary p r).besideScan = s.besideScan := by
  unfold State.scanBoundary
  (repeat' split) <;> simp

@[simp] theorem State.enterSkip_besideScan (p : CaptureParams) (r : CaptureRecord) :
    (s.enterSkip p r).besideScan = s.besideScan := by
  unfold State.enterSkip State.enterPaced
  dsimp only
  split <;> simp

@[simp] theorem State.docEdge_besideScan (rising : Bool) : (s.docEdge rising).besideScan = s.besideScan := by
  unfold State.docEdge
  (repeat' split) <;> simp

theorem State.releaseLine_besideScan (line : Nat) : (s.releaseLine b line).besideScan = s.besideScan := by
  have mover : (s.releaseMover b line).besideScan = s.besideScan := by
    unfold State.releaseMover
    split <;> simp
  exact (State.besideScan_of_besideFault (State.releaseCpu_besideFault _)).trans mover

@[simp] theorem State.withdrawClocking_besideScan (n : Fin 4) : (s.withdrawClocking n).besideScan = s.besideScan := by
  cases clocks : s.capture.clocking with
  | none => simp only [State.withdrawClocking, clocks]
  | some i =>
    have claim : s.bands[n].withdraw.unclaimed = (s.withCapture (s.capture.withStore i .empty)).bands[n].unclaimed := rfl
    have lines : ((s.withCapture (s.capture.withStore i .empty)).withLines n s.bands[n].withdraw).besideScan = s.besideScan := by
      rw [State.withLines_besideScan claim, State.withCapture_besideScan]
    simp only [State.withdrawClocking, clocks]
    generalize (s.withCapture (s.capture.withStore i .empty)).withLines n s.bands[n].withdraw = v at lines ⊢
    split
    · rw [State.releaseLine_besideScan]
      exact lines
    · exact lines

@[simp] theorem State.captureBreak_besideScan (result : Result) : (s.captureBreak result).besideScan = s.besideScan := by
  unfold State.captureBreak
  (repeat' split) <;> simp

/-- The delivery of a debounced change to channel D leaves the other side. -/
@[simp] theorem State.sensorD_besideScan (x : Sensor) (rising : Bool) : (s.sensorD x rising).besideScan = s.besideScan := by
  unfold State.sensorD
  (repeat' split) <;> simp

/-! ### The print side left out -/

/-- A band without the lines in print stores. -/
def Band.undrained (x : Band) : Band := { x with draining := 0 }

/-- What waits is a BAND NOTICE. -/
def Waiting.isNotice (w : Waiting) : Bool :=
  match w.item with
  | .notice _ _ => true
  | .sensor _ _ | .completion _ | .report _ => false

/-- The notices that wait. -/
def State.notices (s : State) : List Waiting := s.reports.waiting.filter Waiting.isNotice

/-- A state without channel P, the Emit Engine, the lines in its stores, the P queue, the reports but the notices that
wait, and the accesses. -/
def State.besidePrinting (s : State) : State :=
  { s with
    emit := EmitEngine.reset, chanP := Channel.reset, bands := s.bands.map Band.undrained
    passage := { s.passage with cpu := none, unposted := 0 }, port := { s.port with moverReq := none, fetchReq := false }
    intake := { Intake.reset with dQueue := s.intake.dQueue }, reports := { Reports.reset with waiting := s.notices } }

theorem State.besidePrinting_of (beside : t.besideReports = s.besideReports) (queue : t.intake.dQueue = s.intake.dQueue)
    (notices : t.notices = s.notices) : t.besidePrinting = s.besidePrinting := by
  change { t.besideReports.besidePrinting with
    intake := { Intake.reset with dQueue := t.intake.dQueue }, reports := { Reports.reset with waiting := t.notices } } = _
  rw [beside, queue, notices]
  rfl

@[simp] theorem State.withChanP_besidePrinting (c : Channel) : (s.withChanP c).besidePrinting = s.besidePrinting := rfl
@[simp] theorem State.withEmit_besidePrinting (e : EmitEngine) : (s.withEmit e).besidePrinting = s.besidePrinting := rfl
@[simp] theorem State.withEmitRecord_besidePrinting (r : EmitRecord) :
    (s.withEmitRecord r).besidePrinting = s.besidePrinting := rfl

theorem State.enter_notices (r : Report) : (s.enter r).notices = s.notices := by
  unfold State.enter
  split <;> rfl

theorem State.endOrder_notices {q : QueueId} (block : Block) (r : Result) (figures : List Word) :
    (s.endOrder q block r figures).notices = s.notices := by
  unfold State.endOrder
  split
  · rfl
  · unfold State.offer
    split
    · unfold State.enterItem State.enterCompletion
      dsimp only
      split
      · rfl
      · exact (State.enter_notices (s := s.withRunning q _) _).trans rfl
    · exact (List.filter_append ..).trans (List.append_nil _)

@[simp] theorem State.endOrder_besidePrinting (block : Block) (r : Result) (figures : List Word) :
    (s.endOrder .p block r figures).besidePrinting = s.besidePrinting :=
  State.besidePrinting_of (State.endOrder_besideReports ..)
    (Intake.queue_of_besideEnd (q := .p) (r := .d) (State.endOrder_besideEnd block r figures) nofun)
    (State.endOrder_notices ..)

@[simp] theorem State.endMove_besidePrinting (r : Result) : (s.endMove .p r).besidePrinting = s.besidePrinting := by
  rw [State.endMove]
  exact State.endOrder_besidePrinting ..

@[simp] theorem State.edgeMove_besidePrinting (p : MoveParams) (x : Sensor) (rising : Bool) :
    (s.edgeMove .p p x rising).besidePrinting = s.besidePrinting := by
  unfold State.edgeMove
  dsimp only
  (repeat' split) <;> first
    | rfl
    | exact (State.endMove_besidePrinting _).trans (State.withChanP_besidePrinting _)

@[simp] theorem State.emitDecide_besidePrinting (r : EmitRecord) (result : Result) (reason : EndReason) :
    (s.emitDecide r result reason).besidePrinting = s.besidePrinting := State.endOrder_besidePrinting ..

@[simp] theorem State.revertLines_besidePrinting : (s.revertLines b).besidePrinting = s.besidePrinting := by
  have bands : (s.bands.set b s.bands[b].revert).map Band.undrained = s.bands.map Band.undrained := map_set_same rfl
  change { s.besidePrinting with bands := (s.bands.set b s.bands[b].revert).map Band.undrained } = _
  rw [bands]
  rfl

@[simp] theorem State.emitStop_besidePrinting (p : EmitParams) (r : EmitRecord) (result : Result) (reason : EndReason) :
    (s.emitStop p r result reason).besidePrinting = s.besidePrinting := by
  rw [State.emitStop]
  simp

@[simp] theorem State.tryLatch_besidePrinting : s.tryLatch.besidePrinting = s.besidePrinting := by
  unfold State.tryLatch
  split <;> rfl

@[simp] theorem State.enterTail_besidePrinting (p : EmitParams) (r : EmitRecord) :
    (s.enterTail p r).besidePrinting = s.besidePrinting := by
  unfold State.enterTail
  dsimp only
  (repeat' split) <;> simp

@[simp] theorem State.printBoundary_besidePrinting (p : EmitParams) (r : EmitRecord) :
    (s.printBoundary p r).besidePrinting = s.besidePrinting := by
  unfold State.printBoundary State.emitProceed
  (repeat' split) <;> simp

/-- The delivery of a debounced change to channel P leaves the other side. -/
@[simp] theorem State.sensorP_besidePrinting (x : Sensor) (rising : Bool) :
    (s.sensorP x rising).besidePrinting = s.besidePrinting := by
  unfold State.sensorP State.emitCover State.paperFall
  dsimp only
  (repeat' split) <;> simp

end Sys2Proof.Machine
end

section
/-! DEBOUNCED_CHANGE (R49, R89, R90): what its deliveries leave of one another, and the SENSOR report. -/

namespace Sys2Proof.Machine

open Sys2Proof

variable {s t u v w : State} {x : Sensor} {rising : Bool}

/-! ### What the frames say -/

/-- What two states that differ on the print side alone share: the side of channel D. -/
structure ScanKept (s t : State) : Prop where
  capture : t.capture = s.capture
  chanD : t.chanD = s.chanD
  profiles : t.profiles = s.profiles
  running : t.running .d = s.running .d
  notice : ∀ b, t.noticeWaits b = s.noticeWaits b
  bands : ∀ n : Fin 4, t.bands[n].undrained = s.bands[n].undrained
  power : t.power = s.power
  sensors : t.sensors = s.sensors

/-- What two states that differ on the scan side alone share: the side of channel P. -/
structure PrintKept (s t : State) : Prop where
  emit : t.emit = s.emit
  chanP : t.chanP = s.chanP
  profiles : t.profiles = s.profiles
  fetch : t.fetchSide = s.fetchSide
  bands : ∀ n : Fin 4, t.bands[n].unclaimed = s.bands[n].unclaimed
  power : t.power = s.power
  sensors : t.sensors = s.sensors

theorem State.noticeWaits_eq (s : State) (b : Fin 4) : s.noticeWaits b = s.notices.any fun w => match w.item with
    | .notice b' _ => decide (b' = b)
    | .sensor _ _ | .completion _ | .report _ => false := by
  rw [State.notices, List.any_filter]
  refine congrArg s.reports.waiting.any (funext fun w => ?_)
  unfold Waiting.isNotice
  cases w.item <;> simp

theorem ScanKept.of_besidePrinting (h : t.besidePrinting = s.besidePrinting) : ScanKept s t where
  capture := (congrArg State.capture h :)
  chanD := (congrArg State.chanD h :)
  profiles := (congrArg State.profiles h :)
  running := (congrArg (fun y : State => y.intake.dQueue.running) h :)
  notice b := by
    have notices : t.notices = s.notices := (congrArg (fun y : State => y.reports.waiting) h :)
    rw [State.noticeWaits_eq, State.noticeWaits_eq, notices]
  bands n := by
    have bands : t.bands.map Band.undrained = s.bands.map Band.undrained := (congrArg State.bands h :)
    have at' := congrArg (fun y : Vector Band 4 => y[n]) bands
    simpa using at'
  power := (congrArg State.power h :)
  sensors := (congrArg State.sensors h :)

theorem PrintKept.of_besideScan (h : t.besideScan = s.besideScan) : PrintKept s t where
  emit := (congrArg State.emit h :)
  chanP := (congrArg State.chanP h :)
  profiles := (congrArg State.profiles h :)
  fetch := (congrArg (fun y : State => (y.port.fetchReq, y.intake.pQueue.running)) h :)
  bands n := by
    have bands : t.bands.map Band.unclaimed = s.bands.map Band.unclaimed := (congrArg State.bands h :)
    have at' := congrArg (fun y : Vector Band 4 => y[n]) bands
    simpa using at'
  power := (congrArg State.power h :)
  sensors := (congrArg State.sensors h :)

theorem ScanKept.activeWork (h : ScanKept s t) : t.activeWork .d = s.activeWork .d := by
  rw [State.activeWork, h.running, State.activeWork]

theorem ScanKept.captureNow (h : ScanKept s t) : t.captureNow = s.captureNow := by
  simp only [State.captureNow, h.activeWork, h.capture]

theorem PrintKept.running (h : PrintKept s t) : t.running .p = s.running .p := congrArg Prod.snd h.fetch

theorem PrintKept.activeWork (h : PrintKept s t) : t.activeWork .p = s.activeWork .p := by
  rw [State.activeWork, h.running, State.activeWork]

theorem PrintKept.emitNow (h : PrintKept s t) : t.emitNow = s.emitNow := State.emitNow_of_running h.running h.emit

/-! ### The report -/

theorem State.offerSensor_cases (s : State) (x : Sensor) : ∃ pending waiting, s.offerSensor x
      = s.withReports { s.reports with pending := pending, waiting := waiting }
    ∧ waiting.filter Waiting.isNotice = s.notices := by
  unfold State.offerSensor
  split
  · exact ⟨s.reports.pending, s.reports.waiting, rfl, rfl⟩
  · split
    · refine ⟨s.reports.pending, _, rfl, ?_⟩
      rw [List.filter_map]
      have merged (w : Waiting) : (mergeSensor (sensorBit x) s.levels w).isNotice = w.isNotice := by
        unfold mergeSensor Waiting.isNotice
        cases h : w.item <;> simp [h]
      have stays (w : Waiting) (h : w.isNotice = true) : mergeSensor (sensorBit x) s.levels w = w := by
        unfold Waiting.isNotice at h
        unfold mergeSensor
        cases item : w.item <;> simp_all
      have kept : (Waiting.isNotice ∘ mergeSensor (sensorBit x) s.levels) = Waiting.isNotice := funext merged
      rw [kept]
      exact (List.map_congr_left (g := id) fun w hw => stays w (List.mem_filter.mp hw).2).trans (List.map_id _)
    · unfold State.offer
      split
      · unfold State.enterItem State.enter
        dsimp only
        split
        · exact ⟨_, _, rfl, rfl⟩
        · exact ⟨s.reports.pending, s.reports.waiting, rfl, rfl⟩
      · exact ⟨s.reports.pending, _, rfl, (List.filter_append ..).trans (List.append_nil _)⟩

@[simp] theorem State.offerSensor_besideScan (x : Sensor) : (s.offerSensor x).besideScan = s.besideScan := by
  obtain ⟨pending, waiting, offered, -⟩ := s.offerSensor_cases x
  rw [offered]
  rfl

@[simp] theorem State.offerSensor_besidePrinting (x : Sensor) : (s.offerSensor x).besidePrinting = s.besidePrinting := by
  obtain ⟨pending, waiting, offered, notices⟩ := s.offerSensor_cases x
  have kept : (s.offerSensor x).notices = s.notices := by
    rw [offered]
    exact notices
  rw [offered] at kept ⊢
  exact State.besidePrinting_of rfl rfl kept

theorem State.offerSensor_bands (x : Sensor) : (s.offerSensor x).bands = s.bands := by
  obtain ⟨pending, waiting, offered, -⟩ := s.offerSensor_cases x
  rw [offered]
  rfl

/-! ### The deliveries -/

/-- A change of another sensor than the cover's and the paper's leaves the bands to the side of channel P. -/
theorem State.sensorP_bands (cover : x ≠ .coverClosed) (paper : x ≠ .paperPresent) : (s.sensorP x rising).bands = s.bands := by
  have edge (p : MoveParams) : (s.edgeMove .p p x rising).bands = s.bands := by
    unfold State.edgeMove
    dsimp only
    (repeat' split) <;> first
      | rfl
      | exact (State.bands_of_besideReports (State.endOrder_besideReports ..)).trans rfl
  unfold State.sensorP
  split
  · rw [if_neg cover]
    exact edge _
  · rw [if_neg cover, if_neg fun k => paper k.1]
  · rfl

/-- A change of another sensor than the cover's and that of the document's line leaves the bands to the side of channel D. -/
theorem State.sensorD_bands (cover : x ≠ .coverClosed) (line : x ≠ .docAtLine) : (s.sensorD x rising).bands = s.bands := by
  have edge (p : MoveParams) : (s.edgeMove .d p x rising).bands = s.bands := by
    unfold State.edgeMove
    dsimp only
    (repeat' split) <;> first
      | rfl
      | exact (State.bands_of_besideReports (State.endOrder_besideReports ..)).trans rfl
  unfold State.sensorD
  split
  · rw [if_neg cover]
    exact edge _
  · rw [if_neg cover, if_neg line]
  · rfl

/-- The delivery to channel D finds its side as the event left it, and what is delivered after it leaves that side. -/
theorem State.deliver_scan (v : State) (x : Sensor) (rising reportLast pFirst : Bool) : ∃ w z : State,
    w.besidePrinting = v.besidePrinting ∧ z.besidePrinting = (w.sensorD x rising).besidePrinting
      ∧ v.deliver x rising reportLast pFirst = z.rewatch
      ∧ (x ≠ .coverClosed → x ≠ .paperPresent → w.bands = v.bands ∧ z.bands = (w.sensorD x rising).bands) := by
  unfold State.deliver State.sensorChannels
  cases reportLast <;> cases pFirst
  · exact ⟨v.offerSensor x, _, by simp, by simp, rfl, fun cover paper =>
      ⟨State.offerSensor_bands x, State.sensorP_bands cover paper⟩⟩
  · exact ⟨(v.offerSensor x).sensorP x rising, _, by simp, by simp, rfl, fun cover paper =>
      ⟨(State.sensorP_bands cover paper).trans (State.offerSensor_bands x), rfl⟩⟩
  · exact ⟨v, _, rfl, by simp, rfl, fun cover paper =>
      ⟨rfl, (State.offerSensor_bands x).trans (State.sensorP_bands cover paper)⟩⟩
  · exact ⟨v.sensorP x rising, _, by simp, by simp, rfl, fun cover paper =>
      ⟨State.sensorP_bands cover paper, State.offerSensor_bands x⟩⟩

/-- The delivery to channel P finds its side as the event left it, and what is delivered after it leaves that side. -/
theorem State.deliver_print (v : State) (x : Sensor) (rising reportLast pFirst : Bool) : ∃ w z : State,
    w.besideScan = v.besideScan ∧ z.besideScan = (w.sensorP x rising).besideScan
      ∧ v.deliver x rising reportLast pFirst = z.rewatch
      ∧ (x ≠ .coverClosed → x ≠ .docAtLine → w.bands = v.bands ∧ z.bands = (w.sensorP x rising).bands) := by
  unfold State.deliver State.sensorChannels
  cases reportLast <;> cases pFirst
  · exact ⟨(v.offerSensor x).sensorD x rising, _, by simp, by simp, rfl, fun cover line =>
      ⟨(State.sensorD_bands cover line).trans (State.offerSensor_bands x), rfl⟩⟩
  · exact ⟨v.offerSensor x, _, by simp, by simp, rfl, fun cover line =>
      ⟨State.offerSensor_bands x, State.sensorD_bands cover line⟩⟩
  · exact ⟨v.sensorD x rising, _, by simp, by simp, rfl, fun cover line =>
      ⟨State.sensorD_bands cover line, State.offerSensor_bands x⟩⟩
  · exact ⟨v, _, rfl, by simp, rfl, fun cover line =>
      ⟨rfl, (State.offerSensor_bands x).trans (State.sensorD_bands cover line)⟩⟩

/-- The watches afresh: nothing but the pattern timers changes (R148). -/
theorem State.rewatch_cases (s : State) : ∃ timers, s.rewatch = s.withPower { s.power with patternTimers := timers } := by
  unfold State.rewatch
  split <;> exact ⟨_, rfl⟩

theorem State.rewatch_watches {settings : WakeSettings} (watching : s.power.state = .sleepPending ∨ s.power.state = .sleeping)
    (given : s.power.settings = some settings) :
    s.rewatch = s.withPower { s.power with patternTimers := s.watchPatterns settings } := by
  unfold State.rewatch
  rcases watching with state | state <;> simp only [state, given]

theorem State.rewatch_awake (running : s.power.state = .running) : s.rewatch = s := by
  simp only [State.rewatch, running]

end Sys2Proof.Machine
end

section
/-! What a debounced change, the cover and an ABORT do to a MOVE, a CAPTURE and an EMIT (R85, R92, R101, R106, R107, R115,
R118 to R120). -/

namespace Sys2Proof.Machine

open Sys2Proof

variable {s t u v w : State} {c : Chan} {x : Sensor}

/-! ### Channels that stop hard (R87) -/

theorem Channel.hardStop_motion {y : Channel} (moves : y.state = .moving ∨ y.state = .paused ∨ y.state = .boundaryWait) :
    y.hardStop = y.enterHolding := by
  have motion : y.inMotion = true := by rcases moves with state | state | state <;> simp only [Channel.inMotion, state]
  rw [Channel.hardStop, if_pos motion]

/-- A hard stop leaves the phase index, and no channel in motion. -/
theorem Channel.hardStop_stops (y : Channel) :
    y.hardStop.phase = y.phase ∧ (y.hardStop.state = .holding ∨ y.hardStop.state = .off) := by
  by_cases moves : y.state = .moving ∨ y.state = .paused ∨ y.state = .boundaryWait
  · rw [Channel.hardStop_motion moves]
    exact y.enterHolding_stopped
  · have still : y.inMotion = false := by
      unfold Channel.inMotion
      cases state : y.state <;> simp_all
    rw [Channel.hardStop, if_neg (by rw [still]; nofun)]
    refine ⟨rfl, ?_⟩
    change y.state = .holding ∨ y.state = .off
    cases state : y.state <;> simp_all

/-- A hard stop leaves what a MOVE counts. -/
theorem Channel.hardStop_counts (y : Channel) : y.hardStop.edge = y.edge ∧ y.hardStop.before = y.before ∧ y.hardStop.r = y.r := by
  unfold Channel.hardStop Channel.enterHolding Channel.startHold
  (repeat' split) <;> exact ⟨rfl, rfl, rfl⟩

theorem Channel.Follows.counts {y z : Channel} (f : y.Follows z) : z.phase = y.phase ∧ z.edge = y.edge ∧ z.before = y.before
    ∧ z.r = y.r := by
  rcases f with rfl | rfl
  · exact ⟨rfl, rfl, rfl, rfl⟩
  · unfold Channel.deEnergise
    split <;> exact ⟨rfl, rfl, rfl, rfl⟩

/-! ### MOVE (R85, R88, R92) -/

theorem Follows.chan (f : Follows u t) (c : Chan) : (u.chan c).Follows (t.chan c) := by
  cases c
  · exact f.chanD
  · exact f.chanP

theorem State.endMove_chan (r : Result) : (s.endMove c r).chan c = (s.chan c).hardStop := by
  have beside : (s.endMove c r).besideReports = (s.withChan c (s.chan c).hardStop).besideReports :=
    State.endOrder_besideReports ..
  cases c
  · exact State.chanD_of_besideReports beside
  · exact State.chanP_of_besideReports beside

theorem State.endMove_outcome {ro : Running} (running : s.running (chanQueue c) = some ro) (r : Result) :
    ((s.endMove c r).running (chanQueue c)).map (fun y => (y.result, y.figures)) = some (r, (s.chan c).moveFigures) := by
  refine State.endOrder_outcome (s := s.withChan c _) (ro := ro) ?_ ..
  rw [← running]
  exact congrArg (fun i : Intake => (i.queue (chanQueue c)).running) (State.withChan_intake ..)

/-- The channel of an EDGE move that has taken its edge (R85). -/
def Channel.taken (y : Channel) (extra : Nat) : Channel := { y with edge := true, before := y.made, r := extra }

theorem State.edgeMove_taken {p : MoveParams} {e : EdgeParams} (edge : p.edge = some e) (sensor : e.sensor = x)
    (fresh : (s.chan c).edge = false) (moving : (s.chan c).state = .moving) : s.edgeMove c p x e.rising
      = if e.extra = 0 then (s.withChan c ((s.chan c).taken e.extra)).endMove c .ok
        else s.withChan c ((s.chan c).taken e.extra) := by
  simp only [State.edgeMove, edge]
  rw [if_pos ⟨sensor, trivial, by rw [fresh]; rfl, moving⟩]
  rfl

/-! ### CAPTURE (R101, R106, R107) -/

section
variable {p : CaptureParams} {r : CaptureRecord} {result : Result}

theorem State.withdrawClocking_writing {i : StoreId} {line : Nat} {words : List Word} (b : Fin 4)
    (writes : s.capture.store i = .writing line words) : (s.withdrawClocking b).capture.store i = .writing line words := by
  cases clocks : s.capture.clocking with
  | none =>
    rw [State.withdrawClocking_none b clocks]
    exact writes
  | some j =>
    rw [(State.withdrawClocking_sides clocks b).1]
    rcases StoreId.eq_or_other j i with rfl | rfl
    · exfalso
      unfold CaptureEngine.clocking at clocks
      split at clocks
      · next line' a => cases clocks; cases writes.symm.trans a
      · next line' b _ => cases clocks; cases writes.symm.trans b
      · cases clocks
    · rw [(s.capture.store_withStore j .empty).2]
      exact writes

theorem State.withdrawClocking_keeps (b : Fin 4) : (s.withdrawClocking b).chanD = s.chanD
    ∧ (s.withdrawClocking b).capture.record = s.capture.record := by
  cases clocks : s.capture.clocking with
  | none =>
    rw [State.withdrawClocking_none b clocks]
    exact ⟨rfl, rfl⟩
  | some j =>
    obtain ⟨capture, -, chanD⟩ := State.withdrawClocking_sides clocks b
    rw [capture, chanD]
    cases j <;> exact ⟨rfl, rfl⟩

/-- A capture that is stopped: the line being clocked is withdrawn, lines WRITING stay, channel D stops hard, and the record
is in DONE. -/
theorem State.captureBreak_sides (now : s.captureNow = some (p, r)) (running : r.phase ≠ .done) :
    (s.captureBreak result).capture.record = some (r.decided result)
      ∧ (s.captureBreak result).chanD = s.chanD.hardStop
      ∧ (∀ i, s.capture.clocking = some i → (s.captureBreak result).capture.store i = .empty
        ∧ (s.captureBreak result).bands = s.bands.set p.band s.bands[p.band].withdraw)
      ∧ (s.capture.clocking = none → (s.captureBreak result).bands = s.bands)
      ∧ ∀ i line words, s.capture.store i = .writing line words →
        (s.captureBreak result).capture.store i = .writing line words := by
  have beside := (s.withdrawClocking p.band).captureStop_besideReports r result
  rw [← State.captureBreak_running now running] at beside
  have capture := State.capture_of_besideReports beside
  have bands : (s.captureBreak result).bands = (s.withdrawClocking p.band).bands :=
    (State.bands_of_besideReports beside).trans rfl
  have chanD : (s.captureBreak result).chanD = (s.withdrawClocking p.band).chanD.hardStop :=
    (State.chanD_of_besideReports beside).trans rfl
  have store (i : StoreId) : (s.captureBreak result).capture.store i = (s.withdrawClocking p.band).capture.store i := by
    rw [capture]
    cases i <;> rfl
  refine ⟨congrArg CaptureEngine.record capture, by rw [chanD, (s.withdrawClocking_keeps p.band).1], fun i clocks => ?_,
    fun still => by rw [bands, State.withdrawClocking_none _ still], fun i line words writes => ?_⟩
  · obtain ⟨capture', bands', -⟩ := s.withdrawClocking_sides clocks p.band
    rw [store, capture', bands, bands']
    exact ⟨(s.capture.store_withStore i .empty).1, rfl⟩
  · rw [store]
    exact State.withdrawClocking_writing _ writes

/-- The leading edge with lines to skip (R101). -/
theorem State.docEdge_skips (now : s.captureNow = some (p, r)) (approach : r.phase = .approach) (skip : p.skipLines ≠ 0) :
    s.docEdge true = (s.withChanD { s.chanD with r := p.skipLines * p.stepsPerLine, atLevel := 0 }).withCaptureRecord
      { r with phase := .skip, docLines := 0, stepsInPhase := 0, stepsInLine := 0 } := by
  simp only [State.docEdge, now, approach]
  exact if_neg skip

/-- A SCANNING boundary of a document that goes on is paced (R102, R122). -/
theorem State.scanBoundary_paced {q : CaptureRecord} (fresh : q.trailing = false)
    (limit : p.lineLimit = 0 ∨ q.scanLines < p.lineLimit) (short : q.docLines < p.maxLength) :
    s.scanBoundary p q = s.paceCapture p q := by
  have reached : q.limitReached p = false := by
    rw [CaptureRecord.limitReached]
    rcases limit with none | below
    · simp [none]
    · simp [Nat.not_le.mpr below]
  rw [State.scanBoundary, if_neg (by rw [fresh]; nofun), if_neg (by rw [reached]; nofun), if_neg (Nat.not_le.mpr short)]

/-- The leading edge with no line to skip: the first boundary, which is paced (R101, R102, R122). -/
theorem State.docEdge_scans (now : s.captureNow = some (p, r)) (approach : r.phase = .approach) (fresh : r.trailing = false)
    (skip : p.skipLines = 0) (limit : p.lineLimit = 0 ∨ r.scanLines < p.lineLimit) (long : p.maxLength ≠ 0) :
    s.docEdge true = (s.withChanD { s.chanD with paced := some (p.band, .capture) }).paceCapture p
      { r with phase := .scanning, docLines := 0, stepsInPhase := 0, stepsInLine := 0 } := by
  have skips : s.docEdge true = s.enterSkip p r := by simp only [State.docEdge, now, approach]
  rw [skips, State.enterSkip, if_pos skip]
  exact State.scanBoundary_paced fresh limit (Nat.pos_of_ne_zero long)

theorem State.docEdge_trails (now : s.captureNow = some (p, r)) (phase : r.phase = .skip ∨ r.phase = .scanning) :
    s.docEdge false = s.withCaptureRecord { r with trailing := true } := by
  rcases phase with phase | phase <;> simp only [State.docEdge, now, phase]

end

/-! ### EMIT (R115, R118, R119) -/

section
variable {p : EmitParams} {r : EmitRecord}

theorem State.paperFall_noted (now : s.emitNow = some (p, r)) (printing : r.phase = .printing)
    (goes : s.chanP.state = .moving ∨ s.chanP.state = .boundaryWait ∧ s.emit.strobing ≠ none) :
    s.paperFall = s.withEmitRecord { r with paperLost := true } := by
  have away : ¬ (s.chanP.state = .paused ∨ s.chanP.state = .boundaryWait ∧ s.emit.strobing = none) := by
    rcases goes with state | ⟨state, hot⟩
    · simp [state]
    · simp [state, hot]
  simp only [State.paperFall, now]
  rw [if_pos printing, if_neg away]

theorem State.paperFall_stops (now : s.emitNow = some (p, r)) (printing : r.phase = .printing)
    (waits : s.chanP.state = .paused ∨ s.chanP.state = .boundaryWait ∧ s.emit.strobing = none) :
    s.paperFall = s.emitStop p { r with paperLost := true } .paperOut .paperOut := by
  simp only [State.paperFall, now]
  rw [if_pos printing, if_pos waits]
  rfl

theorem State.emitCover_done (now : s.emitNow = some (p, r)) (done : r.phase = .done) : s.emitCover = s := by
  simp only [State.emitCover, now]
  exact if_pos done

theorem State.emitCover_stops (now : s.emitNow = some (p, r)) (running : r.phase ≠ .done) :
    s.emitCover = s.emitStop p r .coverOpen .cover := by
  simp only [State.emitCover, now]
  exact if_neg running

end

end Sys2Proof.Machine
end

section
/-! DEBOUNCED_CHANGE settled: the level, the report, the watches, and the orders of the two channels (R49, R85, R89, R92,
R101, R115, R148). -/

namespace Sys2Proof.Machine

open Sys2Proof

variable {s t u v w : State} {x : Sensor} {level reportLast pFirst : Bool}

/-! ### The expiry -/

/-- The state with the debounced level of a sensor taken from its input (R89). -/
def State.debounced (s : State) (x : Sensor) (level : Bool) : State :=
  s.withSensors (s.sensors.set (sensorNumber x) { input := level, level := level, timer := false })

theorem exec_debouncedChange (timer : s.sensors[sensorNumber x].timer = true) (input : s.sensors[sensorNumber x].input = level)
    (changed : level ≠ s.sensors[sensorNumber x].level) : exec (.debouncedChange x reportLast pFirst) s
      = finish ((s.debounced x level).deliver x level reportLast pFirst) := by
  subst input
  exact if_pos ⟨timer, changed⟩

theorem exec_debouncedChange_stopped
    (h : s.sensors[sensorNumber x].timer = false ∨ s.sensors[sensorNumber x].input = s.sensors[sensorNumber x].level) :
    exec (.debouncedChange x reportLast pFirst) s = .next s := by
  refine if_neg fun k => ?_
  rcases h with h | h
  · rw [h] at k
    cases k.1
  · exact k.2 h

/-- With no order on either channel the delivery is the report's (R90). -/
theorem State.deliver_idle (d : v.activeWork .d = none) (p : v.activeWork .p = none) (running : v.power.state = .running) :
    v.deliver x level reportLast pFirst = v.offerSensor x := by
  have sensorD (w : State) (h : w.activeWork .d = none) : w.sensorD x level = w := by simp only [State.sensorD, h]
  have sensorP (w : State) (h : w.activeWork .p = none) : w.sensorP x level = w := by simp only [State.sensorP, h]
  have channels (w : State) (d : w.activeWork .d = none) (p : w.activeWork .p = none) : w.sensorChannels x level pFirst = w := by
    rw [State.sensorChannels, sensorD w d, sensorP w p, sensorD w d, ite_self]
  obtain ⟨pending, waiting, offered, -⟩ := v.offerSensor_cases x
  have awake : (v.offerSensor x).rewatch = v.offerSensor x := State.rewatch_awake (by rw [offered]; exact running)
  rw [State.deliver, channels v d p, channels (v.offerSensor x) (by rw [offered]; exact d) (by rw [offered]; exact p), awake, ite_self]

/-! ### The report (R45, R49) -/

section
variable (masked : v.reports.sensorMask.getLsbD (sensorNumber x).val = true)
include masked

theorem State.offerSensor_enters (area : v.hasReports = true) (room : v.reports.pending.length < 8)
    (none : v.sensorWaits = false) : v.offerSensor x = v.withReports { v.reports with
      pending := v.reports.pending ++ [sensorReport (sensorBit x) v.levels] } := by
  have offered : v.offerSensor x = v.offer .motor (.sensor (sensorBit x) v.levels) := by
    rw [State.offerSensor, if_neg (by rw [masked]; nofun), if_neg (by rw [none]; nofun)]
  rw [offered, State.offer, if_pos (v.hasRoom_of_room room)]
  exact if_pos area

theorem State.offerSensor_waits (area : v.hasReports = true) (full : 8 ≤ v.reports.pending.length)
    (none : v.sensorWaits = false) : v.offerSensor x = v.withReports { v.reports with
      waiting := v.reports.waiting ++ [⟨.motor, .sensor (sensorBit x) v.levels⟩] } := by
  have offered : v.offerSensor x = v.offer .motor (.sensor (sensorBit x) v.levels) := by
    rw [State.offerSensor, if_neg (by rw [masked]; nofun), if_neg (by rw [none]; nofun)]
  rw [offered, State.offer, if_neg (by rw [v.hasRoom_full area full]; nofun)]

omit masked in
theorem mergeSensor_other {changed levels : BitVec 6} {y : Waiting} (other : ∀ c l, y.item ≠ .sensor c l) :
    mergeSensor changed levels y = y := by
  unfold mergeSensor
  cases item : y.item with
  | sensor c l => exact absurd item (other c l)
  | notice _ _ => rfl
  | completion _ => rfl
  | report _ => rfl

theorem State.offerSensor_merges {older newer : List Waiting} {block : Block} {changed levels : BitVec 6}
    (waits : v.reports.waiting = older ++ ⟨block, .sensor changed levels⟩ :: newer)
    (alone : ∀ y ∈ older ++ newer, ∀ c l, y.item ≠ .sensor c l) : v.offerSensor x = v.withReports { v.reports with
      waiting := older ++ ⟨block, .sensor (changed ||| sensorBit x) v.levels⟩ :: newer } := by
  have some : v.sensorWaits = true := by simp [State.sensorWaits, waits]
  have stays (l : List Waiting) (within : ∀ y ∈ l, y ∈ older ++ newer) : l.map (mergeSensor (sensorBit x) v.levels) = l :=
    (List.map_congr_left (g := id) fun y hy => mergeSensor_other (alone y (within y hy))).trans (List.map_id _)
  have merged : v.reports.waiting.map (mergeSensor (sensorBit x) v.levels)
      = older ++ ⟨block, .sensor (changed ||| sensorBit x) v.levels⟩ :: newer := by
    rw [waits, List.map_append, List.map_cons, stays older fun y hy => List.mem_append_left _ hy,
      stays newer fun y hy => List.mem_append_right _ hy]
    rfl
  rw [State.offerSensor, if_neg (by rw [masked]; nofun), if_pos some, merged]

end

/-! ### The watches (R148) -/

theorem State.matches_iff {pattern : Pattern} : s.matches pattern = true ↔ ∀ y : Sensor,
    pattern.mask.getLsbD (sensorNumber y).val = true → pattern.levels.getLsbD (sensorNumber y).val = s.level y := by
  have all (y : Sensor) : y ∈ allSensors := by cases y <;> decide
  rw [State.matches, List.all_eq_true]
  constructor
  · intro h y masked
    have := h y (all y)
    rw [masked] at this
    simpa using this
  · intro h y _
    cases masked : pattern.mask.getLsbD (sensorNumber y).val with
    | false => rfl
    | true => simpa using h y masked

theorem sensorNumber_injective {y z : Sensor} (h : sensorNumber y = sensorNumber z) : y = z := by
  cases y <;> cases z <;> first
    | rfl
    | exact absurd h (by decide)

theorem State.debounced_level (y : Sensor) : (s.debounced x level).level y
    = if y = x then level else s.sensors[sensorNumber y].level := by
  unfold State.level State.debounced
  change (s.sensors.set (sensorNumber x) _)[sensorNumber y].level = _
  split
  · next same =>
    subst same
    rw [Fin.getElem_fin, Vector.getElem_set_self]
  · next other =>
    have away : (sensorNumber x).val ≠ (sensorNumber y).val := fun h => other (sensorNumber_injective (Fin.ext h)).symm
    rw [Fin.getElem_fin, Vector.getElem_set_ne _ _ away]
    rfl

theorem State.watchPatterns_iff {settings : WakeSettings} (p : Fin 4) : (s.watchPatterns settings)[p] = true
    ↔ settings.patternOn.getLsbD p.val = true ∧ s.matches settings.patterns[p] = true := by
  rw [State.watchPatterns, Fin.getElem_fin, Vector.getElem_ofFn, Bool.and_eq_true]

/-! ### The two sides after a delivery -/

/-- What a debounced change makes of the side of channel D. -/
structure ScanDelivered (s : State) (x : Sensor) (level : Bool) (t w : State) : Prop where
  kept : ScanKept (s.debounced x level) w
  capture : t.capture = (w.sensorD x level).capture
  chanD : (w.sensorD x level).chanD.Follows t.chanD
  running : t.running .d = (w.sensorD x level).running .d
  undrained : ∀ n : Fin 4, t.bands[n].undrained = (w.sensorD x level).bands[n].undrained
  bands : x ≠ .coverClosed → x ≠ .paperPresent → w.bands = s.bands ∧ t.bands = (w.sensorD x level).bands

theorem scanDelivered {c : Instr} (run : exec c s = finish ((s.debounced x level).deliver x level reportLast pFirst)) :
    ∃ t w, exec c s = .next t ∧ ScanDelivered s x level t w := by
  obtain ⟨t, ht, f⟩ := leads_of_finish run
  obtain ⟨w, z, before, after, delivered, bands⟩ := (s.debounced x level).deliver_scan x level reportLast pFirst
  obtain ⟨timers, watched⟩ := z.rewatch_cases
  rw [delivered, watched] at f
  have kept := ScanKept.of_besidePrinting after
  refine ⟨t, w, ht, ScanKept.of_besidePrinting before, f.capture.trans kept.capture, ?_,
    (f.running (q := .d) nofun).trans kept.running, fun n => ?_, fun cover paper => ?_⟩
  · rw [← kept.chanD]
    exact f.chanD
  · rw [f.bands]
    exact kept.bands n
  · obtain ⟨bands, bands'⟩ := bands cover paper
    exact ⟨bands, f.bands.trans bands'⟩

/-- What a debounced change makes of the side of channel P. -/
structure PrintDelivered (s : State) (x : Sensor) (level : Bool) (t w : State) : Prop where
  kept : PrintKept (s.debounced x level) w
  emit : t.emit = (w.sensorP x level).emit
  chanP : (w.sensorP x level).chanP.Follows t.chanP
  running : t.running .p = (w.sensorP x level).running .p
  unclaimed : ∀ n : Fin 4, t.bands[n].unclaimed = (w.sensorP x level).bands[n].unclaimed
  bands : x ≠ .coverClosed → x ≠ .docAtLine → w.bands = s.bands ∧ t.bands = (w.sensorP x level).bands
  fetch : (∀ q, (w.sensorP x level).emit.record = some q → q.phase = .done) →
    (w.sensorP x level).port.fetchReq = false → t.port.fetchReq = false

theorem printDelivered {c : Instr} (run : exec c s = finish ((s.debounced x level).deliver x level reportLast pFirst)) :
    ∃ t w, exec c s = .next t ∧ PrintDelivered s x level t w := by
  obtain ⟨w, z, before, after, delivered, bands⟩ := (s.debounced x level).deliver_print x level reportLast pFirst
  obtain ⟨timers, watched⟩ := z.rewatch_cases
  rw [delivered, watched] at run
  have f := (z.withPower { z.power with patternTimers := timers }).settle_follows
  have kept := PrintKept.of_besideScan after
  refine ⟨_, w, run, PrintKept.of_besideScan before, f.emit.trans kept.emit, ?_, (f.running (q := .p) nofun).trans kept.running,
    fun n => ?_, fun cover line => ?_, fun decided none => ?_⟩
  · rw [← kept.chanP]
    exact f.chanP
  · rw [f.bands]
    exact kept.bands n
  · obtain ⟨bands, bands'⟩ := bands cover line
    exact ⟨bands, f.bands.trans bands'⟩
  · refine State.settle_asks_none (fun q hq => decided q ?_) ?_
    · rw [← kept.emit]
      exact hq
    · exact (congrArg Prod.fst kept.fetch).trans none

end Sys2Proof.Machine
end

section
/-! DEBOUNCED_CHANGE settled. -/

namespace Sys2Proof.Machine

open Sys2Proof

variable {s t u v w : State} {x : Sensor} {level reportLast pFirst : Bool} {c : Chan}

/-! ### MOVE -/

/-- What a debounced change makes of a channel that carries out a MOVE. -/
theorem moveDelivered {i : Instr} {p : MoveParams}
    (run : exec i s = finish ((s.debounced x level).deliver x level reportLast pFirst))
    (work : s.activeWork (chanQueue c) = some (.move p)) : ∃ t w y : State, exec i s = .next t ∧ w.chan c = s.chan c
      ∧ w.running (chanQueue c) = s.running (chanQueue c)
      ∧ y = (if x = .coverClosed then (if level then w else w.endMove c .coverOpen) else w.edgeMove c p x level)
      ∧ (y.chan c).Follows (t.chan c) ∧ t.running (chanQueue c) = y.running (chanQueue c) := by
  cases c with
  | d =>
    obtain ⟨t, w, ht, f⟩ := scanDelivered run
    have work' : w.activeWork .d = some (.move p) := f.kept.activeWork.trans work
    refine ⟨t, w, w.sensorD x level, ht, f.kept.chanD, f.kept.running, ?_, f.chanD, f.running⟩
    simp only [State.sensorD, work']
  | p =>
    obtain ⟨t, w, ht, f⟩ := printDelivered run
    have work' : w.activeWork .p = some (.move p) := f.kept.activeWork.trans work
    refine ⟨t, w, w.sensorP x level, ht, f.kept.chanP, f.kept.running, ?_, f.chanP, f.running⟩
    simp only [State.sensorP, work']

theorem move_uncovered {i : Instr} {p : MoveParams}
    (run : exec i s = finish ((s.debounced .coverClosed false).deliver .coverClosed false reportLast pFirst))
    (work : s.activeWork (chanQueue c) = some (.move p)) : ∃ t, exec i s = .next t
      ∧ (t.running (chanQueue c)).map (·.result) = some .coverOpen ∧ (t.chan c).phase = (s.chan c).phase
      ∧ (t.chan c).state ≠ .moving := by
  obtain ⟨t, w, y, ht, chan, running, rfl, follows, ran⟩ := moveDelivered run work
  rw [if_pos rfl, if_neg nofun] at follows ran
  obtain ⟨ro, runs, -, -⟩ := State.running_of_active work
  have outcome := State.endMove_outcome (running.trans runs) .coverOpen
  rw [State.endMove_chan, chan] at follows
  obtain ⟨phase, still⟩ := (s.chan c).hardStop_stops
  obtain ⟨phase', still'⟩ := follows.stopped still
  refine ⟨t, ht, ?_, phase'.trans phase, not_moving_of_stopped still'⟩
  rw [ran]
  have result := congrArg (Option.map Prod.fst) outcome
  rwa [Option.map_map] at result

theorem move_edge {i : Instr} {p : MoveParams} {e : EdgeParams}
    (run : exec i s = finish ((s.debounced x e.rising).deliver x e.rising reportLast pFirst))
    (work : s.activeWork (chanQueue c) = some (.move p)) (edge : p.edge = some e) (sensor : e.sensor = x)
    (other : x ≠ .coverClosed) (moving : (s.chan c).state = .moving) (fresh : (s.chan c).edge = false) :
    ∃ t, exec i s = .next t ∧ (t.chan c).edge = true ∧ (t.chan c).before = (s.chan c).made ∧ (t.chan c).r = e.extra
      ∧ (e.extra = 0 → (t.running (chanQueue c)).map (·.result) = some .ok)
      ∧ (e.extra ≠ 0 → (t.chan c).state = .moving ∧ (t.chan c).stepTimer = (s.chan c).stepTimer) := by
  obtain ⟨t, w, y, ht, chan, running, rfl, follows, ran⟩ := moveDelivered run work
  rw [if_neg other, State.edgeMove_taken edge sensor (by rw [chan]; exact fresh) (by rw [chan]; exact moving), chan] at follows ran
  obtain ⟨ro, runs, -, -⟩ := State.running_of_active work
  by_cases none : e.extra = 0
  · rw [if_pos none] at follows ran
    rw [State.endMove_chan, State.chan_withChan] at follows
    have runs' : (w.withChan c ((s.chan c).taken e.extra)).running (chanQueue c) = some ro := by
      rw [← runs, ← running]
      exact congrArg (fun i : Intake => (i.queue (chanQueue c)).running) (State.withChan_intake ..)
    have outcome := State.endMove_outcome runs' .ok
    obtain ⟨taken, before, left⟩ := ((s.chan c).taken e.extra).hardStop_counts
    obtain ⟨-, taken', before', left'⟩ := follows.counts
    refine ⟨t, ht, taken'.trans taken, before'.trans before, left'.trans left, fun _ => ?_, fun some => absurd none some⟩
    rw [ran]
    have result := congrArg (Option.map Prod.fst) outcome
    rwa [Option.map_map] at result
  · rw [if_neg none, State.chan_withChan] at follows
    have stands := follows.stands (by rw [Channel.taken, moving]; nofun)
    refine ⟨t, ht, ?_⟩
    rw [stands]
    exact ⟨rfl, rfl, rfl, fun zero => absurd zero none, fun _ => ⟨moving, rfl⟩⟩

/-! ### CAPTURE -/

section
variable {i : Instr} {p : CaptureParams} {r : CaptureRecord} (now : s.captureNow = some (p, r))
include now

theorem ScanDelivered.line (f : ScanDelivered s .docAtLine level t w) : w.sensorD .docAtLine level = w.docEdge level := by
  have work : w.activeWork .d = some (.capture p) := f.kept.activeWork.trans (State.captureNow_iff.mp now).1
  simp only [State.sensorD, work]
  rw [if_neg nofun]
  rfl

theorem ScanDelivered.cover (f : ScanDelivered s .coverClosed false t w) :
    w.sensorD .coverClosed false = w.captureBreak .coverOpen := by
  have work : w.activeWork .d = some (.capture p) := f.kept.activeWork.trans (State.captureNow_iff.mp now).1
  simp only [State.sensorD, work]
  rfl

theorem ScanDelivered.captureNow {x : Sensor} (f : ScanDelivered s x level t w) : w.captureNow = some (p, r) :=
  f.kept.captureNow.trans now

theorem capture_edge_skips (run : exec i s = finish ((s.debounced .docAtLine true).deliver .docAtLine true reportLast pFirst))
    (approach : r.phase = .approach) (skip : p.skipLines ≠ 0) (moving : s.chanD.state = .moving) : ∃ t, exec i s = .next t
      ∧ t.capture.record = some { r with phase := .skip, docLines := 0, stepsInPhase := 0, stepsInLine := 0 }
      ∧ t.chanD = { s.chanD with r := p.skipLines * p.stepsPerLine, atLevel := 0 } := by
  obtain ⟨t, w, ht, f⟩ := scanDelivered run
  have edge := (f.line now).trans (State.docEdge_skips (f.captureNow now) approach skip)
  have capture := f.capture
  have chanD := f.chanD
  rw [edge] at capture chanD
  have chanD' : w.chanD = s.chanD := f.kept.chanD
  refine ⟨t, ht, by rw [capture]; rfl, ?_⟩
  have stands := chanD.stands (by change w.chanD.state ≠ .holding; rw [chanD', moving]; nofun)
  rw [stands, ← chanD']
  rfl

theorem capture_edge_trails (run : exec i s = finish ((s.debounced .docAtLine false).deliver .docAtLine false reportLast pFirst))
    (phase : r.phase = .skip ∨ r.phase = .scanning) :
    ∃ t, exec i s = .next t ∧ t.capture.record = some { r with trailing := true } := by
  obtain ⟨t, w, ht, f⟩ := scanDelivered run
  have edge := (f.line now).trans (State.docEdge_trails (f.captureNow now) phase)
  have capture := f.capture
  rw [edge] at capture
  exact ⟨t, ht, by rw [capture]; rfl⟩

/-- The cover falls during a CAPTURE (R107). -/
theorem capture_uncovers (run : exec i s = finish ((s.debounced .coverClosed false).deliver .coverClosed false reportLast pFirst)) :
    ∃ t, exec i s = .next t ∧ (r.phase = .done → t.capture.record = some r)
      ∧ (r.phase ≠ .done → t.capture.record = some (r.decided .coverOpen)
        ∧ (s.chanD.state = .moving ∨ s.chanD.state = .paused → s.chanD.Stopped t.chanD)
        ∧ (∀ i, s.capture.clocking = some i → t.capture.store i = .empty
          ∧ t.bands[p.band].filling = s.bands[p.band].filling - 1)
        ∧ (s.capture.clocking = none → t.bands[p.band].filling = s.bands[p.band].filling)
        ∧ ∀ i line words, s.capture.store i = .writing line words → t.capture.store i = .writing line words) := by
  obtain ⟨t, w, ht, f⟩ := scanDelivered run
  have delivered := f.cover now
  have now' := f.captureNow now
  obtain ⟨kept, capture, chanD, -, undrained, -⟩ := f
  have stored : w.capture = s.capture := kept.capture
  rw [delivered] at capture chanD undrained
  have filling : w.bands[p.band].filling = s.bands[p.band].filling := (congrArg Band.filling (kept.bands p.band) :)
  have filling' : t.bands[p.band].filling = (w.captureBreak .coverOpen).bands[p.band].filling :=
    (congrArg Band.filling (undrained p.band) :)
  refine ⟨t, ht, fun done => ?_, fun running => ?_⟩
  · have stays : w.captureBreak .coverOpen = w := by
      simp only [State.captureBreak, now']
      rw [if_pos done]
      rfl
    rw [capture, stays, stored]
    exact (State.captureNow_iff.mp now).2
  · obtain ⟨record, stops, clocks, still, writes⟩ := State.captureBreak_sides (result := .coverOpen) now' running
    rw [stored] at clocks still writes
    refine ⟨by rw [capture, record], fun moves => ?_, fun j hj => ?_, fun none => ?_, fun j line words hj => ?_⟩
    · have held : (w.captureBreak .coverOpen).chanD = s.chanD.enterHolding := by
        rw [stops, show w.chanD = s.chanD from kept.chanD]
        exact Channel.hardStop_motion (moves.imp id .inl)
      exact (held ▸ Channel.stopped_enterHolding s.chanD).follows chanD
    · obtain ⟨store, bands⟩ := clocks j hj
      have own : (w.bands.set p.band w.bands[p.band].withdraw)[p.band] = w.bands[p.band].withdraw := Vector.getElem_set_self _
      rw [capture, filling', bands, own, ← filling]
      exact ⟨store, rfl⟩
    · rw [filling', still none, filling]
    · rw [capture]
      exact writes j line words hj

end

end Sys2Proof.Machine
end

section
/-! The first boundary at a document's leading edge, and an EMIT's paper and cover (R101, R115, R119, R122). -/

namespace Sys2Proof.Machine

open Sys2Proof

variable {s t u v w : State} {x : Sensor} {level reportLast pFirst : Bool} {i : Instr}

/-! ### The first boundary (R101, R122) -/

section
variable {p : CaptureParams} {r q : CaptureRecord}

/-- A boundary that proceeds: channel D moves at the paced level, and the line is begun or overrun (R96, R122). -/
theorem State.paceCapture_proceeds {level : Nat} (supply : s.captureCount p.band ≠ 0)
    (paced : level = pacedLevel s.chanD.k (topLevel s.profiles[p.profile]) (s.captureCount p.band)) :
    (s.paceCapture p q).chanD = ({ s.chanD with k := level } : Channel).enterMoving (intervalAt s.profiles[p.profile] level)
    ∧ (∀ i, s.capture.freeStore = some i → s.capture.clocking = none →
      (s.paceCapture p q).bands = s.bands.set p.band s.bands[p.band].claim
      ∧ (s.paceCapture p q).capture.store i = .clocking s.bands[p.band].claimLine
      ∧ (s.paceCapture p q).capture.record = some q.lined)
    ∧ (s.capture.freeStore = none ∨ s.capture.clocking ≠ none → (s.paceCapture p q).bands = s.bands
      ∧ (s.paceCapture p q).capture.record = some { q.lined with overruns := oneMore q.overruns }) := by
  have proceeds : s.paceCapture p q = (s.withChanD (({ s.chanD with k := level } : Channel).enterMoving
      (intervalAt s.profiles[p.profile] level))).beginLine p q.lined := by
    rw [State.paceCapture, if_neg supply, ← paced]
    rfl
  rw [proceeds]
  generalize ({ s.chanD with k := level } : Channel).enterMoving (intervalAt s.profiles[p.profile] level) = z
  refine ⟨State.beginLine_chanD, fun j free still => ?_, fun busy => ?_⟩
  · obtain ⟨bands, store, record, -⟩ := State.beginLine_claims (s := s.withChanD z) (p := p) (q := q.lined) free still
    exact ⟨bands, store, record⟩
  · rw [State.beginLine_overruns (s := s.withChanD z) (p := p) (q := q.lined) busy]
    exact ⟨rfl, rfl⟩

/-- The record at the first boundary of the paced phases (R101, R121). -/
def CaptureRecord.entered (r : CaptureRecord) : CaptureRecord :=
  { r with phase := .scanning, docLines := 0, stepsInPhase := 0, stepsInLine := 0 }

/-- The leading edge with no line to skip (R101, R122). -/
theorem capture_edge_scans (now : s.captureNow = some (p, r))
    (run : exec i s = finish ((s.debounced .docAtLine true).deliver .docAtLine true reportLast pFirst))
    (approach : r.phase = .approach) (fresh : r.trailing = false) (skip : p.skipLines = 0)
    (limit : p.lineLimit = 0 ∨ r.scanLines < p.lineLimit) (long : p.maxLength ≠ 0) (moving : s.chanD.state = .moving) :
    (s.firstSupply p.band = 0 → ∃ t, exec i s = .next t ∧ t.capture.record = some r.entered
      ∧ t.chanD = { s.chanD with
        paced := some (p.band, .capture), holdTimer := none, state := .paused, asked := s.chanD.holdLevel, stepTimer := none
        pauseTimer := if p.pauseLimit = 0 then none else some p.pauseLimit })
    ∧ (s.firstSupply p.band ≠ 0 →
      let at' := min (min (s.chanD.k + 1) (topLevel s.profiles[p.profile])) (s.firstSupply p.band - 1)
      ∃ t, exec i s = .next t
        ∧ t.chanD = { s.chanD with
          paced := some (p.band, .capture), holdTimer := none, k := at', asked := s.chanD.runLevel, pauseTimer := none
          stepTimer := some (intervalAt s.profiles[p.profile] at') }
        ∧ (∀ j, s.capture.freeStore = some j → s.capture.clocking = none →
          t.bands = s.bands.set p.band s.bands[p.band].claim ∧ t.capture.store j = .clocking s.bands[p.band].claimLine
          ∧ t.capture.record = some { r.entered with scanLines := oneMore r.scanLines })
        ∧ (s.capture.freeStore = none ∨ s.capture.clocking ≠ none → t.bands = s.bands
          ∧ t.capture.record = some
            { r.entered with scanLines := oneMore r.scanLines, overruns := oneMore r.overruns })) := by
  obtain ⟨t, w, ht, f⟩ := scanDelivered run
  have edge := (f.line now).trans (State.docEdge_scans (f.captureNow now) approach fresh skip limit long)
  obtain ⟨kept, capture, chanD, -, -, bands⟩ := f
  obtain ⟨bands, bands'⟩ := bands nofun nofun
  rw [edge] at capture chanD bands'
  let d : Channel := { s.chanD with paced := some (p.band, .capture) }
  have paced : ({ w.chanD with paced := some (p.band, .capture) } : Channel) = d := by
    rw [show w.chanD = s.chanD from kept.chanD]
  rw [paced] at capture chanD bands'
  have profiles : w.profiles = s.profiles := kept.profiles
  have stored : w.capture = s.capture := kept.capture
  have count : (w.withChanD d).captureCount p.band = s.firstSupply p.band := by
    have notice : (w.withChanD d).noticeWaits p.band = s.noticeWaits p.band := kept.notice p.band
    have same : (w.withChanD d).bands = s.bands := bands
    rw [State.captureCount, State.firstSupply, notice, same]
    rfl
  constructor
  · intro supply
    have pauses : (w.withChanD d).paceCapture p r.entered
        = ((w.withChanD d).withChanD (d.enterPaused p.pauseLimit)).withCaptureRecord r.entered := if_pos (count.trans supply)
    change t.capture = ((w.withChanD d).paceCapture p r.entered).capture at capture
    change ((w.withChanD d).paceCapture p r.entered).chanD.Follows t.chanD at chanD
    rw [pauses] at capture chanD
    exact ⟨t, ht, by rw [capture]; rfl, chanD.stands nofun⟩
  · intro supply at'
    have level : at' = pacedLevel (w.withChanD d).chanD.k (topLevel (w.withChanD d).profiles[p.profile])
        ((w.withChanD d).captureCount p.band) := by
      rw [count, show (w.withChanD d).profiles = s.profiles from profiles]
      rfl
    obtain ⟨chan, claims, overruns⟩ := State.paceCapture_proceeds (s := w.withChanD d) (q := r.entered)
      (by rw [count]; exact supply) level
    change t.capture = ((w.withChanD d).paceCapture p r.entered).capture at capture
    change ((w.withChanD d).paceCapture p r.entered).chanD.Follows t.chanD at chanD
    change t.bands = ((w.withChanD d).paceCapture p r.entered).bands at bands'
    have free : (w.withChanD d).capture = s.capture := stored
    have same : (w.withChanD d).bands = s.bands := bands
    rw [free, same] at claims overruns
    rw [chan, show (w.withChanD d).profiles = s.profiles from profiles] at chanD
    rw [← capture, ← bands'] at claims overruns
    refine ⟨t, ht, (chanD.stands nofun).trans ?_, claims, overruns⟩
    change ({ d with k := at' } : Channel).enterMoving _ = _
    rw [Channel.enterMoving, ← moving]

end

/-! ### EMIT -/

section
variable {p : EmitParams} {r : EmitRecord} (now : s.emitNow = some (p, r))
include now

theorem PrintDelivered.emitNow (f : PrintDelivered s x level t w) : w.emitNow = some (p, r) := f.kept.emitNow.trans now

theorem PrintDelivered.paper (f : PrintDelivered s .paperPresent false t w) : w.sensorP .paperPresent false = w.paperFall := by
  have work : w.activeWork .p = some (.emit p) := f.kept.activeWork.trans (State.emitNow_iff.mp now).1
  simp only [State.sensorP, work]
  rfl

theorem PrintDelivered.cover (f : PrintDelivered s .coverClosed false t w) : w.sensorP .coverClosed false = w.emitCover := by
  have work : w.activeWork .p = some (.emit p) := f.kept.activeWork.trans (State.emitNow_iff.mp now).1
  simp only [State.sensorP, work]
  rfl

/-- The paper falls while the line under heat is printed (R115). -/
theorem emit_notes_paper (run : exec i s = finish ((s.debounced .paperPresent false).deliver .paperPresent false reportLast pFirst))
    (printing : r.phase = .printing)
    (goes : s.chanP.state = .moving ∨ s.chanP.state = .boundaryWait ∧ s.emit.strobing ≠ none) :
    ∃ t, exec i s = .next t ∧ t.emit.record = some { r with paperLost := true } := by
  obtain ⟨t, w, ht, f⟩ := printDelivered run
  have emit : w.emit = s.emit := f.kept.emit
  have chanP : w.chanP = s.chanP := f.kept.chanP
  have noted := State.paperFall_noted (f.emitNow now) printing (by rw [emit, chanP]; exact goes)
  have after := f.emit
  rw [f.paper now, noted] at after
  exact ⟨t, ht, by rw [after]; rfl⟩

/-- What an emit that stops leaves, once all is delivered (R61, R118, R119). -/
theorem PrintDelivered.stopped {q : EmitRecord} {result : Result} {reason : EndReason} (f : PrintDelivered s x level t w)
    (stops : w.sensorP x level = w.emitStop p q result reason) :
    t.emit.storeA = PrintStore.none ∧ t.emit.storeB = PrintStore.none
      ∧ t.emit.record = some { q with phase := .done, result := result, endReason := some reason }
      ∧ t.port.fetchReq = false ∧ s.chanP.hardStop.Follows t.chanP
      ∧ (∀ n : Fin 4, t.bands[n].unclaimed = (w.bands.set p.band w.bands[p.band].revert)[n].unclaimed)
      ∧ (x ≠ .coverClosed → x ≠ .docAtLine → t.bands = s.bands.set p.band s.bands[p.band].revert)
      ∧ (t.running .p).map (fun y => (y.result, y.figures)) = some (result, [wordNat q.printed, wordNat reason.code]) := by
  have active : w.activeWork .p = some (.emit p) := (State.emitNow_iff.mp (f.emitNow now)).1
  obtain ⟨kept, emit, chanP, running, unclaimed, bands, fetch⟩ := f
  rw [stops] at emit chanP running unclaimed bands fetch
  obtain ⟨beside, outcome⟩ := State.emitStop_sides active q result reason
  have emitted := State.emit_of_besideReports beside
  have banded : (w.emitStop p q result reason).bands = w.bands.set p.band w.bands[p.band].revert :=
    State.bands_of_besideReports beside
  have asked : (w.emitStop p q result reason).port.fetchReq = false := congrArg Port.fetchReq (State.port_of_besideReports beside)
  rw [State.emitStop_chanP active, show w.chanP = s.chanP from kept.chanP] at chanP
  have decided : ∀ q', (w.emitStop p q result reason).emit.record = some q' → q'.phase = .done := by
    intro q' hq
    rw [emitted] at hq
    cases hq
    rfl
  have requests := fetch decided asked
  rw [emitted] at emit
  rw [banded] at unclaimed bands
  rw [running]
  refine ⟨by rw [emit]; rfl, by rw [emit]; rfl, by rw [emit]; rfl, requests, chanP, unclaimed, fun cover line => ?_, outcome⟩
  obtain ⟨same, set⟩ := bands cover line
  rw [set, same]

/-- The paper falls with channel P PAUSED or before the latch (R115, R118, R127). -/
theorem emit_loses_paper (run : exec i s = finish ((s.debounced .paperPresent false).deliver .paperPresent false reportLast pFirst))
    (printing : r.phase = .printing)
    (waits : s.chanP.state = .paused ∨ s.chanP.state = .boundaryWait ∧ s.emit.strobing = none) :
    ∃ t, exec i s = .next t ∧ s.chanP.Stopped t.chanP ∧ t.bands = s.bands.set p.band s.bands[p.band].revert
      ∧ t.emit.storeA = PrintStore.none ∧ t.emit.storeB = PrintStore.none
      ∧ t.emit.record = some
        { r with paperLost := true, phase := .done, result := .paperOut, endReason := some .paperOut }
      ∧ (t.running .p).map (fun y => (y.result, y.figures)) = some (.paperOut, [wordNat r.printed, 3]) := by
  obtain ⟨t, w, ht, f⟩ := printDelivered run
  have emit : w.emit = s.emit := f.kept.emit
  have chanP : w.chanP = s.chanP := f.kept.chanP
  have stops := (f.paper now).trans
    (State.paperFall_stops (f.emitNow now) printing (by rw [emit, chanP]; exact waits))
  obtain ⟨storeA, storeB, record, -, follows, -, bands, outcome⟩ := f.stopped now stops
  rw [Channel.hardStop_motion (waits.elim (.inr ∘ .inl) fun k => .inr (.inr k.1))] at follows
  exact ⟨t, ht, (Channel.stopped_enterHolding _).follows follows, bands nofun nofun, storeA, storeB, record, outcome⟩

/-- The cover falls during an EMIT (R119). -/
theorem emit_uncovers (run : exec i s = finish ((s.debounced .coverClosed false).deliver .coverClosed false reportLast pFirst)) :
    ∃ t, exec i s = .next t ∧ (r.phase = .done → t.emit.record = some r)
      ∧ (r.phase ≠ .done → t.emit.record = some
          { r with phase := .done, result := .coverOpen, endReason := some .cover }
        ∧ (s.chanP.state = .moving ∨ s.chanP.state = .paused ∨ s.chanP.state = .boundaryWait →
          s.chanP.Stopped t.chanP)
        ∧ t.emit.storeA = PrintStore.none ∧ t.emit.storeB = PrintStore.none ∧ t.port.fetchReq = false
        ∧ t.bands[p.band].draining = 0 ∧ t.bands[p.band].c = s.bands[p.band].c
        ∧ t.bands[p.band].d = s.bands[p.band].d
        ∧ (t.running .p).map (fun y => (y.result, y.figures)) = some (.coverOpen, [wordNat r.printed, 6])) := by
  obtain ⟨t, w, ht, f⟩ := printDelivered run
  refine ⟨t, ht, fun done => ?_, fun running => ?_⟩
  · have emit := f.emit
    rw [f.cover now, State.emitCover_done (f.emitNow now) done] at emit
    rw [emit]
    exact (State.emitNow_iff.mp (f.emitNow now)).2
  · have stops := (f.cover now).trans (State.emitCover_stops (f.emitNow now) running)
    obtain ⟨storeA, storeB, record, fetch, follows, bands, -, outcome⟩ := f.stopped now stops
    have own : (w.bands.set p.band w.bands[p.band].revert)[p.band] = w.bands[p.band].revert := Vector.getElem_set_self _
    have reverted := bands p.band
    have kept := f.kept.bands p.band
    rw [own] at reverted
    have draining : t.bands[p.band].draining = 0 := (congrArg Band.draining reverted :)
    have c : t.bands[p.band].c = w.bands[p.band].c := (congrArg Band.c reverted :)
    have d : t.bands[p.band].d = w.bands[p.band].d := (congrArg Band.d reverted :)
    have c' : w.bands[p.band].c = s.bands[p.band].c := (congrArg Band.c kept :)
    have d' : w.bands[p.band].d = s.bands[p.band].d := (congrArg Band.d kept :)
    refine ⟨record, fun moves => ?_, storeA, storeB, fetch, draining, c.trans c', d.trans d', outcome⟩
    rw [Channel.hardStop_motion moves] at follows
    exact (Channel.stopped_enterHolding _).follows follows

end

end Sys2Proof.Machine
end

section
/-! SENSOR_INPUT_CHANGE and DEBOUNCED_CHANGE settled. -/

namespace Sys2Proof.Machine

open Sys2Proof

variable {s t : State} {x : Sensor} {level reportLast pFirst : Bool} {i : Instr}

/-- A pending or entered sleep watches its patterns by the new levels (R148). -/
theorem debounced_watches {settings : WakeSettings} (watching : s.power.state = .sleepPending ∨ s.power.state = .sleeping)
    (given : s.power.settings = some settings)
    (run : exec i s = finish ((s.debounced x level).deliver x level reportLast pFirst)) : ∃ t, exec i s = .next t
      ∧ t.power = { s.power with patternTimers := t.power.patternTimers }
      ∧ ∀ p : Fin 4, t.power.patternTimers[p] = true ↔ settings.patternOn.getLsbD p.val = true
        ∧ ∀ y : Sensor, settings.patterns[p].mask.getLsbD (sensorNumber y).val = true →
          settings.patterns[p].levels.getLsbD (sensorNumber y).val
            = if y = x then level else s.sensors[sensorNumber y].level := by
  obtain ⟨t, ht, f⟩ := leads_of_finish run
  obtain ⟨w, z, before, after, delivered, -⟩ := (s.debounced x level).deliver_scan x level reportLast pFirst
  have first := ScanKept.of_besidePrinting before
  have between := PrintKept.of_besideScan (w.sensorD_besideScan x level)
  have last := ScanKept.of_besidePrinting after
  have power : z.power = s.power := last.power.trans (between.power.trans first.power)
  have sensors : z.sensors = (s.debounced x level).sensors := last.sensors.trans (between.sensors.trans first.sensors)
  rw [delivered, State.rewatch_watches (by rw [power]; exact watching) (by rw [power]; exact given)] at f
  have awake : t.power = { s.power with patternTimers := z.watchPatterns settings } := by
    rw [← power]
    refine (f.awake ?_).1
    rintro ⟨confirming, -⟩
    have state : s.power.state = .wakeConfirm := (congrArg Power.state power).symm.trans confirming
    rcases watching with other | other <;> cases state.symm.trans other
  refine ⟨t, ht, by rw [awake], fun p => ?_⟩
  have levels (y : Sensor) : z.level y = if y = x then level else s.sensors[sensorNumber y].level := by
    rw [← State.debounced_level, State.level, sensors]
    rfl
  have timers : t.power.patternTimers[p] = (z.watchPatterns settings)[p] := by rw [awake]
  rw [timers, State.watchPatterns_iff, State.matches_iff]
  simp only [levels]

/-- Settles O50. -/
theorem sensorsAreDebouncedAndDelivered : Obligations.SensorsAreDebouncedAndDelivered := by
  intro s x level reportLast pFirst cell expiry
  refine ⟨rfl, exec_debouncedChange_stopped, fun timer input changed => ?_⟩
  have run : exec expiry s = finish ((s.debounced x level).deliver x level reportLast pFirst) :=
    exec_debouncedChange timer input changed
  intro v masked idle
  have alone (d : idle .d) (p : idle .p) (running : s.power.state = .running) :
      exec expiry s = finish (v.offerSensor x) := run.trans (congrArg finish (State.deliver_idle (v := v) d p running))
  refine ⟨fun d p running quiet => ?unmasked, fun d p running on area room none => ?enters,
    fun d p running on area full none => ?waits,
    fun older newer block changed levels d p running on waits others => ?merges,
    fun w watching given => debounced_watches watching given run, fun c p work cover falls => ?moveCover,
    fun c p e work edge sensor rising other moving fresh => ?moveEdge,
    fun p r now line rises approach skip moving => ?skips,
    fun p r now line rises approach fresh skip limit long moving => ?scans,
    fun p r now line falls phase => ?trails, fun p r now paper falls printing goes => ?noted,
    fun p r now paper falls printing waits => ?lost, fun p r now cover falls => ?captureCover,
    fun p r now cover falls => ?emitCover⟩
  case unmasked =>
    have none : v.offerSensor x = v := if_pos (by rw [show v.reports.sensorMask.getLsbD _ = false from quiet]; rfl)
    exact leads_of_finish ((alone d p running).trans (congrArg finish none))
  case enters =>
    exact leads_of_finish ((alone d p running).trans
      (congrArg finish (State.offerSensor_enters (v := v) on area room none)))
  case waits =>
    exact leads_of_finish ((alone d p running).trans
      (congrArg finish (State.offerSensor_waits (v := v) on area full none)))
  case merges =>
    exact leads_of_finish ((alone d p running).trans
      (congrArg finish (State.offerSensor_merges (v := v) on waits others)))
  case moveCover => subst cover falls; exact move_uncovered run work
  case moveEdge => subst rising; exact move_edge run work edge sensor other moving fresh
  case skips => subst line rises; exact capture_edge_skips now run approach skip moving
  case scans =>
    subst line rises
    exact capture_edge_scans now run approach fresh skip limit long moving
  case trails => subst line falls; exact capture_edge_trails now run phase
  case noted => subst paper falls; exact emit_notes_paper now run printing goes
  case lost => subst paper falls; exact emit_loses_paper now run printing waits
  case captureCover => subst cover falls; exact capture_uncovers now run
  case emitCover => subst cover falls; exact emit_uncovers now run

end Sys2Proof.Machine
end

section
/-! ABORT in a state whose queues hold orders that are not theirs (R36, R39). -/

namespace Sys2Proof.Machine

open Sys2Proof

/-- A TRANSFER that runs in the D queue, its report entered. No step brings an order into a queue that is not its own. -/
def misplacedTransfer : Running :=
  { order := { slot := 0, kind := kindTransfer, work := .transfer Mover.reset.params, marked := false }
    stage := .entered, result := .ok, figures := [] }

/-- An ABORT of the D queue in hand, its taken write made. -/
def abortOfD : InHand := { slot := 1, kind := kindAbort, body := [], urgent := true, stage := .validate }

/-- The state after reset with these two. -/
def misplacedState : State := State.reset.withIntake { Intake.reset with
  inHand := some abortOfD, dQueue := { running := some misplacedTransfer, waiting := [] } }

/-- The ABORT marks the running order in the Mover queue's place, and leaves the D queue's as it is. -/
theorem misplacedState_abort : ∃ u : State, exec .abort misplacedState = finish u ∧ u.running .d = some misplacedTransfer :=
  ⟨((misplacedState.withIntake (misplacedState.intake.markWaiting .d)).abortEnding misplacedTransfer).completeOrder abortOfD,
    rfl, rfl⟩

/-- Refutes O43: an ABORT of queue q marks "the running order of q" only where that order is q's own, which the statement
does not ask. With a TRANSFER, its report entered, running in the D queue, ABORT of the D queue takes it for the Mover
queue's order (log 21) and leaves the D queue's order unmarked. -/
theorem not_urgentOrdersAct : ¬ Obligations.UrgentOrdersAct := by
  intro h
  obtain ⟨aborts, -⟩ := h misplacedState abortOfD
  obtain ⟨-, queues⟩ := aborts rfl
  obtain ⟨t, ht, -, -, -, -, -, marks, -⟩ := queues .d rfl
  obtain ⟨u, run, stands⟩ := misplacedState_abort
  have settled : u.settle = t := Host.Outcome.next.inj (run.symm.trans ht)
  have running : t.running .d = some misplacedTransfer := by
    rw [← settled, u.settle_follows.running (q := .d) nofun, stands]
  have marked := marks misplacedTransfer rfl
  rw [running] at marked
  cases marked

end Sys2Proof.Machine
end
